-- ==== Sys2Proof/Word.lean ====
section
/-!
DEFINITION. The plain value types of the Gevjor 4820: bytes, the 48-bit time counter, track numbers.
-/

namespace Sys2Proof

/-- One byte on the link or in the DRAM. -/
abbrev Byte := BitVec 8

/-- A value of the 48-bit time counter (00_scope section 6, "Time counter"); it wraps. -/
abbrev Time := BitVec 48

/-- A track or lane number 0..7 (00_scope section 6). -/
abbrev Track := Fin 8

/-- A DRAM bank number 0..7 (R105). -/
abbrev BankId := Fin 8

/-- A physical page number 0..65535 (R65). -/
abbrev Page := BitVec 16

end Sys2Proof
end

