-- ==== Sys2Proof/Syntax.lean ====
section
/-!
DEFINITION. The commands of the block: one constructor for each row of spec/opcode_table.json.

The table gives its rows no operands. Those here are the model's (logs 1 and 4):
`dt` is how many reference counts after the command before it the event happens;
an event of one of several like things carries which one; an event that several tracks take carries the order in which
they take it. A command named after a request is the command unit's step that takes that request from the head of the
request queue (R172), so its fields come from the queue and not from the command (log 3).
-/

namespace Sys2Proof

/-- The two marker units (R1). -/
inductive MarkerId where
  | A | B
  deriving DecidableEq, Repr

/-- The two levels of a marker input (R3, R6). -/
inductive Level where
  | high | low
  deriving DecidableEq, Repr

/-- The two edges of a marker input (R5). -/
inductive Edge where
  | rising | falling
  deriving DecidableEq, Repr

/-- An edge of one marker input, MKA or MKB (R3). -/
structure InputEdge where
  unit : MarkerId
  edge : Edge
  deriving DecidableEq, Repr

/-- A symbol of the inbound pair (file 10, section 10.1): a data byte, a control symbol, or one that cannot be decoded. -/
inductive Symbol where
  | data (b : Byte)
  | idle
  | start
  | stop
  | undecodable
  deriving DecidableEq, Repr

/-- The commands, one per row of the table of operations and events. -/
inductive Instr where
  -- resets (R177)
  | powerOnReset
  | resetLineAsserted
  | resetLineReleased
  -- inbound frames and the command unit (R168 to R172)
  | inboundFrameEnd (dt : Nat)
  | inboundFrameBroken (dt : Nat) (sym : Symbol)
  | malformed (dt : Nat)
  -- requests, in the table's order
  | setMarker (dt : Nat) (order : List Track)
  | markerStatus (dt : Nat)
  | stageTrack (dt : Nat)
  | commitTrack (dt : Nat)
  | updateOffset (dt : Nat)
  | armTrack (dt : Nat)
  | stopTrack (dt : Nat)
  | abortTrack (dt : Nat)
  | resetTrack (dt : Nat)
  | trackStatus (dt : Nat)
  | loadMap (dt : Nat)
  | checkPage (dt : Nat)
  | pageOwner (dt : Nat)
  | keepSweep (dt : Nat)
  | releaseSweep (dt : Nat)
  | dropSweep (dt : Nat)
  | listSweeps (dt : Nat)
  | sweepInfo (dt : Nat)
  | standby (dt : Nat)
  | wake (dt : Nat)
  | setAutoStandby (dt : Nat)
  | memoryStatus (dt : Nat)
  | setChecking (dt : Nat)
  | readFault (dt : Nat)
  | clearFault (dt : Nat)
  | injectFault (dt : Nat)
  | readSweep (dt : Nat)
  | readMean (dt : Nat)
  | abortRead (dt : Nat)
  | setAveragerEnable (dt : Nat)
  | setAveragerDisable (dt : Nat)
  | averagerStatus (dt : Nat)
  | restartAverage (dt : Nat)
  | setNoticeLevel (dt : Nat)
  | setNoticeThreshold (dt : Nat)
  | noticeStatus (dt : Nat)
  | clearNotices (dt : Nat)
  | queryIdentity (dt : Nat)
  | readClock (dt : Nat)
  | resetPart (dt : Nat)
  -- marker inputs (R3, R6, R14)
  | pulseActiveEdge (dt : Nat) (edge : InputEdge)
  | pulseTrailingEdge (dt : Nat) (edge : InputEdge) (order : List Track)
  | levelComplete (dt : Nat) (unit : MarkerId) (ended : Level)
  | windowClose (dt : Nat) (unit : MarkerId) (order : List Track)
  -- lanes (R29, R32)
  | strobeInstant (dt : Nat) (track : Track)
  | laneWord (dt : Nat) (track : Track) (word : BitVec 16) (parity : Bool)
  -- memory (R107 to R123)
  | memoryGrant (dt : Nat)
  | closeStepComplete (dt : Nat) (bank : BankId)
  | openStepComplete (dt : Nat) (bank : BankId)
  | transferComplete (dt : Nat)
  | refreshComplete (dt : Nat)
  | refreshIntervalExpiry (dt : Nat)
  | wakingExitComplete (dt : Nat)
  | autoStandbyDelayExpiry (dt : Nat)
  -- averager, readout, outbound pair (R160, R146, R174)
  | meanWritten (dt : Nat) (track : Track)
  | meanFrameBuilt (dt : Nat)
  | outboundPairFree (dt : Nat)
  -- inbound symbols (R168)
  | inboundStartSymbol (dt : Nat)
  | inboundDataByte (dt : Nat) (b : Byte)
  deriving DecidableEq, Repr

/-- The elapsed counts a command carries; the resets carry none, since they set the time counter to 0. -/
def Instr.dt : Instr → Nat
  | .powerOnReset => 0
  | .resetLineAsserted => 0
  | .resetLineReleased => 0
  | .inboundFrameEnd dt => dt
  | .inboundFrameBroken dt _ => dt
  | .malformed dt => dt
  | .setMarker dt _ => dt
  | .markerStatus dt => dt
  | .stageTrack dt => dt
  | .commitTrack dt => dt
  | .updateOffset dt => dt
  | .armTrack dt => dt
  | .stopTrack dt => dt
  | .abortTrack dt => dt
  | .resetTrack dt => dt
  | .trackStatus dt => dt
  | .loadMap dt => dt
  | .checkPage dt => dt
  | .pageOwner dt => dt
  | .keepSweep dt => dt
  | .releaseSweep dt => dt
  | .dropSweep dt => dt
  | .listSweeps dt => dt
  | .sweepInfo dt => dt
  | .standby dt => dt
  | .wake dt => dt
  | .setAutoStandby dt => dt
  | .memoryStatus dt => dt
  | .setChecking dt => dt
  | .readFault dt => dt
  | .clearFault dt => dt
  | .injectFault dt => dt
  | .readSweep dt => dt
  | .readMean dt => dt
  | .abortRead dt => dt
  | .setAveragerEnable dt => dt
  | .setAveragerDisable dt => dt
  | .averagerStatus dt => dt
  | .restartAverage dt => dt
  | .setNoticeLevel dt => dt
  | .setNoticeThreshold dt => dt
  | .noticeStatus dt => dt
  | .clearNotices dt => dt
  | .queryIdentity dt => dt
  | .readClock dt => dt
  | .resetPart dt => dt
  | .pulseActiveEdge dt _ => dt
  | .pulseTrailingEdge dt _ _ => dt
  | .levelComplete dt _ _ => dt
  | .windowClose dt _ _ => dt
  | .strobeInstant dt _ => dt
  | .laneWord dt _ _ _ => dt
  | .memoryGrant dt => dt
  | .closeStepComplete dt _ => dt
  | .openStepComplete dt _ => dt
  | .transferComplete dt => dt
  | .refreshComplete dt => dt
  | .refreshIntervalExpiry dt => dt
  | .wakingExitComplete dt => dt
  | .autoStandbyDelayExpiry dt => dt
  | .meanWritten dt _ => dt
  | .meanFrameBuilt dt => dt
  | .outboundPairFree dt => dt
  | .inboundStartSymbol dt => dt
  | .inboundDataByte dt _ => dt

/-- The order in which tracks take the event, for the commands several tracks may take (log 4). -/
def Instr.order? : Instr → Option (List Track)
  | .setMarker _ order => some order
  | .pulseTrailingEdge _ _ order => some order
  | .windowClose _ _ order => some order
  | _ => none

/-- The symbol of INBOUND_FRAME_BROKEN. -/
def Instr.symbol? : Instr → Option Symbol
  | .inboundFrameBroken _ sym => some sym
  | _ => none

end Sys2Proof
end

