-- ==== Sys2Proof/Decode.lean ====
section
/-!
DEFINITION. The command a word spells by the table's bits: no row of spec/opcode_table.json gives bits, so no word
spells a command.
-/

namespace Sys2Proof

/-- No row of the table gives an encoding, so every word is answered with none. -/
def decodeTableWord (_nbits _w : Nat) : Option Instr := none

end Sys2Proof
end

