-- ==== Sys2Proof/Config.lean ====
section
/-!
DEFINITION. What every 4820 fixes (the manual's constants) and the free values, which the manual leaves open.
-/

namespace Sys2Proof.Config

/-- The lock count (file 01, section 1.1). -/
def lockCount : Nat := 4
/-- The valid period range, low end (file 01, section 1.1). -/
def minPeriod : Nat := 40000
/-- The valid period range, high end (file 01, section 1.1). -/
def maxPeriod : Nat := 400000000
/-- Counts of one refresh interval (R113). -/
def refreshInterval : Nat := 312
/-- Counts of one unit of the auto-standby delay (R122). -/
def delayUnit : Nat := 4000000
/-- Entries of a staging FIFO (R59). -/
def fifoDepth : Nat := 256
/-- Fill level at which a writer's request is urgent (R61). -/
def urgentFill : Nat := 192
/-- Records of one sweep index (R85). -/
def maxRecords : Nat := 256
/-- Kept records of one sweep index (R85). -/
def maxKept : Nat := 32
/-- Logical pages of one track (R66). -/
def logicalPages : Nat := 2048
/-- Bursts granted and not completed at most (R109). -/
def maxGranted : Nat := 4
/-- Requests in the request queue (R171). -/
def queueDepth : Nat := 4
/-- Reads and final frames together (R138). -/
def maxReads : Nat := 4
/-- Replies of the command unit that may wait unsent (R172). -/
def maxOwnReplies : Nat := 4
/-- Words of the averager RAM (R153). -/
def averagerWords : Nat := 16384
/-- The longest payload (R166). -/
def maxPayload : Nat := 1040
/-- The fill value (00_scope section 6, "Samples"). -/
def fillValue : Int := -32768
/-- The part code (R189). -/
def partCode : Nat := 0x12D4
/-- The revision number (R175, R189). -/
def revision : Nat := 1
/-- The capacities of Table 10.5, in the order of the table (R175, R189). -/
def capacities : List Nat := [8, 8, 2, 65536, 2048, 256, 32, 256, 4, 4, 16384, 1040, 4096]

/-- FREE VALUE (log 7): the byte at a DRAM byte address that no burst has written since the contents were last lost
(R105: "the contents of the DRAM are not defined"). The first argument counts the losses. -/
opaque dramUndefined : Nat → Nat → BitVec 8

/-- FREE VALUE (log 7): the check bits of a DRAM word that no burst has written since the contents were last lost. -/
opaque checkUndefined : Nat → Nat → BitVec 8

/-- FREE VALUE (log 8): a word of the averager RAM that nothing has written since the contents were last lost
(R165: "The contents of the averager RAM are not defined then"). -/
opaque averagerUndefined : Nat → Nat → BitVec 32

end Sys2Proof.Config
end

