-- ==== Sys2Proof/Machine/State.lean ====
section
/-!
DEFINITION. The state of the 4820 as plain data, its value after power-on reset, and the two reason types.
Each structure holds what the table of its chapter lists; INVENTORY.md names rule and reset value item by item.
-/

namespace Sys2Proof.Machine

/-! ## Keyed data -/

/-- Sparse data by key: keys strictly rising, nothing listed that an unlisted key already stands for. -/
abbrev Table (α : Type) := List (Nat × α)

/-- Bytes by address, in the host's cells. -/
abbrev Memory := List Host.Cell

/-- The canonical form of keyed data: keys strictly rising. (An unlisted key reads as nothing, so no entry can equal it.) -/
abbrev Memory.wf {α : Type} (m : Table α) : Prop := m.Pairwise (fun a b => a.1 < b.1)

/-! ## Marker units (file 01) -/

/-- Polarity mode (Table 1.2). -/
inductive PolarityMode where
  | auto | rising | falling
  deriving DecidableEq, Repr

/-- A decided polarity; "NONE" is its absence (Table 1.1). -/
inductive Polarity where
  | rising | falling
  deriving DecidableEq, Repr

/-- The settings of a marker unit (Table 1.2). -/
structure MarkerSettings where
  polarityMode : PolarityMode
  minWidth : Nat
  tolerance : Nat
  coastLimit : Nat
  deriving DecidableEq, Repr

/-- The tracking state (Table 1.3). -/
inductive MarkerState where
  | noSignal | acquiring | locked | coasting
  deriving DecidableEq, Repr

/-- The polarity measurement (R6): the durations recorded so far and the edge that began the level in progress, if that
edge came after the last restart of observation. -/
structure Measurement where
  highs : List Nat
  lows : List Nat
  levelStart : Option Time
  deriving DecidableEq, Repr

/-- The acceptance window (R11): the marker time it runs from, and open and close as elapsed counts since it. -/
structure Window where
  start : Time
  openAfter : Nat
  closeAfter : Nat
  deriving DecidableEq, Repr

/-- The state of one marker unit (Table 1.1). `closeHeld` and `pulse` are what R15 and R3 imply: a window close that
waits for a pulse in progress, and the active-edge time of the observed pulse in progress. -/
structure MarkerUnit where
  settings : MarkerSettings
  state : MarkerState
  detected : Option Polarity
  measurement : Measurement
  reference : Option Time
  estimate : Nat
  count : Nat
  coast : Nat
  lastMarker : Option Time
  window : Option Window
  closeHeld : Bool
  early : Bool
  pulse : Option Time
  deriving DecidableEq, Repr

/-! ## Lanes and parameter sets (file 02) -/

inductive MarkerSelect where
  | a | b | auto
  deriving DecidableEq, Repr

inductive OffsetMode where
  | manual | auto | hold | onRequest
  deriving DecidableEq, Repr

inductive AutoInterval where
  | every | every8 | every32
  deriving DecidableEq, Repr

/-- A track parameter set (Table 2.1). -/
structure ParamSet where
  markerSelect : MarkerSelect
  base : Nat
  windowSize : Nat
  length : Nat
  phase : Nat
  gain : Nat
  offsetMode : OffsetMode
  manualOffset : Int
  placement : Nat
  duration : Nat
  target : Int
  interval : AutoInterval
  deriving DecidableEq, Repr

/-- A lane (R31, R36): the position its outstanding-strobe flag stands for, and the baseline accumulator. -/
structure Lane where
  flag : Option Nat
  baseSum : Int
  baseCount : Nat
  deriving DecidableEq, Repr

/-! ## Track units (file 03) -/

inductive HaltReason where
  | mapHole | noRoom | sequenceExhausted
  deriving DecidableEq, Repr

/-- The track state with the halt reason of HALTED (Table 3.2). -/
inductive TrackState where
  | idle | armed | sweeping | awaiting | stopping
  | halted (reason : HaltReason)
  deriving DecidableEq, Repr

/-- The strobe schedule of the FILLING sweep (R29, R30): marker time and estimate it is made from, how many of its
first positions were past-due when it was made, and the next position whose strobe has not been issued. -/
structure Schedule where
  t0 : Time
  estimate : Nat
  pastDue : Nat
  next : Nat
  deriving DecidableEq, Repr

/-- An entry of the staging FIFO (R59). -/
structure FifoEntry where
  seq : Nat
  pos : Nat
  value : Int
  deriving DecidableEq, Repr

/-- The write cursor (section 3.7): the sweep being written and the next position to write. -/
structure Cursor where
  seq : Nat
  next : Nat
  deriving DecidableEq, Repr

/-- The state of one track unit (Tables 2.2 and 3.1). The writer burst in flight is held with the granted bursts. -/
structure TrackUnit where
  staged : ParamSet
  pendingSet : Option ParamSet
  active : ParamSet
  generation : BitVec 16
  offsetInUse : Int
  intervalCount : Nat
  updateRequest : Bool
  state : TrackState
  selected : Option MarkerId
  prevMarker : Option Time
  armCount : Nat
  sweepsDone : Nat
  seqCounter : Nat
  spent : Bool
  schedule : Option Schedule
  fifo : List FifoEntry
  cursor : Option Cursor
  deriving DecidableEq, Repr

/-! ## Map unit (file 04) -/

/-- A valid map entry (Table 4.2); an entry with valid clear is not listed. -/
structure MapEntry where
  page : Page
  hostProtect : Bool
  keep : Bool
  deriving DecidableEq, Repr

/-- An ownership entry OWNED(track, logical page) (R67); a FREE page is not listed. -/
structure Owner where
  track : Track
  logical : Nat
  deriving DecidableEq, Repr

/-! ## Index unit (file 05) -/

inductive RecordState where
  | filling | draining | complete
  deriving DecidableEq, Repr

/-- Lost count and first lost position, present while GAP is set (Table 5.1). -/
structure Losses where
  count : Nat
  first : Nat
  deriving DecidableEq, Repr

/-- A sweep record (Table 5.1) with the flags of Table 5.2; GAP is the presence of `losses`. -/
structure SweepRecord where
  seq : Nat
  state : RecordState
  markerTime : Time
  period : Nat
  unit : MarkerId
  firstPage : Nat
  length : Nat
  generation : BitVec 16
  offsetUsed : Int
  coasted : Bool
  short : Bool
  clipped : Bool
  offsetRail : Bool
  kept : Bool
  averaged : Bool
  damaged : Bool
  losses : Option Losses
  deriving DecidableEq, Repr

/-! ## Memory controller (file 06) -/

inductive InjectKind where
  | single | double
  deriving DecidableEq, Repr

/-- What a burst does: a write burst carries the samples of its 32-position span and any inject kind (R62, R136);
a read burst carries the word offsets its read asks for (R129, R142). -/
inductive BurstJob where
  | write (samples : List Int) (inject : Option InjectKind)
  | read (asked : List Nat)
  deriving DecidableEq, Repr

/-- A granted burst: its page and first word offset, fixed at the grant (R105, R70), the track, sequence and first
position it was granted for. `heeded` says whether its requester still takes its completion (R56, R63, R147);
`attached` whether it counts as its writer's burst in flight (Table 3.1, log 12). -/
structure Burst where
  page : Page
  offset : Nat
  track : Track
  seq : Nat
  first : Nat
  heeded : Bool
  attached : Bool
  job : BurstJob
  deriving DecidableEq, Repr

/-- The step in progress in a bank (R107). -/
inductive BankStep where
  | none
  | closing
  | opening (row : Nat)
  deriving DecidableEq, Repr

/-- A bank: its bank-table entry, CLOSED as no row (R106), and its step in progress. -/
structure Bank where
  row : Option Nat
  step : BankStep
  deriving DecidableEq, Repr

/-- The refresh service (R115): none, granted and waiting for earlier bursts, closing the banks, in flight. -/
inductive RefreshStage where
  | none | waiting | closing | inFlight
  deriving DecidableEq, Repr

inductive EntryCause where
  | request | auto
  deriving DecidableEq, Repr

inductive WakeCause where
  | burst | wake
  deriving DecidableEq, Repr

/-- The memory state (Table 6.3), with the cause that R124 reports. -/
inductive MemState where
  | running
  | entering (cause : EntryCause)
  | standby
  | waking (cause : WakeCause)
  deriving DecidableEq, Repr

/-- The auto-standby delay timer (R123): stopped, running with its elapsed counts, or expired with the entry waiting for
the re-entry flag. -/
inductive AutoTimer where
  | stopped
  | running (elapsed : Nat)
  | expired
  deriving DecidableEq, Repr

/-- The memory controller (Table 6.1) but for the DRAM contents. `granted` holds the granted bursts in grant order; a
bank's service list is its bursts in it. `dataPath` is the bank whose head burst is being transferred (R108). -/
structure MemControl where
  banks : Vector Bank 8
  granted : List Burst
  dataPath : Option BankId
  balance : Int
  refresh : RefreshStage
  state : MemState
  reentry : Bool
  heldWake : Bool
  autoEnable : Bool
  autoDelay : Nat
  autoTimer : AutoTimer
  urgentPointer : Track
  normalPointer : Track
  deriving DecidableEq, Repr

/-! ## Check-code unit (file 07) -/

inductive CheckMode where
  | off | quiet | notify
  deriving DecidableEq, Repr

/-- A read code (Table 7.3). -/
inductive ReadCode where
  | clean
  | data (k : Nat)
  | check (k : Nat)
  | multiple
  | allZero
  | allOnes
  deriving DecidableEq, Repr

/-- Where a word was found wrong: page, word offset, code, and the track and sequence of the read (Table 7.6). -/
structure WordFault where
  page : Page
  offset : Nat
  code : ReadCode
  track : Track
  seq : Nat
  deriving DecidableEq, Repr

/-- The content of the first-uncorrectable record (Table 7.6). -/
inductive MemoryFaultRecord where
  | uncorrectable (w : WordFault)
  | refreshOverrun (time : Time)
  deriving DecidableEq, Repr

/-- The check-code unit (Table 7.1). -/
structure CheckUnit where
  mode : CheckMode
  lastCorrected : Option WordFault
  firstUncorrectable : Option MemoryFaultRecord
  more : Bool
  inject : Option (Track × InjectKind)
  deriving DecidableEq, Repr

/-! ## Readout engine (file 08) -/

inductive ByteOrder where
  | lowFirst | highFirst
  deriving DecidableEq, Repr

inductive EndStatus where
  | done | overtaken | aborted | reset
  deriving DecidableEq, Repr

/-- The kind of a read, with what only a SWEEP read holds (Table 8.2). -/
inductive ReadKind where
  | sweep (seq firstPage : Nat)
  | mean
  deriving DecidableEq, Repr

/-- A sample taken for a frame with the damaged mark of its word (R143). -/
structure Sample where
  value : Int
  damaged : Bool
  deriving DecidableEq, Repr

/-- A read entry (Table 8.2). `nextFetch` is the next 32-position block to request of a SWEEP read, the next frame to
build of a MEAN read. `samples` are those gathered for unsent frames, by position. -/
structure Read where
  tag : Nat
  kind : ReadKind
  track : Track
  firstPos : Nat
  count : Nat
  order : ByteOrder
  delivered : Nat
  nextFetch : Nat
  samples : Table Sample
  deriving DecidableEq, Repr

/-- The final frame of a read that ended other than DONE (R147), waiting in the end list. -/
structure EndFrame where
  tag : Nat
  mean : Bool
  position : Nat
  status : EndStatus
  delivered : Nat
  deriving DecidableEq, Repr

/-- The readout engine (Table 8.1). The engine request and the frame room are computed from the active read. -/
structure Readout where
  queue : List Read
  ended : List EndFrame
  deriving DecidableEq, Repr

/-! ## Averager (file 09) -/

inductive DisableReason where
  | none | request | length
  deriving DecidableEq, Repr

/-- An enabled track's region (R153): its first word and the N of its sum area. -/
structure Region where
  base : Nat
  length : Nat
  deriving DecidableEq, Repr

/-- A publication in flight (R160): the next position to write, and the last sequence of the block it publishes. -/
structure Publication where
  next : Nat
  last : Nat
  deriving DecidableEq, Repr

/-- The averager state of one track (Table 9.1); the enable is the presence of the region. -/
structure Averager where
  region : Option Region
  k : Nat
  includeCoasted : Bool
  reason : DisableReason
  current : Option Nat
  blockCount : Nat
  blockLast : Option Nat
  publication : Option Publication
  published : Bool
  pubNumber : BitVec 16
  pubLast : Option Nat
  deriving DecidableEq, Repr

/-! ## Notices (file 11) -/

/-- A notice source 0..29 (Table 11.1). -/
abbrev Source := Fin 30

inductive StopReason where
  | countDone | stopped | aborted
  | halted (reason : HaltReason)
  deriving DecidableEq, Repr

inductive LossCause where
  | coastLimit | setMarker
  deriving DecidableEq, Repr

inductive LinkErrorKind where
  | length | crc | endMissing | notRequest
  deriving DecidableEq, Repr

inductive StandbyChange where
  | standby (cause : EntryCause)
  | running (cause : WakeCause)
  deriving DecidableEq, Repr

/-- The payload of one occurrence (Table 11.2). `flags` is the flags byte of Table 12.5. -/
inductive Occurrence where
  | sweepDone (seq : Nat) (flags : Nat)
  | trackStopped (reason : StopReason) (sweepsDone seqCounter : Nat)
  | meanReady (track : Track) (number : BitVec 16) (last : Nat) (k : Nat)
  | markerLocked (time : Time) (estimate : Nat)
  | markerLost (cause : LossCause) (time : Time) (estimate : Nat)
  | memoryFault (fault : MemoryFaultRecord)
  | corrected (w : WordFault)
  | standbyChange (change : StandbyChange) (time : Time) (balance : Int)
  | linkError (kind : LinkErrorKind) (time : Time)
  deriving DecidableEq, Repr

/-- An entry of the pending-notice list (R178). -/
structure NoticeEntry where
  source : Source
  occurrence : Occurrence
  again : Bool
  order : Nat
  deriving DecidableEq, Repr

/-- The notice unit (R178). `nextOrder` is the posting order the next new entry takes. -/
structure NoticeUnit where
  levels : Vector Nat 30
  threshold : Nat
  entries : List NoticeEntry
  nextOrder : Nat
  deriving DecidableEq, Repr

/-! ## Frame link (file 10) -/

inductive ReceiverState where
  | hunt | header | body
  deriving DecidableEq, Repr

/-- A good request as received (R169): its code, its tag and its payload. -/
structure RawRequest where
  code : Nat
  tag : Nat
  payload : List Byte
  deriving DecidableEq, Repr

/-- A completed reply (R170); `own` is clear for a FULL reply of the request queue (R172, R173). -/
structure Reply where
  own : Bool
  code : Nat
  tag : Nat
  payload : List Byte
  deriving DecidableEq, Repr

inductive FrameType where
  | request | reply | data | notice
  deriving DecidableEq, Repr

/-- An outbound frame (R166); its bytes with the CRC are `Frame.wire`. -/
structure Frame where
  ftype : FrameType
  code : Nat
  tag : Nat
  payload : List Byte
  deriving DecidableEq, Repr

inductive RestartCause where
  | powerOn | resetLine
  deriving DecidableEq, Repr

/-- The frame link (Table 10.1). -/
structure Link where
  receiver : ReceiverState
  buffer : List Byte
  queue : List RawRequest
  inHand : Option RawRequest
  replies : List Reply
  outgoing : Option Frame
  owed : Option RestartCause
  deriving DecidableEq, Repr

/-! ## The whole part -/

/-- The state of the 4820 and the queue of commands waiting. -/
structure State where
  time : Time
  resetHeld : Bool
  epoch : Nat
  refreshElapsed : Nat
  markerA : MarkerUnit
  markerB : MarkerUnit
  lanes : Vector Lane 8
  tracks : Vector TrackUnit 8
  maps : Vector (Table MapEntry) 8
  owners : Table Owner
  index : Vector (List SweepRecord) 8
  writePos : Vector Nat 8
  dram : Memory
  dramCheck : Memory
  mem : MemControl
  check : CheckUnit
  readout : Readout
  averagers : Vector Averager 8
  averagerRam : Table (BitVec 32)
  link : Link
  notices : NoticeUnit
  pending : List Instr
  deriving DecidableEq, Repr

/-- Reasons to stop. The part has none that stops it: its own faults (R133, R169) are records and notices, so this type
has no constructor. -/
inductive Fault
  deriving DecidableEq, Repr

/-- Reasons to refuse a command. -/
inductive Refusal where
  /-- The command has no meaning in the model yet. No command raises it: every row has its meaning. Safe. -/
  | notModelled (mnemonic : String)
  deriving DecidableEq, Repr

/-! ## Values after power-on reset -/

/-- Table 1.2, defaults. -/
def MarkerSettings.default : MarkerSettings :=
  { polarityMode := .auto, minWidth := 10, tolerance := 8, coastLimit := 3 }

def Measurement.empty : Measurement := { highs := [], lows := [], levelStart := none }

/-- Table 1.4, power-on reset. -/
def MarkerUnit.reset : MarkerUnit :=
  { settings := .default, state := .noSignal, detected := none, measurement := .empty, reference := none,
    estimate := 0, count := 0, coast := 0, lastMarker := none, window := none, closeHeld := false, early := false,
    pulse := none }

/-- Table 2.1, defaults. -/
def ParamSet.default : ParamSet :=
  { markerSelect := .auto, base := 0, windowSize := 2048, length := 1024, phase := 0, gain := 1024,
    offsetMode := .manual, manualOffset := 0, placement := 0, duration := 16, target := 0, interval := .every8 }

/-- R40. -/
def Lane.reset : Lane := { flag := none, baseSum := 0, baseCount := 0 }

/-- Tables 2.2 and 3.1, power-on reset. -/
def TrackUnit.reset : TrackUnit :=
  { staged := .default, pendingSet := none, active := .default, generation := 0, offsetInUse := 0, intervalCount := 0,
    updateRequest := false, state := .idle, selected := none, prevMarker := none, armCount := 0, sweepsDone := 0,
    seqCounter := 0, spent := false, schedule := none, fifo := [], cursor := none }

def Bank.reset : Bank := { row := none, step := .none }

/-- Table 6.4, power-on reset. -/
def MemControl.reset : MemControl :=
  { banks := Vector.replicate 8 .reset, granted := [], dataPath := none, balance := 0, refresh := .none,
    state := .running, reentry := false, heldWake := false, autoEnable := false, autoDelay := 50,
    autoTimer := .stopped, urgentPointer := 0, normalPointer := 0 }

/-- Table 7.7, power-on reset. -/
def CheckUnit.reset : CheckUnit :=
  { mode := .notify, lastCorrected := none, firstUncorrectable := none, more := false, inject := none }

/-- Table 8.4, power-on reset. -/
def Readout.reset : Readout := { queue := [], ended := [] }

/-- Table 9.3, power-on reset. -/
def Averager.reset : Averager :=
  { region := none, k := 8, includeCoasted := false, reason := .none, current := none, blockCount := 0,
    blockLast := none, publication := none, published := false, pubNumber := 0, pubLast := none }

/-- Table 11.1, default levels by source code. -/
def defaultLevels : Vector Nat 30 :=
  #v[0, 0, 0, 0, 0, 0, 0, 0, 4, 4, 4, 4, 4, 4, 4, 4, 0, 0, 0, 0, 0, 0, 0, 0, 0, 0, 7, 0, 0, 6]

/-- Table 11.3, power-on reset. -/
def NoticeUnit.reset : NoticeUnit := { levels := defaultLevels, threshold := 1, entries := [], nextOrder := 0 }

/-- Table 10.6, power-on reset; the RESTARTED frame is owed when the reset ends (R177). -/
def Link.reset : Link :=
  { receiver := .hunt, buffer := [], queue := [], inHand := none, replies := [], outgoing := none,
    owed := some .powerOn }

/-- The part right after power-on reset. -/
def State.reset : State :=
  { time := 0, resetHeld := false, epoch := 0, refreshElapsed := 0, markerA := .reset, markerB := .reset,
    lanes := Vector.replicate 8 .reset, tracks := Vector.replicate 8 .reset, maps := Vector.replicate 8 [],
    owners := [], index := Vector.replicate 8 [], writePos := Vector.replicate 8 0, dram := [], dramCheck := [],
    mem := .reset, check := .reset, readout := .reset, averagers := Vector.replicate 8 .reset, averagerRam := [],
    link := .reset, notices := .reset, pending := [] }

/-! ## One setter per field -/

section Setters
variable (s : State)

def State.setTime (v : Time) : State := { s with time := v }
def State.setResetHeld (v : Bool) : State := { s with resetHeld := v }
def State.setEpoch (v : Nat) : State := { s with epoch := v }
def State.setRefreshElapsed (v : Nat) : State := { s with refreshElapsed := v }
def State.setMarkerA (v : MarkerUnit) : State := { s with markerA := v }
def State.setMarkerB (v : MarkerUnit) : State := { s with markerB := v }
def State.setLanes (v : Vector Lane 8) : State := { s with lanes := v }
def State.setTracks (v : Vector TrackUnit 8) : State := { s with tracks := v }
def State.setMaps (v : Vector (Table MapEntry) 8) : State := { s with maps := v }
def State.setOwners (v : Table Owner) : State := { s with owners := v }
def State.setIndex (v : Vector (List SweepRecord) 8) : State := { s with index := v }
def State.setWritePos (v : Vector Nat 8) : State := { s with writePos := v }
def State.setDram (v : Memory) : State := { s with dram := v }
def State.setDramCheck (v : Memory) : State := { s with dramCheck := v }
def State.setMem (v : MemControl) : State := { s with mem := v }
def State.setCheck (v : CheckUnit) : State := { s with check := v }
def State.setReadout (v : Readout) : State := { s with readout := v }
def State.setAveragers (v : Vector Averager 8) : State := { s with averagers := v }
def State.setAveragerRam (v : Table (BitVec 32)) : State := { s with averagerRam := v }
def State.setLink (v : Link) : State := { s with link := v }
def State.setNotices (v : NoticeUnit) : State := { s with notices := v }
def State.setPending (v : List Instr) : State := { s with pending := v }

end Setters

end Sys2Proof.Machine
end

