-- ==== Sys2Proof/Machine/Ops.lean ====
section
/-!
DEFINITION. The named operations over keyed data, memories, registers, time, notices and replies that every meaning
uses, and the byte-order and sign helpers.
-/

namespace Sys2Proof.Machine

/-! ## Keyed data -/

/-- The value listed at key k. -/
def tget {α : Type} : Table α → Nat → Option α
  | [], _ => none
  | (a, v) :: m, k => if a = k then some v else tget m k

/-- The values vs at the keys base, base + 1, ... -/
def cells {α : Type} : Nat → List α → Table α
  | _, [] => []
  | base, v :: vs => (base, v) :: cells (base + 1) vs

/-- The table with vs stored at base, base + 1, ..., every other key as it was. -/
def tfill {α : Type} (m : Table α) (base : Nat) (vs : List α) : Table α :=
  m.filter (fun c => c.1 < base) ++ cells base vs ++ m.filter (fun c => base + vs.length ≤ c.1)

/-- The table with v stored at k. -/
def tput {α : Type} (m : Table α) (k : Nat) (v : α) : Table α := tfill m k [v]

/-- The table with k unlisted. -/
def terase {α : Type} (m : Table α) (k : Nat) : Table α := m.filter (fun c => c.1 ≠ k)

/-- The values at base, ..., base + n − 1, each an unlisted key's where it is unlisted. -/
def tread {α : Type} (m : Table α) (unlisted : Nat → α) : Nat → Nat → List α
  | _, 0 => []
  | base, n + 1 => (tget m base).getD (unlisted base) :: tread m unlisted (base + 1) n

/-! ## Bytes, signs, rounding -/

/-- n as k bytes, low byte first (R186). -/
def leBytes : Nat → Nat → List Byte
  | 0, _ => []
  | k + 1, n => BitVec.ofNat 8 n :: leBytes k (n / 256)

/-- Bytes read low byte first (R186). -/
def leNat : List Byte → Nat
  | [] => 0
  | b :: bs => b.toNat + 256 * leNat bs

/-- z in two's complement as k bytes, low byte first (R186). -/
def leInt (k : Nat) (z : Int) : List Byte := leBytes k (z % (256 ^ k : Nat)).toNat

/-- Sixteen bits read as a signed value (R32, R186). -/
def signed16 (n : Nat) : Int := if n < 32768 then n else (n : Int) - 65536

/-- A flag byte (Table 12.2). -/
def flagByte (b : Bool) : Byte := if b then 1 else 0

/-- num / den rounded to the nearest integer, ties away from zero (00_scope section 6, "Quantities"). -/
def roundNearest (num : Int) (den : Nat) : Int :=
  if 0 ≤ num then ((2 * num.natAbs + den) / (2 * den) : Nat) else -((2 * num.natAbs + den) / (2 * den) : Nat)

/-- z held to lo..hi. -/
def clamp (lo hi z : Int) : Int := max lo (min hi z)

/-- Pages of a sweep of length n: ceil(n/512) (Table 2.1, Note 1). -/
def pageCount (n : Nat) : Nat := (n + 511) / 512

/-! ## Time -/

/-- Counts from a to b, modulo 2^48 (R11, R29). -/
def elapsed (a b : Time) : Nat := (b - a).toNat

/-- The timer after dt counts: only a running timer counts (R123). -/
def AutoTimer.advance (dt : Nat) : AutoTimer → AutoTimer
  | .stopped => .stopped
  | .running e => .running (e + dt)
  | .expired => .expired

/-- dt reference counts pass: the time counter, the refresh interval timer and a running auto-standby delay timer count
(00_scope section 6, R113, R123). -/
def elapse (dt : Nat) (s : State) : State :=
  ((s.setTime (s.time + BitVec.ofNat 48 dt)).setRefreshElapsed (s.refreshElapsed + dt)).setMem
    { s.mem with autoTimer := s.mem.autoTimer.advance dt }

/-- An event of the part dt counts after the command before it. While the RESET line is held nothing happens and no
time is counted (R168, R177; log 6). -/
def live (dt : Nat) (s : State) (event : State → State) : State :=
  if s.resetHeld then s else event (elapse dt s)

/-! ## One home for each of several like things -/

def State.marker (s : State) : MarkerId → MarkerUnit
  | .A => s.markerA
  | .B => s.markerB

def State.putMarker (s : State) (u : MarkerId) (m : MarkerUnit) : State :=
  match u with
  | .A => s.setMarkerA m
  | .B => s.setMarkerB m

def State.lane (s : State) (t : Track) : Lane := s.lanes[t]
def State.putLane (s : State) (t : Track) (l : Lane) : State := s.setLanes (s.lanes.set t l)

def State.track (s : State) (t : Track) : TrackUnit := s.tracks[t]
def State.putTrack (s : State) (t : Track) (u : TrackUnit) : State := s.setTracks (s.tracks.set t u)

def State.map (s : State) (t : Track) : Table MapEntry := s.maps[t]
def State.putMap (s : State) (t : Track) (m : Table MapEntry) : State := s.setMaps (s.maps.set t m)

def State.records (s : State) (t : Track) : List SweepRecord := s.index[t]
def State.putRecords (s : State) (t : Track) (l : List SweepRecord) : State := s.setIndex (s.index.set t l)

def State.writePosition (s : State) (t : Track) : Nat := s.writePos[t]
def State.putWritePosition (s : State) (t : Track) (p : Nat) : State := s.setWritePos (s.writePos.set t p)

def State.averager (s : State) (t : Track) : Averager := s.averagers[t]
def State.putAverager (s : State) (t : Track) (a : Averager) : State := s.setAveragers (s.averagers.set t a)

/-- The eight tracks in ascending order. -/
def allTracks : List Track := List.finRange 8

/-- The order in which the eight tracks take one event: the command's, each track once, completed by any it left out
(log 4). -/
def deliveryOrder (order : List Track) : List Track :=
  order.eraseDups ++ allTracks.filter (fun t => !order.contains t)

/-- A track field of a request: a track 0..7, or none. -/
def trackOf (n : Nat) : Option Track := if h : n < 8 then some ⟨n, h⟩ else none

/-! ## Memories -/

/-- The DRAM byte at an address (R65); a free value where nothing has been written (log 7). -/
def State.dramByte (s : State) (a : Nat) : Byte := (tget s.dram a).getD (Config.dramUndefined s.epoch a)

/-- The check bits of the word at a word address (R105). -/
def State.dramCheckByte (s : State) (a : Nat) : Byte := (tget s.dramCheck a).getD (Config.checkUndefined s.epoch a)

/-- Byte address of byte 0 of word w of page p (R65). -/
def byteAddress (p : Page) (w : Nat) : Nat := 1024 * p.toNat + 8 * w

/-- Word address of word w of page p. -/
def wordAddress (p : Page) (w : Nat) : Nat := 128 * p.toNat + w

/-- The DRAM with whole words stored from word w of page p on: their bytes and their check bits (R105). -/
def storeWords (p : Page) (w : Nat) (bytes : List Byte) (checks : List Byte) (s : State) : State :=
  (s.setDram (tfill s.dram (byteAddress p w) bytes)).setDramCheck (tfill s.dramCheck (wordAddress p w) checks)

/-- A word of the averager RAM (R153); a free value where nothing has been written (log 8). -/
def State.ramWord (s : State) (a : Nat) : BitVec 32 := (tget s.averagerRam a).getD (Config.averagerUndefined s.epoch a)

/-! ## Notices (R178 to R181) -/

def NoticeUnit.level (n : NoticeUnit) (src : Source) : Nat := n.levels[src]

/-- Whether x goes before e: a higher level, or the same level and an earlier posting order (R179). -/
def NoticeUnit.before (n : NoticeUnit) (x e : NoticeEntry) : Bool :=
  n.level e.source < n.level x.source || (n.level x.source = n.level e.source && x.order < e.order)

/-- The list with e at its place (R179). -/
def NoticeUnit.place (n : NoticeUnit) (e : NoticeEntry) : List NoticeEntry → List NoticeEntry
  | [] => [e]
  | x :: xs => if n.before x e then x :: n.place e xs else e :: x :: xs

/-- A posting (R179): nothing at level 0, the again flag of an entry in the list, otherwise a new entry. -/
def NoticeUnit.post (n : NoticeUnit) (src : Source) (occ : Occurrence) : NoticeUnit :=
  if n.level src = 0 then n
  else if n.entries.any (fun e => e.source = src) then
    { n with entries := n.entries.map (fun e => if e.source = src then { e with again := true } else e) }
  else
    { n with
      entries := n.place { source := src, occurrence := occ, again := false, order := n.nextOrder } n.entries,
      nextOrder := n.nextOrder + 1 }

/-- A block posts its source (R179). -/
def post (src : Source) (occ : Occurrence) (s : State) : State := s.setNotices (s.notices.post src occ)

/-- Source codes of Table 11.1. -/
def Source.sweepDone (t : Track) : Source := ⟨t.val, by omega⟩
def Source.trackStopped (t : Track) : Source := ⟨t.val + 8, by omega⟩
def Source.meanReady (t : Track) : Source := ⟨t.val + 16, by omega⟩
def Source.marker : MarkerId → Source
  | .A => 24
  | .B => 25
def Source.memoryFault : Source := 26
def Source.corrected : Source := 27
def Source.standbyChange : Source := 28
def Source.linkError : Source := 29

/-! ## Requests and replies (R170 to R173) -/

/-- Reply statuses (Tables 10.3 and 12.4). -/
inductive Status where
  | ok | badField | busy | full | noSuch | notReady | conflict | protectedMark | malformed
  deriving DecidableEq, Repr

/-- Table 12.4. -/
def Status.code : Status → Byte
  | .ok => 0
  | .badField => 1
  | .busy => 2
  | .full => 3
  | .noSuch => 4
  | .notReady => 5
  | .conflict => 6
  | .protectedMark => 7
  | .malformed => 8

/-- A completed reply joins the tail of the reply list (R172, R173): its status, then what follows it. -/
def addReply (own : Bool) (r : RawRequest) (st : Status) (body : List Byte) (s : State) : State :=
  s.setLink { s.link with
    replies := s.link.replies ++ [{ own := own, code := r.code, tag := r.tag, payload := st.code :: body }] }

/-- The owning block completes the request with a status (R172). -/
def answer (r : RawRequest) (st : Status) (s : State) : State := addReply true r st [] s

/-- The owning block completes the request with OK and its results. -/
def answerWith (r : RawRequest) (body : List Byte) (s : State) : State := addReply true r .ok body s

/-- How many replies of the command unit wait unsent (R172). -/
def ownWaiting (s : State) : Nat := (s.link.replies.filter (fun r => r.own)).length

/-- The command unit takes the head of the request queue when it has no request in hand and fewer than 4 of its own
replies wait unsent (R172). -/
def takeRequest (s : State) : Option (RawRequest × State) :=
  match s.link.queue with
  | [] => none
  | r :: rest =>
    if s.link.inHand.isNone && ownWaiting s < Config.maxOwnReplies then
      some (r, s.setLink { s.link with queue := rest })
    else none

end Sys2Proof.Machine
end

