-- ==== Sys2Proof/Machine/Operands.lean ====
section
/-!
DEFINITION. The payload of each request kind (R187, Table 12.3): what fits its kind becomes a `Request`, everything else
is MALFORMED (R172). Field values are not checked here: that is the owning block's part.
-/

namespace Sys2Proof.Machine

/-- A load item (section 4.6). -/
inductive LoadItem where
  | unmap
  | map (page : Page) (hostProtect : Bool)
  deriving DecidableEq, Repr

/-- A request whose payload fits its kind, with its fields as sent. -/
inductive Request where
  | setMarker (unit : Nat) (items : List (Nat × Int))
  | markerStatus (unit : Nat)
  | stageTrack (track : Nat) (items : List (Nat × Int))
  | commitTrack (track : Nat)
  | updateOffset (track : Nat)
  | armTrack (track count : Nat)
  | stopTrack (track : Nat)
  | abortTrack (track : Nat)
  | resetTrack (track : Nat)
  | trackStatus (track : Nat)
  | loadMap (track first : Nat) (items : List LoadItem)
  | checkPage (track logical : Nat)
  | pageOwner (page : Nat)
  | keepSweep (track seq : Nat)
  | releaseSweep (track seq : Nat)
  | dropSweep (track seq : Nat)
  | listSweeps (track fromSeq max : Nat)
  | sweepInfo (track seq : Nat)
  | standby
  | wake
  | setAutoStandby (enable : Bool) (delay : Option Nat)
  | memoryStatus
  | setChecking (mode : Nat)
  | readFault
  | clearFault
  | injectFault (track kind : Nat)
  | readSweep (track seq first count order : Nat)
  | readMean (track order : Nat)
  | abortRead (tag : Nat)
  | setAverager (track : Nat) (enable : Bool) (region : Option (Nat × Nat)) (coasted : Option Bool)
  | averagerStatus (track : Nat)
  | restartAverage (track : Nat)
  | setNoticeLevel (source level : Nat)
  | setNoticeThreshold (threshold : Nat)
  | noticeStatus
  | clearNotices (sources : List Nat)
  | queryIdentity
  | readClock
  | resetPart
  deriving DecidableEq, Repr

/-- A flag byte; any other value makes the request MALFORMED (R187). -/
def flagOf (b : Byte) : Option Bool :=
  if b = 0 then some false else if b = 1 then some true else none

/-- Field items of 3 bytes: a field number below `kinds`, then a signed value (R187). -/
def fieldItems (kinds : Nat) : List Byte → Option (List (Nat × Int))
  | [] => some []
  | n :: lo :: hi :: rest =>
    if n.toNat < kinds then
      match fieldItems kinds rest with
      | some items => some ((n.toNat, signed16 (leNat [lo, hi])) :: items)
      | none => none
    else none
  | [_] => none
  | [_, _] => none

/-- Whether no field number appears twice (R187). -/
def distinctFields (items : List (Nat × Int)) : Bool := (items.map (fun i => i.1)).Nodup

/-- Field items whose numbers the kind defines, each at most once (R187). -/
def optionalFields (kinds : Nat) (bytes : List Byte) : Option (List (Nat × Int)) :=
  match fieldItems kinds bytes with
  | some items => if distinctFields items then some items else none
  | none => none

/-- Load items of 4 bytes: a kind byte, a host-protect byte and a physical page; the last three bytes of an UNMAP item
are not read (R187). -/
def loadItems : List Byte → Option (List LoadItem)
  | [] => some []
  | kind :: h :: lo :: hi :: rest =>
    match loadItems rest with
    | none => none
    | some items =>
      if kind = 0 then some (.unmap :: items)
      else if kind = 1 then
        match flagOf h with
        | some hp => some (.map (BitVec.ofNat 16 (leNat [lo, hi])) hp :: items)
        | none => none
      else none
  | [_] => none
  | [_, _] => none
  | [_, _, _] => none

/-- One track byte. -/
def parseTrack (f : Nat → Request) : List Byte → Option Request
  | [t] => some (f t.toNat)
  | _ => none

/-- A track byte and a 4-byte sequence. -/
def parseTrackSeq (f : Nat → Nat → Request) : List Byte → Option Request
  | [t, a, b, c, d] => some (f t.toNat (leNat [a, b, c, d]))
  | _ => none

/-- No payload. -/
def parseNone (q : Request) : List Byte → Option Request
  | [] => some q
  | _ => none

def parseSetMarker : List Byte → Option Request
  | u :: rest => (optionalFields 4 rest).map (fun items => .setMarker u.toNat items)
  | [] => none

def parseStageTrack : List Byte → Option Request
  | t :: rest => (optionalFields 12 rest).map (fun items => .stageTrack t.toNat items)
  | [] => none

def parseArmTrack : List Byte → Option Request
  | [t, lo, hi] => some (.armTrack t.toNat (leNat [lo, hi]))
  | _ => none

def parseLoadMap : List Byte → Option Request
  | t :: f0 :: f1 :: c0 :: c1 :: rest =>
    match loadItems rest with
    | some items =>
      if leNat [c0, c1] = items.length then some (.loadMap t.toNat (leNat [f0, f1]) items) else none
    | none => none
  | _ => none

def parseCheckPage : List Byte → Option Request
  | [t, lo, hi] => some (.checkPage t.toNat (leNat [lo, hi]))
  | _ => none

def parsePageOwner : List Byte → Option Request
  | [lo, hi] => some (.pageOwner (leNat [lo, hi]))
  | _ => none

def parseListSweeps : List Byte → Option Request
  | [t, a, b, c, d, m] => some (.listSweeps t.toNat (leNat [a, b, c, d]) m.toNat)
  | _ => none

def parseSetAutoStandby : List Byte → Option Request
  | [e] => (flagOf e).map (fun on => .setAutoStandby on none)
  | [e, d] => (flagOf e).map (fun on => .setAutoStandby on (some d.toNat))
  | _ => none

def parseSetChecking : List Byte → Option Request
  | [m] => some (.setChecking m.toNat)
  | _ => none

def parseInjectFault : List Byte → Option Request
  | [t, k] => some (.injectFault t.toNat k.toNat)
  | _ => none

def parseReadSweep : List Byte → Option Request
  | [t, a, b, c, d, p0, p1, c0, c1, o] =>
    some (.readSweep t.toNat (leNat [a, b, c, d]) (leNat [p0, p1]) (leNat [c0, c1]) o.toNat)
  | _ => none

def parseReadMean : List Byte → Option Request
  | [t, o] => some (.readMean t.toNat o.toNat)
  | _ => none

def parseAbortRead : List Byte → Option Request
  | [lo, hi] => some (.abortRead (leNat [lo, hi]))
  | _ => none

def parseSetAverager : List Byte → Option Request
  | [t, e] => (flagOf e).map (fun on => .setAverager t.toNat on none none)
  | [t, e, b0, b1, k0, k1] =>
    (flagOf e).map (fun on => .setAverager t.toNat on (some (leNat [b0, b1], leNat [k0, k1])) none)
  | [t, e, b0, b1, k0, k1, i] =>
    match flagOf e, flagOf i with
    | some on, some ic => some (.setAverager t.toNat on (some (leNat [b0, b1], leNat [k0, k1])) (some ic))
    | _, _ => none
  | _ => none

def parseSetNoticeLevel : List Byte → Option Request
  | [src, l] => some (.setNoticeLevel src.toNat l.toNat)
  | _ => none

def parseSetNoticeThreshold : List Byte → Option Request
  | [l] => some (.setNoticeThreshold l.toNat)
  | _ => none

def parseClearNotices : List Byte → Option Request
  | n :: codes => if n.toNat = codes.length then some (.clearNotices (codes.map (fun c => c.toNat))) else none
  | [] => none

/-- The request a code and payload spell; none where the kind is unknown or the payload does not fit it (R172, R187). -/
def parseRequest (r : RawRequest) : Option Request :=
  match r.code with
  | 0x01 => parseSetMarker r.payload
  | 0x02 => parseTrack .markerStatus r.payload
  | 0x10 => parseStageTrack r.payload
  | 0x11 => parseTrack .commitTrack r.payload
  | 0x12 => parseTrack .updateOffset r.payload
  | 0x13 => parseArmTrack r.payload
  | 0x14 => parseTrack .stopTrack r.payload
  | 0x15 => parseTrack .abortTrack r.payload
  | 0x16 => parseTrack .resetTrack r.payload
  | 0x17 => parseTrack .trackStatus r.payload
  | 0x20 => parseLoadMap r.payload
  | 0x21 => parseCheckPage r.payload
  | 0x22 => parsePageOwner r.payload
  | 0x30 => parseTrackSeq .keepSweep r.payload
  | 0x31 => parseTrackSeq .releaseSweep r.payload
  | 0x32 => parseTrackSeq .dropSweep r.payload
  | 0x33 => parseListSweeps r.payload
  | 0x34 => parseTrackSeq .sweepInfo r.payload
  | 0x40 => parseNone .standby r.payload
  | 0x41 => parseNone .wake r.payload
  | 0x42 => parseSetAutoStandby r.payload
  | 0x43 => parseNone .memoryStatus r.payload
  | 0x50 => parseSetChecking r.payload
  | 0x51 => parseNone .readFault r.payload
  | 0x52 => parseNone .clearFault r.payload
  | 0x53 => parseInjectFault r.payload
  | 0x60 => parseReadSweep r.payload
  | 0x61 => parseReadMean r.payload
  | 0x62 => parseAbortRead r.payload
  | 0x70 => parseSetAverager r.payload
  | 0x71 => parseTrack .averagerStatus r.payload
  | 0x72 => parseTrack .restartAverage r.payload
  | 0x80 => parseSetNoticeLevel r.payload
  | 0x81 => parseSetNoticeThreshold r.payload
  | 0x82 => parseNone .noticeStatus r.payload
  | 0x83 => parseClearNotices r.payload
  | 0x90 => parseNone .queryIdentity r.payload
  | 0x91 => parseNone .readClock r.payload
  | 0x92 => parseNone .resetPart r.payload
  | _ => none

/-- The command unit's step on the request at the head of its queue, dt counts after the command before it: when the unit
can take the head (R172) and `act` is the meaning of its kind, the head leaves the queue and `act` serves it. Otherwise
this step is not the one the unit makes, and nothing but the passing of time happens (log 2, log 3). -/
def onRequest (dt : Nat) (s : State) (act : RawRequest → Request → State → Option State) : State :=
  live dt s fun s =>
    match takeRequest s with
    | none => s
    | some (r, s') =>
      match parseRequest r with
      | none => s
      | some q => (act r q s').getD s

end Sys2Proof.Machine
end

