-- ==== Sys2Proof/Machine/Flags.lean ====
section
/-!
DEFINITION. The claims on sweep records: flags, losses and states (R60, R83, R84), and the flags byte (Table 12.5).
-/

namespace Sys2Proof.Machine

/-- GAP is set while losses are recorded (Table 5.1). -/
def SweepRecord.gap (r : SweepRecord) : Bool := r.losses.isSome

/-- A record whose sweep is FILLING or DRAINING is incomplete (file 03, section 3.1). -/
def SweepRecord.incomplete (r : SweepRecord) : Bool := r.state != .complete

/-- The flags byte (Table 12.5). -/
def SweepRecord.flags (r : SweepRecord) : Nat :=
  r.coasted.toNat + 2 * r.short.toNat + 4 * r.gap.toNat + 8 * r.clipped.toNat + 16 * r.offsetRail.toNat
    + 32 * r.kept.toNat + 64 * r.averaged.toNat + 128 * r.damaged.toNat

/-- A claim on the record of one sequence; dropped when no such record stands (R83, R84). -/
def claim (t : Track) (seq : Nat) (f : SweepRecord → SweepRecord) (s : State) : State :=
  s.putRecords t ((s.records t).map (fun r => if r.seq = seq then f r else r))

/-- The record of one sequence. -/
def findRecord (s : State) (t : Track) (seq : Nat) : Option SweepRecord :=
  (s.records t).find? (fun r => r.seq = seq)

/-- The FILLING record of a track; there is at most one (R87). -/
def fillingRecord (s : State) (t : Track) : Option SweepRecord :=
  (s.records t).find? (fun r => r.state = .filling)

/-- The oldest incomplete sweep of a track (section 3.7); records stand in rising sequence (R85). -/
def oldestIncomplete (s : State) (t : Track) : Option SweepRecord :=
  (s.records t).find? (fun r => r.incomplete)

/-- The number of incomplete sweeps of a track (R47, R87). -/
def incompleteCount (s : State) (t : Track) : Nat := ((s.records t).filter (fun r => r.incomplete)).length

/-- The kept count (R88). -/
def keptCount (s : State) (t : Track) : Nat := ((s.records t).filter (fun r => r.kept)).length

def SweepRecord.setClipped (r : SweepRecord) : SweepRecord := { r with clipped := true }
def SweepRecord.setAveraged (r : SweepRecord) : SweepRecord := { r with averaged := true }
def SweepRecord.setDamaged (r : SweepRecord) : SweepRecord := { r with damaged := true }
def SweepRecord.setKept (v : Bool) (r : SweepRecord) : SweepRecord := { r with kept := v }

/-- One more lost position (R60). -/
def SweepRecord.lose (pos : Nat) (r : SweepRecord) : SweepRecord :=
  match r.losses with
  | none => { r with losses := some { count := 1, first := pos } }
  | some l => { r with losses := some { l with count := l.count + 1 } }

/-- A DRAINING claim, applied to a FILLING record (R84), with SHORT where a marker event ended the sweep (R52). -/
def SweepRecord.drain (short : Bool) (r : SweepRecord) : SweepRecord :=
  if r.state = .filling then { r with state := .draining, short := r.short || short } else r

/-- A COMPLETE claim, applied to a DRAINING record (R84). -/
def SweepRecord.finish (r : SweepRecord) : SweepRecord :=
  if r.state = .draining then { r with state := .complete } else r

/-- A position of the FILLING sweep of a track is lost (R60). -/
def loseOne (t : Track) (pos : Nat) (s : State) : State :=
  s.putRecords t ((s.records t).map (fun r => if r.state = .filling then r.lose pos else r))

end Sys2Proof.Machine
end

