-- ==== Sys2Proof/Machine/CheckCode.lean ====
section
/-!
DEFINITION. The codeword and its decoding (file 07: R127, R128), and words of 8 bytes.
-/

namespace Sys2Proof.Machine

/-- How many of the low 8 bits of v are set. -/
def bitCount8 (v : Nat) : Nat :=
  (v.testBit 0).toNat + (v.testBit 1).toNat + (v.testBit 2).toNat + (v.testBit 3).toNat
    + (v.testBit 4).toNat + (v.testBit 5).toNat + (v.testBit 6).toNat + (v.testBit 7).toNat

/-- The syndrome columns of data bits 0..63 (Table 7.2): the 56 values with three bits set in ascending order, then the
eight smallest values with five bits set in ascending order. -/
def dataColumns : List Nat :=
  (List.range 256).filter (fun v => bitCount8 v = 3) ++ ((List.range 256).filter (fun v => bitCount8 v = 5)).take 8

/-- The exclusive-or of the columns of the bits set in w, the bits numbered from k. -/
def syndromeSum (w : Nat) : Nat → List Nat → Nat
  | _, [] => 0
  | k, c :: cs => Nat.xor (if w.testBit k then c else 0) (syndromeSum w (k + 1) cs)

/-- The check bits of 64 data bits: check bit j is the parity of the data bits whose column has bit j, with check bits 0
and 1 inverted (R127). -/
def checkBits (w : Nat) : Nat := Nat.xor 3 (syndromeSum w 0 dataColumns)

/-- Eight bytes as a word: data bit k is bit k mod 8 of byte k div 8 (section 7.1). -/
def wordOf (bytes : List Byte) : Nat := leNat bytes

/-- The place of c in cs, counted from k. -/
def columnIndex (c : Nat) : Nat → List Nat → Option Nat
  | _, [] => none
  | k, x :: xs => if x = c then some k else columnIndex c (k + 1) xs

/-- The read code of a stored word with data bits w and check bits c (R128). -/
def decodeWord (w c : Nat) : ReadCode :=
  if w = 0 ∧ c = 0 then .allZero
  else if w = 2 ^ 64 - 1 ∧ c = 255 then .allOnes
  else
    let syndrome := Nat.xor (checkBits w) c
    if syndrome = 0 then .clean
    else
      match columnIndex syndrome 0 [1, 2, 4, 8, 16, 32, 64, 128] with
      | some k => .check k
      | none =>
        match columnIndex syndrome 0 dataColumns with
        | some k => .data k
        | none => .multiple

/-- The word delivered under a code (Table 7.3). -/
def deliveredWord (code : ReadCode) (w : Nat) : Nat :=
  match code with
  | .data k => Nat.xor w (2 ^ k)
  | .clean => w
  | .check _ => w
  | .multiple => w
  | .allZero => w
  | .allOnes => w

/-- Whether a code is uncorrectable (R128). -/
def ReadCode.uncorrectable : ReadCode → Bool
  | .multiple => true
  | .allZero => true
  | .allOnes => true
  | .clean => false
  | .data _ => false
  | .check _ => false

/-- Whether a code is a correction (R130). -/
def ReadCode.corrected : ReadCode → Bool
  | .data _ => true
  | .check _ => true
  | .clean => false
  | .multiple => false
  | .allZero => false
  | .allOnes => false

/-- The data bits an inject kind inverts in the first word (R136). -/
def InjectKind.mask : InjectKind → Nat
  | .single => 1
  | .double => 3

/-- Samples as DRAM bytes: low byte at 2s, high byte at 2s + 1 (R65, R186). -/
def sampleBytes (vs : List Int) : List Byte := vs.flatMap (fun v => leInt 2 v)

/-- The check bytes of n words of bytes (R127). -/
def checkBytes : Nat → List Byte → List Byte
  | 0, _ => []
  | n + 1, bytes => BitVec.ofNat 8 (checkBits (wordOf (bytes.take 8))) :: checkBytes n (bytes.drop 8)

/-- The bytes with the inject kind's data bits of the first word inverted; the check bits are those of the true data
(R136). -/
def injectInto (inject : Option InjectKind) (bytes : List Byte) : List Byte :=
  match inject with
  | none => bytes
  | some k => leBytes 8 (Nat.xor (wordOf (bytes.take 8)) k.mask) ++ bytes.drop 8

/-- Data bits of word w of page p as stored. -/
def storedWord (s : State) (p : Page) (w : Nat) : Nat :=
  wordOf ((List.range 8).map (fun b => s.dramByte (byteAddress p w + b)))

/-- Check bits of word w of page p as stored. -/
def storedCheck (s : State) (p : Page) (w : Nat) : Nat := (s.dramCheckByte (wordAddress p w)).toNat

/-- The four samples of a word, in position order (R65). -/
def wordSamples (w : Nat) : List Int :=
  (List.range 4).map (fun i => signed16 (w / 65536 ^ i % 65536))

end Sys2Proof.Machine
end

