-- ==== Sys2Proof/Machine/Layout.lean ====
section
/-!
DEFINITION. Byte layouts of frames, replies, records and notices (file 12), and the frame CRC (R167).
Byte sizes that Table 12.2 does not name are log 9.
-/

namespace Sys2Proof.Machine

/-! ## Codes of enumerated values (R188, Tables 12.2 to 12.6) -/

def unitByte : MarkerId → Byte
  | .A => 0
  | .B => 1

/-- A unit or none (Table 12.2). -/
def unitOrNone : Option MarkerId → Byte
  | none => 2
  | some u => unitByte u

def PolarityMode.code : PolarityMode → Byte
  | .auto => 0
  | .rising => 1
  | .falling => 2

/-- RISING, FALLING, NONE in the order of Table 1.1 (R188). -/
def polarityByte : Option Polarity → Byte
  | some .rising => 0
  | some .falling => 1
  | none => 2

def MarkerState.code : MarkerState → Byte
  | .noSignal => 0
  | .acquiring => 1
  | .locked => 2
  | .coasting => 3

def HaltReason.code : HaltReason → Byte
  | .mapHole => 0
  | .noRoom => 1
  | .sequenceExhausted => 2

def TrackState.code : TrackState → Byte
  | .idle => 0
  | .armed => 1
  | .sweeping => 2
  | .awaiting => 3
  | .stopping => 4
  | .halted _ => 5

/-- The halt reason byte that follows the track state; zero unless HALTED (R189). -/
def TrackState.haltByte : TrackState → Byte
  | .halted r => r.code
  | .idle => 0
  | .armed => 0
  | .sweeping => 0
  | .awaiting => 0
  | .stopping => 0

def RecordState.code : RecordState → Byte
  | .filling => 0
  | .draining => 1
  | .complete => 2

def MemState.code : MemState → Byte
  | .running => 0
  | .entering _ => 1
  | .standby => 2
  | .waking _ => 3

def CheckMode.code : CheckMode → Byte
  | .off => 0
  | .quiet => 1
  | .notify => 2

def InjectKind.code : InjectKind → Byte
  | .single => 0
  | .double => 1

def DisableReason.code : DisableReason → Byte
  | .none => 0
  | .request => 1
  | .length => 2

def EndStatus.code : EndStatus → Byte
  | .done => 0
  | .overtaken => 1
  | .aborted => 2
  | .reset => 3

def FrameType.code : FrameType → Nat
  | .request => 1
  | .reply => 2
  | .data => 3
  | .notice => 4

def LinkErrorKind.code : LinkErrorKind → Byte
  | .length => 0
  | .crc => 1
  | .endMissing => 2
  | .notRequest => 3

def LossCause.code : LossCause → Byte
  | .coastLimit => 0
  | .setMarker => 1

def RestartCause.code : RestartCause → Byte
  | .powerOn => 0
  | .resetLine => 1

/-- A read code: its kind, then k or 00h (Table 12.2). -/
def ReadCode.bytes : ReadCode → List Byte
  | .clean => [0, 0]
  | .data k => [1, BitVec.ofNat 8 k]
  | .check k => [2, BitVec.ofNat 8 k]
  | .multiple => [3, 0]
  | .allZero => [4, 0]
  | .allOnes => [5, 0]

/-! ## Items -/

/-- A 48-bit time (Table 12.2). -/
def timeBytes (t : Time) : List Byte := leBytes 6 t.toNat

/-- A value that may be absent, after its presence byte (R186, R189): zero bytes when absent. -/
def present {α : Type} (size : Nat) (enc : α → List Byte) : Option α → List Byte
  | none => 0 :: List.replicate size 0
  | some a => 1 :: enc a

/-- A sequence (Table 12.2). -/
def seqBytes (n : Nat) : List Byte := leBytes 4 n

/-- A sweep record as sent (Table 12.5). -/
def recordBytes (r : SweepRecord) : List Byte :=
  seqBytes r.seq ++ timeBytes r.markerTime ++ leBytes 6 r.period ++ leBytes 2 r.firstPage ++ leBytes 2 r.length
    ++ leBytes 2 r.generation.toNat ++ leInt 2 r.offsetUsed ++ [r.state.code, unitByte r.unit, BitVec.ofNat 8 r.flags]
    ++ (match r.losses with
        | none => [0, 0, 0, 0]
        | some l => leBytes 2 l.count ++ leBytes 2 l.first)

/-- The five fields of a CORRECTED payload (Table 12.6). -/
def wordFaultBytes (w : WordFault) : List Byte :=
  leBytes 2 w.page.toNat ++ [BitVec.ofNat 8 w.offset] ++ w.code.bytes ++ [BitVec.ofNat 8 w.track.val] ++ seqBytes w.seq

/-- The seven fields of a MEMORY_FAULT payload; those of the other kind are zero (Table 12.6, R191). -/
def memoryFaultBytes : MemoryFaultRecord → List Byte
  | .uncorrectable w => 0 :: wordFaultBytes w ++ List.replicate 6 0
  | .refreshOverrun t => 1 :: List.replicate 10 0 ++ timeBytes t

def StopReason.bytes : StopReason → List Byte
  | .countDone => [0, 0]
  | .stopped => [1, 0]
  | .aborted => [2, 0]
  | .halted r => [3, r.code]

/-- An occurrence payload (Table 12.6). -/
def Occurrence.bytes : Occurrence → List Byte
  | .sweepDone seq flags => seqBytes seq ++ [BitVec.ofNat 8 flags]
  | .trackStopped reason done counter => reason.bytes ++ leBytes 2 done ++ seqBytes counter
  | .meanReady t number last k =>
      BitVec.ofNat 8 t.val :: leBytes 2 number.toNat ++ seqBytes last ++ leBytes 2 k
  | .markerLocked t e => [0, 0] ++ timeBytes t ++ leBytes 4 e
  | .markerLost cause t e => [1, cause.code] ++ timeBytes t ++ leBytes 4 e
  | .memoryFault f => memoryFaultBytes f
  | .corrected w => wordFaultBytes w
  | .standbyChange (.standby .request) t b => [0, 0] ++ timeBytes t ++ leInt 1 b
  | .standbyChange (.standby .auto) t b => [0, 1] ++ timeBytes t ++ leInt 1 b
  | .standbyChange (.running .burst) t b => [1, 2] ++ timeBytes t ++ leInt 1 b
  | .standbyChange (.running .wake) t b => [1, 3] ++ timeBytes t ++ leInt 1 b
  | .linkError kind t => kind.code :: timeBytes t

/-! ## Frames -/

/-- One bit of the CRC (R167). -/
def crcBit (reg : BitVec 16) (bit : Bool) : BitVec 16 :=
  if reg.msb = bit then reg <<< 1 else (reg <<< 1) ^^^ 4129#16

/-- One byte of the CRC, most significant bit first (R167). -/
def crcByte (reg : BitVec 16) (b : Byte) : BitVec 16 :=
  [7, 6, 5, 4, 3, 2, 1, 0].foldl (fun r i => crcBit r (b.getLsbD i)) reg

/-- The CRC of header and payload (R167). -/
def crc (bytes : List Byte) : BitVec 16 := bytes.foldl crcByte 65535#16

/-- The eight header bytes (Table 12.1). -/
def Frame.header (f : Frame) : List Byte :=
  leBytes 2 f.ftype.code ++ leBytes 2 f.code ++ leBytes 2 f.tag ++ leBytes 2 f.payload.length

/-- The data bytes of a frame between its start and end symbols: header, payload, CRC low byte first (R166, R186). -/
def Frame.wire (f : Frame) : List Byte :=
  f.header ++ f.payload ++ leBytes 2 (crc (f.header ++ f.payload)).toNat

def Reply.frame (r : Reply) : Frame := { ftype := .reply, code := r.code, tag := r.tag, payload := r.payload }

/-- The frame of a pending entry: the again byte, then the occurrence payload (R180, R191). -/
def NoticeEntry.frame (e : NoticeEntry) : Frame :=
  { ftype := .notice, code := e.source.val, tag := 0, payload := flagByte e.again :: e.occurrence.bytes }

/-- The RESTARTED frame (R177, R191, Table 12.6). -/
def restartedFrame (c : RestartCause) : Frame :=
  { ftype := .notice, code := 31, tag := 0,
    payload := 0 :: c.code :: (leBytes 2 Config.partCode ++ leBytes 1 Config.revision) }

/-- The code of the read request in a data frame's header (Table 12.1). -/
def ReadKind.frameCode : ReadKind → Nat
  | .sweep _ _ => 0x60
  | .mean => 0x61

/-- One sample in its read's byte order (R186). -/
def orderedSample (o : ByteOrder) (v : Int) : List Byte :=
  match o with
  | .lowFirst => leInt 2 v
  | .highFirst => (leInt 2 v).reverse

/-- The final frame of a read that ended other than DONE (R147, R190). -/
def EndFrame.frame (e : EndFrame) : Frame :=
  { ftype := .data, code := if e.mean then 0x61 else 0x60, tag := e.tag,
    payload := leBytes 2 e.position ++ leBytes 2 0 ++ leBytes 2 0 ++ [1, e.status.code] ++ leBytes 2 e.delivered }

/-- A data frame of a read with the samples given (R144, R190); `final` when it holds the read's last position, and then
`delivered` is the read's delivered count with this frame's samples. -/
def dataFrame (r : Read) (position : Nat) (samples : List Sample) (final : Bool) (delivered : Nat) : Frame :=
  { ftype := .data, code := r.kind.frameCode, tag := r.tag,
    payload := leBytes 2 position ++ leBytes 2 samples.length
      ++ leBytes 2 (samples.filter (fun x => x.damaged)).length
      ++ (if final then [1, EndStatus.done.code] ++ leBytes 2 delivered else [0, 0, 0, 0])
      ++ samples.flatMap (fun x => orderedSample r.order x.value) }

/-! ## Bodies of OK replies, in the order of each request's rule (R189) -/

/-- R21. -/
def markerStatusBody (m : MarkerUnit) : List Byte :=
  [m.state.code, polarityByte m.detected] ++ leBytes 4 m.estimate ++ leBytes 2 m.count ++ leBytes 2 m.coast
    ++ [flagByte m.early] ++ present 6 timeBytes m.lastMarker
    ++ [m.settings.polarityMode.code] ++ leBytes 1 m.settings.minWidth ++ leBytes 1 m.settings.tolerance
    ++ leBytes 1 m.settings.coastLimit

/-- R64. -/
def trackStatusBody (u : TrackUnit) : List Byte :=
  [u.state.code, u.state.haltByte, unitOrNone u.selected] ++ leBytes 2 u.armCount ++ leBytes 2 u.sweepsDone
    ++ seqBytes u.seqCounter ++ [flagByte u.spent] ++ leBytes 2 u.fifo.length ++ leBytes 2 u.generation.toNat
    ++ leInt 2 u.offsetInUse ++ [flagByte u.pendingSet.isSome] ++ leBytes 1 u.intervalCount
    ++ [flagByte u.updateRequest]

/-- R78. -/
def checkPageBody (e : Option MapEntry) (occupant : Option Nat) : List Byte :=
  (match e with
   | none => [0, 0, 0, 0, 0]
   | some m => 1 :: leBytes 2 m.page.toNat ++ [flagByte m.hostProtect, flagByte m.keep])
    ++ present 4 seqBytes occupant

/-- R79. -/
def pageOwnerBody : Option Owner → List Byte
  | none => [0, 0, 0, 0]
  | some o => 1 :: BitVec.ofNat 8 o.track.val :: leBytes 2 o.logical

/-- R101. -/
def listSweepsBody (rs : List SweepRecord) (remaining : Nat) : List Byte :=
  leBytes 1 rs.length ++ leBytes 2 remaining ++ rs.flatMap recordBytes

/-- A bank table entry (Table 12.2). -/
def bankBytes (b : Bank) : List Byte :=
  match b.row with
  | none => [0, 0, 0]
  | some r => 1 :: leBytes 2 r

/-- R125. -/
def memoryStatusBody (m : MemControl) : List Byte :=
  [m.state.code] ++ leInt 1 m.balance ++ [flagByte m.reentry] ++ m.banks.toList.flatMap bankBytes
    ++ [flagByte m.autoEnable] ++ leBytes 1 m.autoDelay

/-- R134. -/
def readFaultBody (c : CheckUnit) : List Byte :=
  present 10 wordFaultBytes c.lastCorrected ++ present 17 memoryFaultBytes c.firstUncorrectable
    ++ [flagByte c.more, c.mode.code]
    ++ present 2 (fun (p : Track × InjectKind) => [BitVec.ofNat 8 p.1.val, p.2.code]) c.inject

/-- R163. -/
def averagerStatusBody (a : Averager) : List Byte :=
  [flagByte a.region.isSome, a.reason.code]
    ++ (match a.region with
        | none => [0, 0, 0, 0]
        | some r => leBytes 2 r.base ++ leBytes 2 (2 * r.length))
    ++ leBytes 2 a.k ++ [flagByte a.includeCoasted] ++ leBytes 2 a.blockCount ++ present 4 seqBytes a.blockLast
    ++ [flagByte a.publication.isSome, flagByte a.published] ++ leBytes 2 a.pubNumber.toNat
    ++ present 4 seqBytes a.pubLast

/-- R183. -/
def noticeStatusBody (n : NoticeUnit) : List Byte :=
  leBytes 1 n.threshold ++ n.levels.toList.flatMap (leBytes 1)
    ++ n.entries.flatMap (fun e =>
        [BitVec.ofNat 8 e.source.val] ++ leBytes 1 (n.level e.source) ++ [flagByte e.again] ++ e.occurrence.bytes)

/-- R175, R189. -/
def identityBody : List Byte :=
  leBytes 2 Config.partCode ++ leBytes 1 Config.revision ++ Config.capacities.flatMap (leBytes 4)

end Sys2Proof.Machine
end

