-- ==== Sys2Proof/Machine/Reads.lean ====
section
/-!
DEFINITION. The readout engine's shared operations: frames of a read, the engine request, the ends of reads and the
frame offered to the outbound pair (file 08).
-/

namespace Sys2Proof.Machine

/-- The position after the last one a read asks for. -/
def Read.stop (r : Read) : Nat := r.firstPos + r.count

/-- First position of frame j (R141). -/
def Read.frameStart (r : Read) (j : Nat) : Nat := r.firstPos + 256 * j

/-- Samples of frame j (R141, R144). -/
def Read.frameSize (r : Read) (j : Nat) : Nat := min 256 (r.count - 256 * j)

/-- The oldest unsent frame: every frame sent but the last holds 256 samples (R144). -/
def Read.unsentFrame (r : Read) : Nat := r.delivered / 256

/-- The samples of frame j when it is built: every one of its positions has been taken (R143). -/
def Read.builtFrame (r : Read) (j : Nat) : Option (List Sample) :=
  (List.range (r.frameSize j)).mapM (fun i => tget r.samples (r.frameStart j + i))

/-- Whether frame j holds the read's last position (R145). -/
def Read.isLastFrame (r : Read) (j : Nat) : Bool := r.count ≤ 256 * j + 256

/-- The block the engine asks for (R142): the next one of the active SWEEP read, while it holds a position of one of the
read's two oldest unsent frames. -/
def engineBlock (s : State) : Option (Read × Nat × Nat × Nat) :=
  match s.readout.queue with
  | [] => none
  | r :: _ =>
    match r.kind with
    | .mean => none
    | .sweep seq firstPage =>
      if max (32 * r.nextFetch) r.firstPos < min (r.frameStart (r.unsentFrame + 2)) r.stop then
        some (r, seq, firstPage, r.nextFetch)
      else none

/-- The word offsets, within a burst of block b, that hold a position the read asks for (R129, R142). -/
def askedWords (r : Read) (b : Nat) : List Nat :=
  (List.range 8).filter (fun w => max (32 * b + 4 * w) r.firstPos < min (32 * b + 4 * w + 4) r.stop)

/-- A burst no requester takes any more. -/
def Burst.unheed (b : Burst) : Burst := { b with heeded := false }

def Burst.isRead (b : Burst) : Bool :=
  match b.job with
  | .read _ => true
  | .write _ _ => false

def ReadKind.isMean : ReadKind → Bool
  | .mean => true
  | .sweep _ _ => false

/-- The final frame of a read that ends other than DONE, as it stands (R147, R190). -/
def Read.ending (status : EndStatus) (r : Read) : EndFrame :=
  { tag := r.tag, mean := r.kind.isMean, position := r.firstPos + r.delivered, status := status, delivered := r.delivered }

/-- The readout engine with the reads that satisfy `p` ended, in queue order (R147). -/
def Readout.endReads (p : Read → Bool) (status : EndStatus) (q : Readout) : Readout :=
  { queue := q.queue.filter (fun r => !p r), ended := q.ended ++ (q.queue.filter p).map (Read.ending status) }

/-- The reads that satisfy `p` end in one step (R147). When the active one is among them, its bursts that complete
afterwards are discarded; its ungranted request goes with it. -/
def endReads (p : Read → Bool) (status : EndStatus) (s : State) : State :=
  let s' := s.setReadout (s.readout.endReads p status)
  match s.readout.queue with
  | [] => s'
  | r :: _ =>
    if p r then
      s'.setMem { s.mem with granted := s.mem.granted.map (fun b => if b.isRead then b.unheed else b) }
    else s'

/-- Whether a read is a SWEEP read of one sweep (R148). -/
def Read.ofSweep (t : Track) (seq : Nat) (r : Read) : Bool :=
  match r.kind with
  | .sweep q _ => r.track = t && q = seq
  | .mean => false

/-- Whether a read is a MEAN read of a track (R149). -/
def Read.ofMean (t : Track) (r : Read) : Bool :=
  match r.kind with
  | .sweep _ _ => false
  | .mean => r.track = t

/-- A retirement overtakes every SWEEP read it names (R148). -/
def overtakeSweep (t : Track) (seq : Nat) (s : State) : State := endReads (Read.ofSweep t seq) .overtaken s

/-- A discard of a track's mean overtakes every READ_MEAN of it in the queue (R149). -/
def overtakeMeans (t : Track) (s : State) : State := endReads (Read.ofMean t) .overtaken s

/-- A publication that begins overtakes the active READ_MEAN of its track (R149). -/
def overtakeActiveMean (t : Track) (s : State) : State :=
  match s.readout.queue with
  | [] => s
  | r :: rest =>
    if r.ofMean t then
      s.setReadout { queue := rest, ended := s.readout.ended ++ [r.ending .overtaken] }
    else s

/-- The reads that hold a tag: in the queue, or as a final frame in the end list (R138). -/
def tagInQueue (s : State) (tag : Nat) : Bool := s.readout.queue.any (fun r => r.tag = tag)
def tagInEnded (s : State) (tag : Nat) : Bool := s.readout.ended.any (fun e => e.tag = tag)

/-- Reads in the queue and final frames in the end list together (R138). -/
def readLoad (s : State) : Nat := s.readout.queue.length + s.readout.ended.length

/-- The active read takes samples at positions from `first` on, those it asks for (R143). -/
def Read.take (first : Nat) (samples : List Sample) (r : Read) : Read :=
  let asked := (cells first samples).filter (fun c => r.firstPos ≤ c.1 && c.1 < r.stop)
  { r with samples := asked.foldl (fun m c => tput m c.1 c.2) r.samples }

/-- The active read is replaced. -/
def setActive (r : Read) (s : State) : State :=
  match s.readout.queue with
  | [] => s
  | _ :: rest => s.setReadout { s.readout with queue := r :: rest }

/-- The data frame the engine offers and the state when it is sent (R145): the head of the end list, otherwise the
oldest unsent frame of the active read once it is built. -/
def offeredFrame (s : State) : Option (Frame × State) :=
  match s.readout.ended with
  | e :: rest => some (e.frame, s.setReadout { s.readout with ended := rest })
  | [] =>
    match s.readout.queue with
    | [] => none
    | r :: rest =>
      match r.builtFrame r.unsentFrame with
      | none => none
      | some samples =>
        if r.isLastFrame r.unsentFrame then
          some (dataFrame r (r.frameStart r.unsentFrame) samples true (r.delivered + samples.length),
            s.setReadout { s.readout with queue := rest })
        else
          some (dataFrame r (r.frameStart r.unsentFrame) samples false 0,
            s.setReadout { s.readout with
              queue :=
                { r with
                  delivered := r.delivered + samples.length,
                  samples := r.samples.filter (fun c => r.frameStart (r.unsentFrame + 1) ≤ c.1) } :: rest })

end Sys2Proof.Machine
end

