-- ==== Sys2Proof/Machine/Index.lean ====
section
/-!
DEFINITION. The index and map units' shared operations: occupancy, keep marks, retirement, and the placement scan
(file 05: R86 to R97; file 04: R69, R70).
-/

namespace Sys2Proof.Machine

/-- Whether a logical page is one of a record's pages (R82, R86). -/
def SweepRecord.occupies (p : Nat) (r : SweepRecord) : Bool :=
  r.firstPage ≤ p && p < r.firstPage + pageCount r.length

/-- The record that occupies a logical page (R86). -/
def occupant (s : State) (t : Track) (p : Nat) : Option SweepRecord := (s.records t).find? (SweepRecord.occupies p)

/-- The keep marks of n entries from `first` on are set or cleared in one step (R69). -/
def markKeep (v : Bool) (first n : Nat) (m : Table MapEntry) : Table MapEntry :=
  m.map (fun c => if first ≤ c.1 ∧ c.1 < first + n then (c.1, { c.2 with keep := v }) else c)

/-- The index unit's claim on the keep marks of a record's pages (R69). -/
def claimKeep (t : Track) (v : Bool) (r : SweepRecord) (s : State) : State :=
  s.putMap t (markKeep v r.firstPage (pageCount r.length) (s.map t))

/-- The physical page a logical page of a track is translated to (R70). -/
def translate (s : State) (t : Track) (p : Nat) : Option Page := (tget (s.map t) p).map (fun e => e.page)

/-- The bursts of one sweep's writer complete unheeded from now on (R56, R63). -/
def unheedWrites (t : Track) (seq : Nat) (s : State) : State :=
  s.setMem { s.mem with
    granted := s.mem.granted.map (fun b => if !b.isRead && b.track = t && b.seq = seq then b.unheed else b) }

/-- A track unit without the staging entries of one sweep and without a write cursor on it (R56, R63). -/
def TrackUnit.dropSweep (seq : Nat) (u : TrackUnit) : TrackUnit :=
  { u with
    fifo := u.fifo.filter (fun e => e.seq ≠ seq),
    cursor := (match u.cursor with
      | some c => if c.seq = seq then none else some c
      | none => none) }

/-- A sweep's staging entries are discarded, a cursor on it is dropped, and a burst of it in flight completes unheeded
(R56, R63). -/
def dropStaged (t : Track) (seq : Nat) (s : State) : State :=
  unheedWrites t seq (s.putTrack t ((s.track t).dropSweep seq))

/-- A record leaves its index; a kept one gives up its keep marks (R69, R95). -/
def removeRecord (t : Track) (r : SweepRecord) (s : State) : State :=
  let s := s.putRecords t ((s.records t).filter (fun x => x.seq ≠ r.seq))
  if r.kept then claimKeep t false r s else s

/-- Retirement of a record (R95): it leaves the index, a DRAINING one's staging goes, and its reads are overtaken. -/
def retire (t : Track) (r : SweepRecord) (s : State) : State :=
  let s := removeRecord t r s
  let s := if r.state = .draining then dropStaged t r.seq s else s
  overtakeSweep t r.seq s

/-- Several records retired, in the order given. -/
def retireAll (t : Track) (rs : List SweepRecord) (s : State) : State := rs.foldl (fun s r => retire t r s) s

/-! ## The placement scan (R90 to R94) -/

/-- Whether a logical page is barred to the scan (R90). -/
def barred (s : State) (t : Track) (p : Nat) : Bool :=
  (match tget (s.map t) p with
   | some e => e.hostProtect || e.keep
   | none => false)
  || (s.records t).any (fun r => r.incomplete && r.occupies p)

/-- The n pages from c on. -/
def pageRange (c n : Nat) : List Nat := (List.range n).map (fun i => c + i)

/-- How a placement scan ends (Table 5.3). -/
inductive ScanEnd where
  | found (first : Nat)
  | mapHole
  | noRoom
  deriving DecidableEq, Repr

/-- The scan from candidate c on, with its start and whether it has wrapped (R91, R92). A scan that has wrapped and whose
candidate, beyond the start, would pass the window's end again ends there with NO_ROOM and does not wrap a second time:
the model's reading (log 26). `fuel` bounds the moves: each advances c by a page or is the one wrap, so 2W + 2 suffice. -/
def scanFrom (s : State) (t : Track) (base w n start : Nat) : Nat → Nat → Bool → ScanEnd
  | 0, _, _ => .noRoom
  | fuel + 1, c, wrapped =>
    if wrapped && start ≤ c then .noRoom
    else if (pageRange c n).any (fun p => (tget (s.map t) p).isNone) then .mapHole
    else
      match (pageRange c n).reverse.find? (fun p => barred s t p) with
      | none => .found c
      | some p =>
        if p + 1 + n ≤ base + w then scanFrom s t base w n start fuel (p + 1) wrapped
        else if wrapped then .noRoom
        else scanFrom s t base w n start fuel base true

/-- The start of a scan: the write position, or the window base when the range would pass the window's end (R91). -/
def scanStart (s : State) (t : Track) : Nat :=
  let a := (s.track t).active
  if a.base + a.windowSize < s.writePosition t + pageCount a.length then a.base else s.writePosition t

/-- The placement scan of a track under its active set (R90, R91). -/
def placementScan (s : State) (t : Track) : ScanEnd :=
  let a := (s.track t).active
  scanFrom s t a.base a.windowSize (pageCount a.length) (scanStart s t) (2 * a.windowSize + 2) (scanStart s t) false

/-- Retirement of the occupants of a found range, then of the oldest qualifying record when the index is still full, and
the new write position (R93, steps 1 to 3). -/
def placeAt (t : Track) (c : Nat) (s : State) : State :=
  let n := pageCount (s.track t).active.length
  let s := retireAll t ((s.records t).filter (fun r => (pageRange c n).any (fun p => r.occupies p))) s
  let s :=
    if Config.maxRecords ≤ (s.records t).length then
      match (s.records t).find? (fun r => r.state = .complete && !r.kept) with
      | some r => retire t r s
      | none => s
    else s
  s.putWritePosition t (c + n)

end Sys2Proof.Machine
end

