-- ==== Sys2Proof/Machine/Averaging.lean ====
section
/-!
DEFINITION. The averager's shared operations (file 09: R153 to R162, R165).
-/

namespace Sys2Proof.Machine

/-- Every sum of a track's sum area is cleared to 0. -/
def clearSums (g : Region) (s : State) : State :=
  s.setAveragerRam (tfill s.averagerRam g.base (List.replicate g.length 0))

/-- A block restart (R159); a disabled averager has no block. -/
def restartBlock (t : Track) (s : State) : State :=
  let a := s.averager t
  match a.region with
  | none => s
  | some g =>
    let s := s.putAverager t { a with blockCount := 0, blockLast := none, current := none }
    if a.publication.isSome then s else clearSums g s

/-- A publication in flight is stopped and the published mean discarded; the engine is told (R162). -/
def discardMean (t : Track) (s : State) : State :=
  overtakeMeans t
    (s.putAverager t { s.averager t with publication := none, published := false, pubLast := none })

/-- The averager of a track is disabled for a reason (R155, R162); nothing changes if it is disabled already. -/
def disableAverager (t : Track) (reason : DisableReason) (s : State) : State :=
  if (s.averager t).region.isNone then s
  else
    let s := discardMean t s
    s.putAverager t
      { s.averager t with region := none, blockCount := 0, current := none, blockLast := none, reason := reason }

/-- A new sweep is made known; it becomes the current sweep when it qualifies (R156). -/
def averagerSweepStart (t : Track) (seq : Nat) (coasted : Bool) (s : State) : State :=
  let a := s.averager t
  let qualifies := a.region.isSome && a.publication.isNone && (!coasted || a.includeCoasted)
  s.putAverager t { a with current := if qualifies then some seq else none }

/-- An accepted value of the current sweep is added to the sum of its position (R157). -/
def averagerAdd (t : Track) (pos : Nat) (v : Int) (s : State) : State :=
  let a := s.averager t
  match a.region, a.current with
  | some g, some _ =>
    s.setAveragerRam
      (tput s.averagerRam (g.base + pos) (s.ramWord (g.base + pos) + BitVec.ofInt 32 v))
  | _, _ => s

/-- Publication begins (R160): c becomes 0, the mean is absent, an active READ_MEAN is overtaken (R149). -/
def beginPublication (t : Track) (last : Nat) (s : State) : State :=
  overtakeActiveMean t
    (s.putAverager t
      { s.averager t with blockCount := 0, publication := some { next := 0, last := last }, published := false })

/-- The current sweep has reached DRAINING with its final flags (R158). -/
def averagerSweepEnd (t : Track) (seq : Nat) (spoiled : Bool) (s : State) : State :=
  let a := s.averager t
  if a.current = some seq then
    if spoiled then restartBlock t s
    else
      let s := s.putAverager t { a with current := none, blockCount := a.blockCount + 1, blockLast := some seq }
      let s := claim t seq SweepRecord.setAveraged s
      if a.blockCount + 1 = a.k then beginPublication t seq s else s
  else s

/-- A FILLING sweep has been removed: the block restarts when it was the current sweep (R56, R159). -/
def averagerSweepRemoved (t : Track) (seq : Nat) (s : State) : State :=
  if (s.averager t).current = some seq then restartBlock t s else s

/-- What RESET_PART and RESET_TRACK do to a track's averager (R165). -/
def resetAverager (t : Track) (s : State) : State :=
  let s := discardMean t s
  let a := s.averager t
  let s := s.putAverager t { a with current := none, blockCount := 0, blockLast := none }
  match a.region with
  | none => s
  | some g => clearSums g s

/-- The mean of a position: its sum divided by K, rounded to nearest, ties away from zero (R160). -/
def meanOf (s : State) (g : Region) (k p : Nat) : Int := roundNearest (s.ramWord (g.base + p)).toInt k

/-- The publication of a track completes (R160). -/
def completePublication (t : Track) (g : Region) (last : Nat) (s : State) : State :=
  let s := clearSums g s
  let a := s.averager t
  let s := s.putAverager t
    { a with publication := none, published := true, pubLast := some last, blockLast := none,
             pubNumber := a.pubNumber + 1 }
  post (Source.meanReady t) (.meanReady t (a.pubNumber + 1) last a.k) s

/-- One mean of the publication in flight is written; the last one completes it (R160). -/
def writeMean (t : Track) (s : State) : State :=
  let a := s.averager t
  match a.region, a.publication with
  | some g, some p =>
    let s := s.setAveragerRam
      (tput s.averagerRam (g.base + g.length + p.next) (BitVec.ofInt 32 (meanOf s g a.k p.next)))
    let s := s.putAverager t { a with publication := some { p with next := p.next + 1 } }
    if g.length ≤ p.next + 1 then completePublication t g p.last s else s
  | _, _ => s

/-- The mean values of a frame of the active READ_MEAN (R146). -/
def meanSamples (s : State) (g : Region) (start n : Nat) : List Sample :=
  (List.range n).map (fun i => { value := (s.ramWord (g.base + g.length + start + i)).toInt, damaged := false })

/-- Whether two spans [a, a + m) and [b, b + n) share a word (R154). -/
def overlap (a m b n : Nat) : Bool := a < b + n && b < a + m

/-- Whether a region of 2N words from base on shares a word with the region of another track (R154, check 3). -/
def regionTaken (s : State) (t : Track) (base n : Nat) : Bool :=
  allTracks.any (fun u =>
    u ≠ t &&
      (match (s.averager u).region with
       | none => false
       | some g => overlap base (2 * n) g.base (2 * g.length)))

end Sys2Proof.Machine
end

