-- ==== Sys2Proof/Machine/Memory.lean ====
section
/-!
DEFINITION. The memory controller's shared operations (file 06: R106 to R124) and what a completed burst does
(file 07: R127 to R131, R133; R63; R143).
-/

namespace Sys2Proof.Machine

/-! ## Who asks for a burst -/

/-- The bank and the row of a page (R65). -/
def pageBank (p : Page) : BankId := ⟨p.toNat % 8, by omega⟩
def pageRow (p : Page) : Nat := p.toNat / 8
def Burst.bank (b : Burst) : BankId := pageBank b.page
def Burst.row (b : Burst) : Nat := pageRow b.page

/-- Whether a track's writer has a burst in flight (R61, Table 3.1). -/
def writerBusy (s : State) (t : Track) : Bool :=
  s.mem.granted.any (fun b => !b.isRead && b.attached && b.track = t)

/-- The next position the writer writes of a sweep: its cursor, or position 0 (R62). -/
def TrackUnit.writeNext (u : TrackUnit) (seq : Nat) : Nat :=
  match u.cursor with
  | some c => if c.seq = seq then c.next else 0
  | none => 0

/-- Whether the oldest incomplete sweep of a track is DRAINING with positions not yet written (R61). -/
def drainsOn (s : State) (t : Track) : Bool :=
  match oldestIncomplete s t with
  | some r => r.state = .draining && (s.track t).writeNext r.seq < r.length
  | none => false

/-- Whether a track's writer presents a burst request (R61). -/
def writerRequests (s : State) (t : Track) : Bool :=
  !writerBusy s t && (32 ≤ (s.track t).fifo.length || drainsOn s t)

/-- Whether a writer's request is urgent (R61). -/
def writerUrgent (s : State) (t : Track) : Bool :=
  writerRequests s t && Config.urgentFill ≤ (s.track t).fifo.length

/-- Whether any writer or the readout engine presents a burst request (R110). -/
def burstRequested (s : State) : Bool := allTracks.any (writerRequests s) || (engineBlock s).isSome

/-! ## Banks, transfers and refresh by themselves -/

/-- The head of a bank's service list (R107). -/
def MemControl.head (m : MemControl) (b : BankId) : Option Burst := m.granted.find? (fun x => x.bank = b)

def MemControl.setBank (m : MemControl) (b : BankId) (x : Bank) : MemControl := { m with banks := m.banks.set b x }

/-- A bank takes the step its head burst needs (R107). -/
def MemControl.stepBank (m : MemControl) (b : BankId) : MemControl :=
  match m.head b with
  | none => m
  | some h =>
    if m.dataPath = some b then m
    else
      match m.banks[b].step with
      | .closing => m
      | .opening _ => m
      | .none =>
        match m.banks[b].row with
        | none => m.setBank b { row := none, step := .opening h.row }
        | some r => if r = h.row then m else m.setBank b { row := none, step := .closing }

/-- Every bank takes the step its head burst needs (R107). -/
def MemControl.stepBanks (m : MemControl) : MemControl := (List.finRange 8).foldl MemControl.stepBank m

/-- Whether a burst is at the head of its bank's list and the bank is OPEN on its row with no step (R107). -/
def MemControl.ready (m : MemControl) (x : Burst) : Bool :=
  m.head x.bank = some x && m.banks[x.bank].row = some x.row && m.banks[x.bank].step = .none

/-- A free data path is taken by the ready head burst of the earliest grant (R108). -/
def MemControl.startTransfer (m : MemControl) : MemControl :=
  match m.dataPath with
  | some _ => m
  | none => { m with dataPath := (m.granted.find? m.ready).map Burst.bank }

/-- A close step begins in a bank that is OPEN (R106). -/
def Bank.beginClose (b : Bank) : Bank :=
  match b.row with
  | some _ => { row := none, step := .closing }
  | none => b

def MemControl.closeOpen (m : MemControl) : MemControl := { m with banks := m.banks.map Bank.beginClose }

/-- Whether no bank has a step in progress. -/
def MemControl.noSteps (m : MemControl) : Bool := m.banks.toList.all (fun b => b.step = .none)

/-- Whether a bank is OPEN. -/
def MemControl.anyOpen (m : MemControl) : Bool := m.banks.toList.any (fun b => b.row.isSome)

/-- The refresh service goes on (R115): when the bursts before it have completed the open banks are closed, and when no
close step is left the refresh begins. -/
def MemControl.driveRefresh (m : MemControl) : MemControl :=
  let m := if m.refresh = .waiting && m.granted.isEmpty then { m.closeOpen with refresh := .closing } else m
  if m.refresh = .closing && m.noSteps then { m with refresh := .inFlight } else m

/-! ## Standby and waking -/

/-- Waking begins (R119, R120). -/
def beginWaking (cause : WakeCause) (s : State) : State := s.setMem { s.mem with state := .waking cause }

/-- The request in hand, when it is of one kind, completes with OK (R118, R120, R172). -/
def completeInHand (code : Nat) (s : State) : State :=
  match s.link.inHand with
  | some r => if r.code = code then answer r .ok (s.setLink { s.link with inHand := none }) else s
  | none => s

/-- The standby entry completes (R118). -/
def completeEntry (cause : EntryCause) (s : State) : State :=
  let s := s.setMem { s.mem with state := .standby }
  let s := post Source.standbyChange (.standbyChange (.standby cause) s.time s.mem.balance) s
  let s := completeInHand 0x40 s
  if s.mem.heldWake then beginWaking .wake s
  else if burstRequested s then beginWaking .burst s
  else s

/-- The standby entry goes on (R117, items 3 to 5). -/
def driveEntry (s : State) : State :=
  match s.mem.state with
  | .running => s
  | .standby => s
  | .waking _ => s
  | .entering cause =>
    if s.mem.refresh = .none && s.mem.granted.isEmpty then
      if 0 < s.mem.balance then s.setMem { s.mem with refresh := .waiting }.driveRefresh
      else if s.mem.anyOpen then s.setMem s.mem.closeOpen
      else if s.mem.noSteps then completeEntry cause s
      else s
    else s

/-- What the controller begins by itself at the end of each of its steps: bank steps, a transfer, the stages of a
refresh, the stages of an entry (R107, R108, R115, R117). -/
def drive (s : State) : State := driveEntry (s.setMem s.mem.stepBanks.startTransfer.driveRefresh)

/-- In STANDBY a presented burst request starts waking (R119). -/
def wakeIfRequested (s : State) : State :=
  if s.mem.state = .standby && burstRequested s then beginWaking .burst s else s

/-- Whether a track keeps the memory from standby (R116, R123). -/
def TrackState.capturing : TrackState → Bool
  | .sweeping => true
  | .awaiting => true
  | .stopping => true
  | .idle => false
  | .armed => false
  | .halted _ => false

def noneCapturing (s : State) : Bool := allTracks.all (fun t => !(s.track t).state.capturing)

/-- The four conditions of the auto-standby delay timer (R123). -/
def autoConditions (s : State) : Bool :=
  s.markerA.state = .noSignal && s.markerB.state = .noSignal && noneCapturing s && s.readout.queue.isEmpty
    && s.mem.state = .running

/-- The delay timer follows its conditions (R123). -/
def followAuto (s : State) : State :=
  s.setMem { s.mem with
    autoTimer :=
      if s.mem.autoEnable && autoConditions s then
        (match s.mem.autoTimer with
         | .stopped => .running 0
         | .running e => .running e
         | .expired => .expired)
      else .stopped }

/-- What every step that can change a burst request or a condition of auto-standby ends with (R119, R123). -/
def follow (s : State) : State := followAuto (wakeIfRequested s)

/-- What every step of the memory controller ends with. -/
def settle (s : State) : State := follow (drive s)

/-! ## Grants (R109 to R112) -/

/-- The first track from `ptr` on, in track order from 7 to 0, that satisfies p (R112). -/
def pickTrack (p : Track → Bool) (ptr : Track) : Option Track :=
  ((List.finRange 8).map (fun i => ptr + i)).find? p

/-- The samples a burst takes for n positions from q on: the FIFO head's value where it is the entry for the position,
otherwise the fill value; and the FIFO left (R62). -/
def takeSpan (seq : Nat) : Nat → Nat → List FifoEntry → List Int × List FifoEntry
  | _, 0, fifo => ([], fifo)
  | q, n + 1, [] => let r := takeSpan seq (q + 1) n []; (Config.fillValue :: r.1, r.2)
  | q, n + 1, e :: rest =>
    if e.seq = seq ∧ e.pos = q then
      let r := takeSpan seq (q + 1) n rest
      (e.value :: r.1, r.2)
    else
      let r := takeSpan seq (q + 1) n (e :: rest)
      (Config.fillValue :: r.1, r.2)

/-- Positions a burst from q covers of a sweep of length n (R62). -/
def burstCover (n q : Nat) : Nat := min 32 (n - q)

/-- A granted burst joins the tail of the service lists (R107, R109). -/
def addBurst (b : Burst) (s : State) : State := s.setMem { s.mem with granted := s.mem.granted ++ [b] }

/-- The inject kind a track's write burst takes at its grant (R136). -/
def takeInject (c : CheckUnit) (t : Track) : Option InjectKind :=
  match c.inject with
  | some (u, k) => if u = t then some k else none
  | none => none

/-- A writer's request is granted (R62, R136). -/
def grantWriter (t : Track) (s : State) : State :=
  match oldestIncomplete s t with
  | none => s
  | some r =>
    let q := (s.track t).writeNext r.seq
    match translate s t (r.firstPage + q / 512) with
    | none => s
    | some page =>
      let cover := burstCover r.length q
      let taken := takeSpan r.seq q cover (s.track t).fifo
      let burst : Burst :=
        { page := page, offset := q % 512 / 4, track := t, seq := r.seq, first := q, heeded := true, attached := true,
          job := .write (taken.1 ++ List.replicate (32 - cover) Config.fillValue) (takeInject s.check t) }
      let s := s.putTrack t
        { s.track t with fifo := taken.2, cursor := some { seq := r.seq, next := q + 32 } }
      let s := if (takeInject s.check t).isSome then s.setCheck { s.check with inject := none } else s
      addBurst burst s

/-- The readout engine's request is granted (R142). -/
def grantRead (s : State) : State :=
  match engineBlock s with
  | none => s
  | some (r, seq, firstPage, b) =>
    match translate s r.track (firstPage + 32 * b / 512) with
    | none => s
    | some page =>
      let burst : Burst :=
        { page := page, offset := 32 * b % 512 / 4, track := r.track, seq := seq, first := 32 * b, heeded := true,
          attached := true, job := .read (askedWords r b) }
      addBurst burst (setActive { r with nextFetch := b + 1 } s)

/-- A refresh is granted (R115). -/
def grantRefresh (s : State) : State := s.setMem { s.mem with refresh := .waiting }

/-- A burst of the first class that waits is granted (Table 6.2, classes 2 to 4; R112). -/
def grantBurst (s : State) : State :=
  match pickTrack (writerUrgent s) s.mem.urgentPointer with
  | some t => let s := grantWriter t s; s.setMem { s.mem with urgentPointer := t + 1 }
  | none =>
    if (engineBlock s).isSome then grantRead s
    else
      match pickTrack (writerRequests s) s.mem.normalPointer with
      | some t => let s := grantWriter t s; s.setMem { s.mem with normalPointer := t + 1 }
      | none => s

/-- The arbiter's choice when the DRAM can accept a grant (R109, R111). A waiting burst request that four granted bursts
hold back still keeps the refresh classes behind it waiting (log 11). -/
def arbitrate (s : State) : State :=
  if s.mem.state = .running && s.mem.refresh = .none then
    if s.mem.balance = 8 then grantRefresh s
    else if burstRequested s then
      if s.mem.granted.length < Config.maxGranted then grantBurst s else s
    else if -8 < s.mem.balance then grantRefresh s
    else s
  else s

/-! ## Completion of a burst -/

/-- A fault reaches the first-uncorrectable record, or sets the more flag (R131, R133). -/
def recordFault (f : MemoryFaultRecord) (s : State) : State :=
  match s.check.firstUncorrectable with
  | none => s.setCheck { s.check with firstUncorrectable := some f }
  | some _ => s.setCheck { s.check with more := true }

/-- A word found corrected: the last-corrected record, and CORRECTED under NOTIFY (R130). -/
def noteCorrected (w : WordFault) (s : State) : State :=
  let s := s.setCheck { s.check with lastCorrected := some w }
  if s.check.mode = .notify then post Source.corrected (.corrected w) s else s

/-- A word found uncorrectable: the DAMAGED claim, the record, and MEMORY_FAULT under NOTIFY (R131). -/
def noteUncorrectable (w : WordFault) (s : State) : State :=
  let s := claim w.track w.seq SweepRecord.setDamaged s
  let s := recordFault (.uncorrectable w) s
  if s.check.mode = .notify then post Source.memoryFault (.memoryFault (.uncorrectable w)) s else s

/-- What the check-code unit does about one asked-for word (R129 to R131). -/
def noteWord (w : WordFault) (s : State) : State :=
  if s.check.mode = .off then s
  else if w.code.corrected then noteCorrected w s
  else if w.code.uncorrectable then noteUncorrectable w s
  else s

/-- The read code of word `w` of a burst. -/
def burstCode (s : State) (b : Burst) (w : Nat) : ReadCode :=
  decodeWord (storedWord s b.page (b.offset + w)) (storedCheck s b.page (b.offset + w))

/-- The samples of word `w` of a read burst as handed to the engine: corrected and marked when it is asked for and
checked, as stored otherwise (R129 to R132). -/
def burstWord (s : State) (b : Burst) (asked : List Nat) (w : Nat) : List Sample :=
  let stored := storedWord s b.page (b.offset + w)
  if asked.contains w && s.check.mode ≠ .off then
    (wordSamples (deliveredWord (burstCode s b w) stored)).map
      (fun v => { value := v, damaged := (burstCode s b w).uncorrectable })
  else (wordSamples stored).map (fun v => { value := v, damaged := false })

/-- A read burst completes: its asked-for words are checked in ascending word offset, then its words go to the active
read, or are discarded (R129, R143). -/
def completeRead (b : Burst) (asked : List Nat) (s : State) : State :=
  let samples := (List.range 8).flatMap (burstWord s b asked)
  let checked := asked.foldl
    (fun s' w =>
      noteWord { page := b.page, offset := b.offset + w, code := burstCode s b w, track := b.track, seq := b.seq } s') s
  if b.heeded then
    match checked.readout.queue with
    | [] => checked
    | r :: _ => setActive (r.take b.first samples) checked
  else checked

/-- A write burst completes: its words are stored with their check bits (R105, R127, R136); when it covered position
N − 1 of a DRAINING sweep, that sweep is written out (R63). -/
def completeWrite (b : Burst) (samples : List Int) (inject : Option InjectKind) (s : State) : State :=
  let bytes := sampleBytes samples
  let s := storeWords b.page b.offset (injectInto inject bytes) (checkBytes 8 bytes) s
  match findRecord s b.track b.seq with
  | none => s
  | some r =>
    if b.heeded && r.state = .draining && r.length ≤ b.first + 32 then
      let s := claim b.track b.seq SweepRecord.finish s
      let s := s.putTrack b.track { s.track b.track with cursor := none }
      post (Source.sweepDone b.track) (.sweepDone b.seq r.flags) s
    else s

/-- The transfer on the data path completes: its burst leaves the lists and takes effect (R108). -/
def completeTransfer (s : State) : State :=
  match s.mem.dataPath with
  | none => s
  | some bank =>
    match s.mem.head bank with
    | none => s
    | some b =>
      let s := s.setMem { s.mem with
        granted := s.mem.granted.eraseP (fun x => x.bank = bank), dataPath := none }
      match b.job with
      | .read asked => completeRead b asked s
      | .write samples inject => completeWrite b samples inject s

end Sys2Proof.Machine
end

