-- ==== Sys2Proof/Machine/Tracks.lean ====
section
/-!
DEFINITION. The track units' and lanes' shared operations: parameter sets taking effect, strobes, resolution of
positions, ends of sweeps, sweep starts, marker events and announcements (files 02 and 03).
-/

namespace Sys2Proof.Machine

/-! ## Parameter sets taking effect (R26, R28) -/

/-- The offset range (Table 2.2). -/
def clampOffset (z : Int) : Int := clamp (-8192) 8191 z

/-- The offset in use when a set becomes active or a sweep starts: the manual offset under MANUAL, else kept
(R26, R35, R39). -/
def offsetUnder (a : ParamSet) (old : Int) : Int :=
  match a.offsetMode with
  | .manual => a.manualOffset
  | .auto => old
  | .hold => old
  | .onRequest => old

/-- A set becomes active with one generation step: no set is pending, the interval count is 0, and the update request
stays only under ON_REQUEST (R23, R26, R28, R37, R38). -/
def TrackUnit.activate (a : ParamSet) (u : TrackUnit) : TrackUnit :=
  { u with
    active := a, pendingSet := none, generation := u.generation + 1, intervalCount := 0,
    offsetInUse := offsetUnder a u.offsetInUse,
    updateRequest := u.updateRequest && a.offsetMode = .onRequest }

/-- What a new active set hands to the averager: a changed N disables it with reason LENGTH, and every generation step
restarts the block (R26, R28, R159, R162). -/
def activateSet (t : Track) (a : ParamSet) (s : State) : State :=
  let old := (s.track t).active
  let s := s.putTrack t ((s.track t).activate a)
  let s := if a.length = old.length then s else disableAverager t .length s
  restartBlock t s

/-! ## Notices of a track -/

/-- TRACK_STOPPED with its payload at the moment of posting (R54). -/
def postStopped (t : Track) (reason : StopReason) (s : State) : State :=
  post (Source.trackStopped t) (.trackStopped reason (s.track t).sweepsDone (s.track t).seqCounter) s

/-- The track goes to a state in which it is bound to no unit. -/
def unbind (t : Track) (st : TrackState) (s : State) : State :=
  s.putTrack t { s.track t with state := st, selected := none }

def setTrackState (t : Track) (st : TrackState) (s : State) : State := s.putTrack t { s.track t with state := st }

/-! ## Strobes (R29 to R31) -/

/-- Counts from the marker time to the instant of strobe i (R29). -/
def strobeOffset (a : ParamSet) (estimate i : Nat) : Nat := (32 * i + a.phase) * estimate / (32 * a.length)

/-- How many strobes of a schedule are past-due when it is made: those whose instants are at or before that moment
(R29, R30). -/
def pastDueCount (a : ParamSet) (estimate since : Nat) : Nat :=
  ((List.range a.length).filter (fun i => strobeOffset a estimate i ≤ since)).length

/-- The steering of the offset in use by a window mean (R37). -/
def steer (a : ParamSet) (old mean : Int) : Int := clampOffset (old + Int.tdiv (a.target - mean) 2)

/-- Counted sweeps of one AUTO update (R37). -/
def AutoInterval.count : AutoInterval → Nat
  | .every => 1
  | .every8 => 8
  | .every32 => 32

/-- A window mean reaches the track unit (R37, R38). -/
def TrackUnit.windowMean (mean : Int) (u : TrackUnit) : TrackUnit :=
  match u.active.offsetMode with
  | .manual => u
  | .hold => u
  | .auto =>
    if u.active.interval.count ≤ u.intervalCount + 1 then
      { u with offsetInUse := steer u.active u.offsetInUse mean, intervalCount := 0 }
    else { u with intervalCount := u.intervalCount + 1 }
  | .onRequest =>
    if u.updateRequest then
      { u with offsetInUse := steer u.active u.offsetInUse mean, updateRequest := false }
    else u

/-- Whether the offset mode uses a baseline window (R36). -/
def OffsetMode.usesBaseline : OffsetMode → Bool
  | .auto => true
  | .onRequest => true
  | .manual => false
  | .hold => false

/-- An accepted value at a position of the baseline window is accumulated (R36). -/
def addBaseline (t : Track) (pos : Nat) (v : Int) (s : State) : State :=
  let a := (s.track t).active
  if a.offsetMode.usesBaseline && a.placement ≤ pos && pos < a.placement + a.duration then
    s.putLane t { s.lane t with baseSum := (s.lane t).baseSum + v, baseCount := (s.lane t).baseCount + 1 }
  else s

/-- The baseline window closes when its last position is resolved: its mean, if it has one, reaches the track unit, and
the accumulator is cleared (R36). -/
def closeBaseline (t : Track) (pos : Nat) (s : State) : State :=
  let a := (s.track t).active
  if a.offsetMode.usesBaseline && pos + 1 = a.placement + a.duration then
    let l := s.lane t
    let s := s.putLane t { l with baseSum := 0, baseCount := 0 }
    if l.baseCount = 0 then s
    else s.putTrack t ((s.track t).windowMean (Int.tdiv l.baseSum l.baseCount))
  else s

/-- A position is lost: it is accounted in the record (R60), and the baseline window may close (R36). -/
def losePosition (t : Track) (pos : Nat) (s : State) : State := closeBaseline t pos (loseOne t pos s)

/-- Positions lost in ascending order. -/
def losePositions (t : Track) (ps : List Nat) (s : State) : State := ps.foldl (fun s p => losePosition t p s) s

/-- A strobe is issued: the flag then stands for its position; a position it stood for before is lost (R31). -/
def issueStrobe (t : Track) (pos : Nat) (s : State) : State :=
  let s :=
    match (s.lane t).flag with
    | some old => losePosition t old s
    | none => s
  s.putLane t { s.lane t with flag := some pos }

def putSchedule (t : Track) (sch : Option Schedule) (s : State) : State :=
  s.putTrack t { s.track t with schedule := sch }

/-- The next catch-up strobe is issued while the run has one (R30). -/
def issueCatchUp (t : Track) (s : State) : State :=
  match (s.track t).schedule with
  | none => s
  | some sch =>
    if sch.next < sch.pastDue then
      issueStrobe t sch.next (putSchedule t (some { sch with next := sch.next + 1 }) s)
    else s

/-- The strobe schedule of a new sweep is made at this moment, and its catch-up run starts (R29, R30). -/
def makeSchedule (t : Track) (t0 : Time) (estimate : Nat) (s : State) : State :=
  let sch : Schedule :=
    { t0 := t0, estimate := estimate,
      pastDue := pastDueCount (s.track t).active estimate (elapsed t0 s.time), next := 0 }
  issueCatchUp t (putSchedule t (some sch) s)

/-- The next regular strobe of a schedule (R29, R30): the first position that is neither past-due nor issued. -/
def Schedule.nextRegular (sch : Schedule) : Nat := max sch.next sch.pastDue

/-- The next regular strobe of a track, when the time counter has reached its instant (R29). -/
def dueStrobe (s : State) (t : Track) : Option (Schedule × Nat) :=
  match (s.track t).schedule with
  | none => none
  | some sch =>
    let a := (s.track t).active
    if sch.nextRegular < a.length && strobeOffset a sch.estimate sch.nextRegular ≤ elapsed sch.t0 s.time then
      some (sch, sch.nextRegular)
    else none

/-- The first regular strobe ends the catch-up run: the position of a catch-up strobe still outstanding is lost first,
then each position never issued, in ascending order (R30). -/
def endCatchUp (t : Track) (sch : Schedule) (s : State) : State :=
  if sch.next < sch.pastDue then
    let s :=
      match (s.lane t).flag with
      | some old => (losePosition t old s).putLane t { (losePosition t old s).lane t with flag := none }
      | none => s
    losePositions t ((List.range (sch.pastDue - sch.next)).map (fun i => sch.next + i)) s
  else s

/-- A regular strobe is issued at its instant (R29, R30, R31). -/
def issueRegular (t : Track) (sch : Schedule) (pos : Nat) (s : State) : State :=
  issueStrobe t pos (putSchedule t (some { sch with next := pos + 1 }) (endCatchUp t sch s))

/-! ## Ends of sweeps (R51 to R56) -/

/-- The lane's flag and accumulator are cleared and the schedule is cancelled (R33, R36, R51). -/
def stopLane (t : Track) (s : State) : State := putSchedule t none (s.putLane t Lane.reset)

/-- The FILLING sweep reaches DRAINING, normally or SHORT: sweeps done rises, and the averager is told with the final
flags (R51, R52, R53, R158). -/
def reachDraining (t : Track) (r : SweepRecord) (short : Bool) (s : State) : State :=
  let s := stopLane t s
  let s := claim t r.seq (SweepRecord.drain short) s
  let s := s.putTrack t { s.track t with sweepsDone := min 65535 ((s.track t).sweepsDone + 1) }
  averagerSweepEnd t r.seq (r.gap || r.short || short) s

/-- Whether sweeps done now equals a non-zero arm count (R53). -/
def TrackUnit.runComplete (u : TrackUnit) : Bool := u.armCount ≠ 0 && u.sweepsDone = u.armCount

/-- The track goes to IDLE with a TRACK_STOPPED (R45, R53, R54). -/
def goIdle (t : Track) (reason : StopReason) (s : State) : State := postStopped t reason (unbind t .idle s)

/-- What follows the normal end of a capture (R51, R53, R54). -/
def afterCapture (t : Track) (s : State) : State :=
  if (s.track t).runComplete then goIdle t .countDone s
  else
    match (s.track t).state with
    | .sweeping => setTrackState t .awaiting s
    | .stopping => goIdle t .stopped s
    | .idle => s
    | .armed => s
    | .awaiting => s
    | .halted _ => s

/-- Strobe N − 1 is resolved: the sweep's capture ends normally (R51). -/
def endCapture (t : Track) (s : State) : State :=
  match fillingRecord s t with
  | none => s
  | some r => afterCapture t (reachDraining t r false s)

/-- A FILLING sweep is removed (R56). -/
def removeFilling (t : Track) (s : State) : State :=
  match fillingRecord s t with
  | none => s
  | some r =>
    let s := stopLane t s
    let s := dropStaged t r.seq s
    let s := removeRecord t r s
    averagerSweepRemoved t r.seq s

/-! ## Sweep start (R47 to R50) -/

/-- A marker event (R18). -/
structure MarkerEvent where
  unit : MarkerId
  time : Time
  estimate : Nat
  synthetic : Bool
  deriving DecidableEq, Repr

/-- A sweep start ends in a halt (R49). -/
def haltTrack (t : Track) (reason : HaltReason) (s : State) : State :=
  postStopped t (.halted reason) (unbind t (.halted reason) s)

/-- Whether the sweep offset lies at a limit under a mode other than MANUAL (R35). -/
def offsetRail (a : ParamSet) (offset : Int) : Bool :=
  a.offsetMode ≠ .manual && (offset = -8192 || offset = 8191)

/-- The FILLING record of a new sweep (R50). -/
def newRecord (u : TrackUnit) (ev : MarkerEvent) (firstPage : Nat) : SweepRecord :=
  { seq := u.seqCounter, state := .filling, markerTime := ev.time,
    period := (match u.prevMarker with
      | some p => elapsed p ev.time
      | none => ev.estimate),
    unit := ev.unit, firstPage := firstPage, length := u.active.length, generation := u.generation,
    offsetUsed := u.offsetInUse, coasted := ev.synthetic, short := false, clipped := false,
    offsetRail := offsetRail u.active u.offsetInUse, kept := false, averaged := false, damaged := false,
    losses := none }

/-- The sequence counter advances, or is marked spent at 2^32 − 1 (R50). -/
def TrackUnit.takeSequence (u : TrackUnit) : TrackUnit :=
  if u.seqCounter < 2 ^ 32 - 1 then { u with seqCounter := u.seqCounter + 1 } else { u with spent := true }

/-- Steps 4 to 7 of a sweep start on the pages from c on (R48). -/
def openSweep (t : Track) (ev : MarkerEvent) (c : Nat) (s : State) : State :=
  let r := newRecord (s.track t) ev c
  let s := s.putTrack t { (s.track t).takeSequence with state := .sweeping }
  let s := s.putRecords t (s.records t ++ [r])
  let s := averagerSweepStart t r.seq r.coasted s
  makeSchedule t ev.time ev.estimate (s.putLane t Lane.reset)

/-- A sweep start that passes R47 (R48): pending set and sweep offset, sequence check, placement scan, and the new
sweep or a halt. -/
def continueStart (t : Track) (ev : MarkerEvent) (s : State) : State :=
  let s :=
    match (s.track t).pendingSet with
    | some a => activateSet t a s
    | none => s
  let s := s.putTrack t
    { s.track t with offsetInUse := offsetUnder (s.track t).active (s.track t).offsetInUse }
  if (s.track t).spent then haltTrack t .sequenceExhausted s
  else
    match placementScan s t with
    | .mapHole => haltTrack t .mapHole s
    | .noRoom => haltTrack t .noRoom s
    | .found c => openSweep t ev c (placeAt t c s)

/-- A held-back start (R47, item 2). -/
def holdBack (t : Track) (s : State) : State :=
  match (s.track t).state with
  | .armed => s
  | .sweeping => setTrackState t .awaiting s
  | .awaiting => s
  | .stopping => s
  | .idle => s
  | .halted _ => s

/-- The rest of a sweep start once no sweep is FILLING: held back, or continued (R47, item 2). -/
def startOrHold (t : Track) (ev : MarkerEvent) (s : State) : State :=
  if 2 ≤ incompleteCount s t then holdBack t s else continueStart t ev s

/-- A sweep start (R47): a FILLING sweep ends SHORT first, which may complete the run. -/
def startSweep (t : Track) (ev : MarkerEvent) (s : State) : State :=
  match fillingRecord s t with
  | none => startOrHold t ev s
  | some r =>
    let s := reachDraining t r true s
    if (s.track t).runComplete then goIdle t .countDone s else startOrHold t ev s

/-- A marker event ends the last sweep of a STOPPING track SHORT (R44, R52, R54). -/
def endStopping (t : Track) (s : State) : State :=
  let s :=
    match fillingRecord s t with
    | none => s
    | some r => reachDraining t r true s
  if (s.track t).runComplete then goIdle t .countDone s else goIdle t .stopped s

/-! ## What marker units hand to tracks (R18, R19, R43, R44, R55) -/

/-- Whether a track is bound to its selected unit (R41). -/
def TrackState.bound : TrackState → Bool
  | .armed => true
  | .sweeping => true
  | .awaiting => true
  | .stopping => true
  | .idle => false
  | .halted _ => false

def setPrevMarker (t : Track) (time : Time) (s : State) : State :=
  s.putTrack t { s.track t with prevMarker := some time }

/-- A marker event reaches one track (R44): it acts when the track is bound to the unit. -/
def takeEvent (ev : MarkerEvent) (t : Track) (s : State) : State :=
  let u := s.track t
  if u.state.bound && u.selected = some ev.unit then
    let s :=
      match u.state with
      | .armed => if ev.synthetic then s else startSweep t ev s
      | .sweeping => startSweep t ev s
      | .awaiting => startSweep t ev s
      | .stopping => endStopping t s
      | .idle => s
      | .halted _ => s
    setPrevMarker t ev.time s
  else s

/-- Whether a marker unit is in lock (R43). -/
def MarkerUnit.inLock (m : MarkerUnit) : Bool := m.state = .locked || m.state = .coasting

/-- The unit a marker select takes (R43). -/
def chooseUnit (s : State) : MarkerSelect → Option MarkerId
  | .a => some .A
  | .b => some .B
  | .auto => if s.markerA.inLock then some .A else if s.markerB.inLock then some .B else none

/-- A lock announcement reaches one track (R43): an ARMED track under AUTO with no unit selects it. -/
def takeLock (unit : MarkerId) (t : Track) (s : State) : State :=
  let u := s.track t
  if u.state = .armed && u.active.markerSelect = .auto && u.selected.isNone then
    s.putTrack t { u with selected := some unit, prevMarker := none }
  else s

/-- Under AUTO the track selects again, which drops its previous marker time; under A or B it keeps its unit
(R43, R55). -/
def reselect (t : Track) (s : State) : State :=
  if (s.track t).active.markerSelect = .auto then
    s.putTrack t { s.track t with selected := chooseUnit s .auto, prevMarker := none }
  else s

/-- A loss announcement reaches one track (R55): it acts when it names the track's selected unit. -/
def takeLoss (unit : MarkerId) (t : Track) (s : State) : State :=
  let u := s.track t
  if u.selected = some unit then
    match u.state with
    | .sweeping => reselect t (setTrackState t .armed (removeFilling t s))
    | .awaiting => reselect t (setTrackState t .armed s)
    | .stopping => goIdle t .stopped (removeFilling t s)
    | .armed => reselect t s
    | .idle => s
    | .halted _ => s
  else s

/-- Each of the eight tracks takes something, in the order given (log 4). -/
def eachTrack (order : List Track) (f : Track → State → State) (s : State) : State :=
  (deliveryOrder order).foldl (fun s t => f t s) s

/-! ## Lane words (R32, R34, R59, R60) -/

/-- Odd parity over the 16 data bits and the parity bit (R32). -/
def parityGood (word : BitVec 16) (parity : Bool) : Bool :=
  (((List.range 16).filter (fun i => word.getLsbD i)).length + parity.toNat) % 2 = 1

/-- r × gain / 1024 to nearest, ties away from zero, plus the sweep offset, before saturation (R34). -/
def scaled (raw : Int) (gain : Nat) (offset : Int) : Int := roundNearest (raw * gain) 1024 + offset

/-- The stored value (R34). -/
def saturate (z : Int) : Int := clamp (-32767) 32767 z

/-- A stored value is appended to the staging FIFO, or its position is lost at a full one (R59, R60). -/
def stageValue (t : Track) (seq pos : Nat) (v : Int) (s : State) : State :=
  if (s.track t).fifo.length < Config.fifoDepth then
    s.putTrack t { s.track t with fifo := (s.track t).fifo ++ [{ seq := seq, pos := pos, value := v }] }
  else loseOne t pos s

/-- An accepted lane word: conversion, CLIPPED, the baseline window, the averager, the staging FIFO (R34, R36, R157,
R59). -/
def acceptWord (t : Track) (r : SweepRecord) (pos : Nat) (raw : Int) (s : State) : State :=
  let z := scaled raw (s.track t).active.gain r.offsetUsed
  let v := saturate z
  let s := if v = z then s else claim t r.seq SweepRecord.setClipped s
  let s := addBaseline t pos v s
  let s := averagerAdd t pos v s
  let s := stageValue t r.seq pos v s
  closeBaseline t pos s

/-- What follows the resolution of a position by a lane word: the end of the capture at N − 1 (R51), else the next
catch-up strobe (R30). -/
def afterResolution (t : Track) (pos : Nat) (s : State) : State :=
  if pos + 1 = (s.track t).active.length then endCapture t s else issueCatchUp t s

/-- A lane word arrives with the flag set (R32). -/
def resolveWord (t : Track) (pos : Nat) (word : BitVec 16) (parity : Bool) (s : State) : State :=
  let s := s.putLane t { s.lane t with flag := none }
  match fillingRecord s t with
  | none => s
  | some r =>
    afterResolution t pos
      (if parityGood word parity then acceptWord t r pos word.toInt s else losePosition t pos s)

end Sys2Proof.Machine
end

