-- ==== Sys2Proof/Machine/Markers.lean ====
section
/-!
DEFINITION. The marker units' shared operations (file 01: R2 to R20).
-/

namespace Sys2Proof.Machine

/-- The detected polarity a mode gives on entry to NO_SIGNAL (R2, R5, R17, Table 1.4). -/
def PolarityMode.detected : PolarityMode → Option Polarity
  | .auto => none
  | .rising => some .rising
  | .falling => some .falling

/-- The edge that starts a pulse of a polarity: the pulse is the high level under RISING, the low one under FALLING
(R5). -/
def Polarity.activeEdge : Polarity → Edge
  | .rising => .rising
  | .falling => .falling

/-- The opposite edge, which ends the pulse (section 1.3, R5). -/
def Polarity.trailingEdge : Polarity → Edge
  | .rising => .falling
  | .falling => .rising

/-- Whether an edge is the one that starts a pulse of the unit; none is while its polarity is not known (R3, R5). -/
def MarkerUnit.startsPulse (m : MarkerUnit) (e : Edge) : Bool := m.detected.map Polarity.activeEdge = some e

/-- Whether an edge is the one that ends a pulse of the unit (R3, R5). -/
def MarkerUnit.endsPulse (m : MarkerUnit) (e : Edge) : Bool := m.detected.map Polarity.trailingEdge = some e

/-- Entry to NO_SIGNAL (R2, R8, R17): counts and estimate 0, reference, window and measurement dropped, observation
restarted (R4). Settings, last marker time and early flag are kept. -/
def MarkerUnit.toNoSignal (m : MarkerUnit) : MarkerUnit :=
  { m with
    state := .noSignal, detected := m.settings.polarityMode.detected, measurement := .empty, reference := none,
    estimate := 0, count := 0, coast := 0, window := none, closeHeld := false, pulse := none }

/-- The tolerance allowance D of an estimate (R9, R11). -/
def MarkerUnit.allowance (m : MarkerUnit) (estimate : Nat) : Nat := estimate * m.settings.tolerance / 64

/-- The acceptance window opened at a marker (R11). -/
def MarkerUnit.windowAt (m : MarkerUnit) (time : Time) (estimate : Nat) : Window :=
  { start := time,
    openAfter := max (estimate - m.allowance estimate) Config.minPeriod,
    closeAfter := min (estimate + m.allowance estimate) Config.maxPeriod }

/-- The unit after it emits a marker: last marker time, estimate, and the next window (R10, R13, R14, R16, R17). -/
def MarkerUnit.marked (m : MarkerUnit) (time : Time) (estimate : Nat) : MarkerUnit :=
  { m with
    lastMarker := some time, estimate := estimate, window := some (m.windowAt time estimate), closeHeld := false }

/-- Where the time of a pulse lies against a window (R11). -/
inductive PulsePlace where
  | early | inside | late
  deriving DecidableEq, Repr

/-- The place of a pulse whose active edge came at `p`, judged at `now`. A pulse that began before the marker the window
runs from is early against it (log 13). -/
def Window.judge (w : Window) (p now : Time) : PulsePlace :=
  if elapsed w.start now < elapsed p now then .early
  else if elapsed w.start p < w.openAfter then .early
  else if elapsed w.start p ≤ w.closeAfter then .inside
  else .late

/-- The close time of a window (R11). -/
def Window.closeTime (w : Window) : Time := w.start + BitVec.ofNat 48 w.closeAfter

/-- Whether the close time of a window has come (R14). -/
def Window.due (w : Window) (now : Time) : Bool := w.closeAfter ≤ elapsed w.start now

/-- Whether a pulse in progress holds the close (R15). -/
def MarkerUnit.pulseHolds (m : MarkerUnit) (w : Window) (now : Time) : Bool :=
  match m.pulse with
  | none => false
  | some p => w.judge p now = .inside

/-- A pulse width in counts qualifies (R3). -/
def MarkerUnit.qualifies (m : MarkerUnit) (width : Nat) : Bool := m.settings.minWidth * 16 ≤ width

/-- A marker event goes to every track bound to the unit (R18). -/
def emit (order : List Track) (ev : MarkerEvent) (s : State) : State := eachTrack order (takeEvent ev) s

/-- A loss announcement goes to all eight tracks (R19). -/
def announceLoss (order : List Track) (u : MarkerId) (s : State) : State := eachTrack order (takeLoss u) s

/-- A lock announcement goes to all eight tracks (R19). -/
def announceLock (order : List Track) (u : MarkerId) (s : State) : State := eachTrack order (takeLock u) s

/-- Entry to LOCKED (R10): the announcement, the posting, the first marker event, in this order. -/
def enterLocked (u : MarkerId) (order : List Track) (p : Time) (period : Nat) (s : State) : State :=
  let m := s.marker u
  let s := s.putMarker u
    ({ m with state := .locked, count := Config.lockCount, coast := 0, reference := none }.marked p period)
  let s := announceLock order u s
  let s := post (Source.marker u) (.markerLocked p period) s
  emit order { unit := u, time := p, estimate := period, synthetic := false } s

/-- A qualified pulse in ACQUIRING (R9). -/
def acquire (u : MarkerId) (order : List Track) (p : Time) (s : State) : State :=
  let m := s.marker u
  match m.reference with
  | none => s.putMarker u { m with reference := some p }
  | some ref =>
    let period := elapsed ref p
    if period < Config.minPeriod || Config.maxPeriod < period then
      s.putMarker u { m with reference := some p, count := 0 }
    else if m.count = 0 || m.estimate + m.allowance m.estimate < period
        || period < m.estimate - m.allowance m.estimate then
      s.putMarker u { m with reference := some p, estimate := period, count := 1 }
    else if m.count + 1 = Config.lockCount then enterLocked u order p period s
    else s.putMarker u { m with reference := some p, estimate := period, count := m.count + 1 }

/-- A pulse inside the window is accepted in LOCKED (R13): the estimate becomes the measured period. -/
def acceptLocked (u : MarkerId) (order : List Track) (w : Window) (p : Time) (s : State) : State :=
  let period := elapsed w.start p
  let s := s.putMarker u ((s.marker u).marked p period)
  emit order { unit := u, time := p, estimate := period, synthetic := false } s

/-- A pulse inside the window is accepted in COASTING (R16): the unit returns to LOCKED and keeps its estimate. -/
def acceptCoasting (u : MarkerId) (order : List Track) (p : Time) (s : State) : State :=
  let m := s.marker u
  let s := s.putMarker u ({ m with state := .locked, coast := 0 }.marked p m.estimate)
  emit order { unit := u, time := p, estimate := m.estimate, synthetic := false } s

/-- A synthetic marker at a window's close time; the unit is COASTING with the coast count given (R14, R17). -/
def coastOn (u : MarkerId) (order : List Track) (coast : Nat) (close : Time) (s : State) : State :=
  let m := s.marker u
  let s := s.putMarker u ({ m with state := .coasting, coast := coast }.marked close m.estimate)
  emit order { unit := u, time := close, estimate := m.estimate, synthetic := true } s

/-- The coast limit is exceeded (R17): NO_SIGNAL, the loss announcement, then the posting. -/
def coastOut (u : MarkerId) (order : List Track) (close : Time) (s : State) : State :=
  let m := s.marker u
  let s := s.putMarker u m.toNoSignal
  let s := announceLoss order u s
  post (Source.marker u) (.markerLost .coastLimit close m.estimate) s

/-- A window closes empty (R14 in LOCKED, R17 in COASTING). -/
def closeEmpty (u : MarkerId) (order : List Track) (w : Window) (s : State) : State :=
  let m := s.marker u
  match m.state with
  | .locked => coastOn u order 1 w.closeTime s
  | .coasting =>
    if m.coast + 1 ≤ m.settings.coastLimit then coastOn u order (m.coast + 1) w.closeTime s
    else coastOut u order w.closeTime s
  | .noSignal => s
  | .acquiring => s

/-- A pulse shorter than the minimum is rejected: it changes nothing but that a close it held is now decided as empty
(R3, R15). -/
def rejectPulse (u : MarkerId) (order : List Track) (s : State) : State :=
  let m := s.marker u
  match m.window with
  | none => s
  | some w =>
    if m.closeHeld then closeEmpty u order w (s.putMarker u { m with closeHeld := false }) else s

/-- A qualified pulse in LOCKED or COASTING (R12, R13, R16). -/
def windowPulse (u : MarkerId) (order : List Track) (p : Time) (s : State) : State :=
  let m := s.marker u
  match m.window with
  | none => s
  | some w =>
    match w.judge p s.time with
    | .early => s.putMarker u { m with early := true }
    | .inside =>
      (match m.state with
       | .locked => acceptLocked u order w p s
       | .coasting => acceptCoasting u order p s
       | .noSignal => s
       | .acquiring => s)
    | .late => s

/-- A qualified pulse acts by the state of the unit (R3, R8, R9, R12, R13, R16). -/
def qualifiedPulse (u : MarkerId) (order : List Track) (p : Time) (s : State) : State :=
  let m := s.marker u
  match m.state with
  | .noSignal => s.putMarker u { m with state := .acquiring, reference := some p, count := 0 }
  | .acquiring => acquire u order p s
  | .locked => windowPulse u order p s
  | .coasting => windowPulse u order p s

/-- An observed pulse that began at p ends at its trailing edge, and is qualified or rejected by its width (R3). -/
def endPulse (u : MarkerId) (order : List Track) (p : Time) (s : State) : State :=
  let m := s.marker u
  let s := s.putMarker u { m with pulse := none }
  if m.qualifies (elapsed p s.time) then qualifiedPulse u order p s else rejectPulse u order s

/-- An edge given as the trailing edge of the observed pulse in progress (R3, R5). -/
def trailingEdge (u : MarkerId) (e : Edge) (order : List Track) (s : State) : State :=
  match (s.marker u).pulse with
  | none => s
  | some p => if (s.marker u).endsPulse e then endPulse u order p s else s

/-- An edge given as an active edge: an observed pulse starts at it, once the polarity is known, when it is the edge of
that polarity (R3, R4, R5). An edge that completes a level of a measuring unit is taken to be given as LEVEL_COMPLETE
alone: the model's choice (log 24), so an active edge given at the count of the deciding level, after it, starts a
pulse. -/
def activeEdge (u : MarkerId) (e : Edge) (s : State) : State :=
  let m := s.marker u
  if m.startsPulse e && m.pulse.isNone then s.putMarker u { m with pulse := some s.time } else s

/-- A window's close time has come with no pulse accepted in it: the close is held by a pulse in progress, or taken
(R14, R15, R17). An active edge and the close at the same count act in the order of the queue, the model's choice
(log 23): with the close first, the window closes and the pulse is judged against the next one. -/
def closeWindow (u : MarkerId) (order : List Track) (s : State) : State :=
  let m := s.marker u
  match m.window with
  | none => s
  | some w =>
    if w.due s.time && !m.closeHeld then
      if m.pulseHolds w s.time then s.putMarker u { m with closeHeld := true }
      else closeEmpty u order w s
    else s

/-! ## Polarity measurement (R6, R7) -/

/-- A complete level's duration is recorded while fewer than two of its kind are held (R6). -/
def Measurement.record (x : Measurement) (ended : Level) (duration : Nat) (now : Time) : Measurement :=
  match ended with
  | .high => { x with highs := if x.highs.length < 2 then x.highs ++ [duration] else x.highs, levelStart := some now }
  | .low => { x with lows := if x.lows.length < 2 then x.lows ++ [duration] else x.lows, levelStart := some now }

/-- Whether two levels of each kind are recorded (R6). -/
def Measurement.decided (x : Measurement) : Bool := 2 ≤ x.highs.length && 2 ≤ x.lows.length

/-- RISING unless the low sum is smaller (R6). -/
def Measurement.polarity (x : Measurement) : Polarity := if x.lows.sum < x.highs.sum then .falling else .rising

/-- The polarity is decided: ACQUIRING, no reference time, count 0, observation restarted (R4, R6). -/
def MarkerUnit.decide (m : MarkerUnit) (p : Polarity) : MarkerUnit :=
  { m with
    state := .acquiring, detected := some p, measurement := .empty, reference := none, count := 0, pulse := none }

/-- An edge on the input of an AUTO unit that measures its polarity in NO_SIGNAL ends a level (R6, R7). Only a complete
level is judged for being short: the model's reading (log 27), so the edge that ends the first level after a restart or a
discard begins the next complete one, however short that first level was. -/
def MarkerUnit.levelEnd (m : MarkerUnit) (ended : Level) (now : Time) : MarkerUnit :=
  match m.measurement.levelStart with
  | none => { m with measurement := { m.measurement with levelStart := some now } }
  | some start =>
    if m.qualifies (elapsed start now) then
      let x := m.measurement.record ended (elapsed start now) now
      if x.decided then m.decide x.polarity else { m with measurement := x }
    else { m with measurement := .empty }

/-- Whether a unit measures its polarity (R3, R6). -/
def MarkerUnit.measuring (m : MarkerUnit) : Bool :=
  m.settings.polarityMode = .auto && m.state = .noSignal && m.detected.isNone

end Sys2Proof.Machine
end

