-- ==== Sys2Proof/Machine/ResetCommands.lean ====
section
/-!
DEFINITION. POWER_ON_RESET, RESET_LINE_ASSERTED and RESET_LINE_RELEASED (R177 and the reset rule of each block).
-/

namespace Sys2Proof.Machine

/-- What one command answers. -/
abbrev Result := Host.Outcome State Fault Refusal

/-- Every block at its power-on values, the memories' contents lost, with the RESET line and the start-up frame as
given (R22, R40, R41, R58, R80, R104, R126, R137, R152, R165, R177, R185). The waiting commands stay. -/
def resetValues (held : Bool) (owed : Option RestartCause) (s : State) : State :=
  ((((State.reset.setPending s.pending).setEpoch (s.epoch + 1)).setResetHeld held).setLink
    { Link.reset with owed := owed })

/-- POWER_ON_RESET: power-on values, RESTARTED owed with cause POWER_ON (R177). The RESET line is an input and stays
as it is (log 6). -/
def execPowerOnReset (s : State) : Result := .next (resetValues s.resetHeld (some .powerOn) s)

/-- RESET_LINE_ASSERTED: the outgoing frame is cut off, the receiver stops, and the part takes its reset values; nothing
is owed while the line is held (R168, R177). -/
def execResetLineAsserted (s : State) : Result :=
  .next (if s.resetHeld then s else resetValues true none s)

/-- RESET_LINE_RELEASED: the part starts from reset values, its timers from zero, and RESTARTED becomes owed with cause
RESET_LINE (R177). -/
def execResetLineReleased (s : State) : Result :=
  .next (if s.resetHeld then resetValues false (some .resetLine) s else s)

end Sys2Proof.Machine
end

