-- ==== Sys2Proof/Machine/MarkerCommands.lean ====
section
/-!
DEFINITION. The marker unit's requests and the events on its input (file 01).
-/

namespace Sys2Proof.Machine

/-- The unit a field names (Table 12.2). -/
def unitOf : Nat → Option MarkerId
  | 0 => some .A
  | 1 => some .B
  | _ => none

/-- A value of a field within a range, as a natural number. -/
def within (lo hi : Nat) (v : Int) : Option Nat := if (lo : Int) ≤ v ∧ v ≤ (hi : Int) then some v.toNat else none

/-- Polarity mode codes (R188). -/
def polarityModeOf (v : Int) : Option PolarityMode :=
  if v = 0 then some .auto else if v = 1 then some .rising else if v = 2 then some .falling else none

/-- One field item of SET_MARKER, range-checked on its own against Table 1.2 (R2, R187). -/
def MarkerSettings.setField (x : MarkerSettings) (item : Nat × Int) : Option MarkerSettings :=
  match item.1 with
  | 0 => (polarityModeOf item.2).map (fun v => { x with polarityMode := v })
  | 1 => (within 0 255 item.2).map (fun v => { x with minWidth := v })
  | 2 => (within 1 16 item.2).map (fun v => { x with tolerance := v })
  | 3 => (within 1 15 item.2).map (fun v => { x with coastLimit := v })
  | _ => none

/-- All field items of SET_MARKER; none when one is out of range. -/
def MarkerSettings.setFields (x : MarkerSettings) : List (Nat × Int) → Option MarkerSettings
  | [] => some x
  | item :: rest =>
    match x.setField item with
    | some y => y.setFields rest
    | none => none

/-- The unit after an accepted SET_MARKER (R2). -/
def MarkerUnit.configure (x : MarkerSettings) (m : MarkerUnit) : MarkerUnit :=
  { ({ m with settings := x } : MarkerUnit).toNoSignal with early := false }

/-- An accepted SET_MARKER: the settings, NO_SIGNAL, the loss announcement, then the posting when the unit was in
another state (R2, R19, R20). -/
def setMarker (order : List Track) (u : MarkerId) (x : MarkerSettings) (s : State) : State :=
  let m := s.marker u
  let s := announceLoss order u (s.putMarker u (m.configure x))
  if m.state = .noSignal then s
  else post (Source.marker u) (.markerLost .setMarker s.time m.estimate) s

def serveSetMarker (order : List Track) (r : RawRequest) (q : Request) (s : State) : Option State :=
  match q with
  | .setMarker unit items =>
    some
      (match unitOf unit with
       | none => answer r .badField s
       | some u =>
         match (s.marker u).settings.setFields items with
         | none => answer r .badField s
         | some x => follow (answer r .ok (setMarker order u x s)))
  | _ => none

/-- SET_MARKER (R2). -/
def execSetMarker (dt : Nat) (order : List Track) (s : State) : Result :=
  .next (onRequest dt s (serveSetMarker order))

def serveMarkerStatus (r : RawRequest) (q : Request) (s : State) : Option State :=
  match q with
  | .markerStatus unit =>
    some
      (match unitOf unit with
       | none => answer r .badField s
       | some u =>
         answerWith r (markerStatusBody (s.marker u)) (s.putMarker u { s.marker u with early := false }))
  | _ => none

/-- MARKER_STATUS (R21). -/
def execMarkerStatus (dt : Nat) (s : State) : Result := .next (onRequest dt s serveMarkerStatus)

/-- PULSE_ACTIVE_EDGE (R3, R5). -/
def execPulseActiveEdge (dt : Nat) (e : InputEdge) (s : State) : Result :=
  .next (live dt s (activeEdge e.unit e.edge))

/-- PULSE_TRAILING_EDGE (R3, R5 and the rules they lead to). -/
def execPulseTrailingEdge (dt : Nat) (e : InputEdge) (order : List Track) (s : State) : Result :=
  .next (live dt s fun s => follow (trailingEdge e.unit e.edge order s))

/-- An edge ends a level of a unit that measures its polarity (R6, R7). -/
def levelEdge (u : MarkerId) (ended : Level) (s : State) : State :=
  if (s.marker u).measuring then s.putMarker u ((s.marker u).levelEnd ended s.time) else s

/-- LEVEL_COMPLETE (R6). -/
def execLevelComplete (dt : Nat) (u : MarkerId) (ended : Level) (s : State) : Result :=
  .next (live dt s fun s => follow (levelEdge u ended s))

/-- WINDOW_CLOSE (R14, R15, R17). -/
def execWindowClose (dt : Nat) (u : MarkerId) (order : List Track) (s : State) : Result :=
  .next (live dt s fun s => follow (closeWindow u order s))

end Sys2Proof.Machine
end

