-- ==== Sys2Proof/Machine/TrackCommands.lean ====
section
/-!
DEFINITION. The track unit's requests and the events of its lane (files 02 and 03).
-/

namespace Sys2Proof.Machine

/-! ## STAGE_TRACK -/

def markerSelectOf (v : Int) : Option MarkerSelect :=
  if v = 0 then some .a else if v = 1 then some .b else if v = 2 then some .auto else none

def offsetModeOf (v : Int) : Option OffsetMode :=
  if v = 0 then some .manual else if v = 1 then some .auto else if v = 2 then some .hold
  else if v = 3 then some .onRequest else none

def autoIntervalOf (v : Int) : Option AutoInterval :=
  if v = 0 then some .every else if v = 1 then some .every8 else if v = 2 then some .every32 else none

/-- An offset or target within −8192..8191. -/
def offsetOf (v : Int) : Option Int := if -8192 ≤ v ∧ v ≤ 8191 then some v else none

/-- A sweep length: 64..4096, a multiple of 4. -/
def lengthOf (v : Int) : Option Nat :=
  match within 64 4096 v with
  | some n => if n % 4 = 0 then some n else none
  | none => none

/-- One field item of STAGE_TRACK, checked against its own range in Table 2.1 (R24, R187). -/
def ParamSet.setField (x : ParamSet) (item : Nat × Int) : Option ParamSet :=
  match item.1 with
  | 0 => (markerSelectOf item.2).map (fun v => { x with markerSelect := v })
  | 1 => (within 0 2047 item.2).map (fun v => { x with base := v })
  | 2 => (within 1 2048 item.2).map (fun v => { x with windowSize := v })
  | 3 => (lengthOf item.2).map (fun v => { x with length := v })
  | 4 => (within 0 31 item.2).map (fun v => { x with phase := v })
  | 5 => (within 512 2047 item.2).map (fun v => { x with gain := v })
  | 6 => (offsetModeOf item.2).map (fun v => { x with offsetMode := v })
  | 7 => (offsetOf item.2).map (fun v => { x with manualOffset := v })
  | 8 => (within 0 4095 item.2).map (fun v => { x with placement := v })
  | 9 => (within 1 256 item.2).map (fun v => { x with duration := v })
  | 10 => (offsetOf item.2).map (fun v => { x with target := v })
  | 11 => (autoIntervalOf item.2).map (fun v => { x with interval := v })
  | _ => none

/-- All field items of STAGE_TRACK; none when one is out of range. -/
def ParamSet.setFields (x : ParamSet) : List (Nat × Int) → Option ParamSet
  | [] => some x
  | item :: rest =>
    match x.setField item with
    | some y => y.setFields rest
    | none => none

def serveStageTrack (r : RawRequest) (q : Request) (s : State) : Option State :=
  match q with
  | .stageTrack track items =>
    some
      (match trackOf track with
       | none => answer r .badField s
       | some t =>
         match (s.track t).staged.setFields items with
         | none => answer r .badField s
         | some x => answer r .ok (s.putTrack t { s.track t with staged := x }))
  | _ => none

/-- STAGE_TRACK (R24). -/
def execStageTrack (dt : Nat) (s : State) : Result := .next (onRequest dt s serveStageTrack)

/-! ## COMMIT_TRACK -/

/-- Whether two sets differ in a structural field (R25). -/
def ParamSet.structurallyDiffers (x y : ParamSet) : Bool :=
  x.markerSelect ≠ y.markerSelect || x.base ≠ y.base || x.windowSize ≠ y.windowSize

/-- The limits that join fields (R25, item 2). -/
def ParamSet.limitsHold (x : ParamSet) : Bool :=
  x.base + x.windowSize ≤ 2048 && 2 * pageCount x.length ≤ x.windowSize && x.placement + x.duration ≤ x.length

/-- A commit taken at once (R26): the staged set becomes active, and a changed window sets the write position back to
the new window base. -/
def commitNow (t : Track) (s : State) : State :=
  let u := s.track t
  let s := activateSet t u.staged s
  if u.staged.base = u.active.base ∧ u.staged.windowSize = u.active.windowSize then s
  else s.putWritePosition t u.staged.base

/-- A commit during capture (R27): the staged set becomes the pending set. -/
def commitLater (t : Track) (s : State) : State :=
  s.putTrack t { s.track t with pendingSet := some (s.track t).staged }

/-- An accepted commit, by the track state (R26, R27). -/
def commit (t : Track) (s : State) : State :=
  if (s.track t).state.capturing then commitLater t s else commitNow t s

def serveCommitTrack (r : RawRequest) (q : Request) (s : State) : Option State :=
  match q with
  | .commitTrack track =>
    some
      (match trackOf track with
       | none => answer r .badField s
       | some t =>
         let u := s.track t
         if u.staged.structurallyDiffers u.active && u.state.bound then answer r .busy s
         else if u.staged.limitsHold then follow (answer r .ok (commit t s))
         else answer r .badField s)
  | _ => none

/-- COMMIT_TRACK (R25). -/
def execCommitTrack (dt : Nat) (s : State) : Result := .next (onRequest dt s serveCommitTrack)

/-! ## UPDATE_OFFSET, ARM_TRACK, STOP_TRACK, ABORT_TRACK, RESET_TRACK, TRACK_STATUS -/

def serveUpdateOffset (r : RawRequest) (q : Request) (s : State) : Option State :=
  match q with
  | .updateOffset track =>
    some
      (match trackOf track with
       | none => answer r .badField s
       | some t =>
         if (s.track t).active.offsetMode = .onRequest then
           answer r .ok (s.putTrack t { s.track t with updateRequest := true })
         else answer r .busy s)
  | _ => none

/-- UPDATE_OFFSET (R38). -/
def execUpdateOffset (dt : Nat) (s : State) : Result := .next (onRequest dt s serveUpdateOffset)

/-- An accepted ARM_TRACK (R42). -/
def armTrack (t : Track) (count : Nat) (s : State) : State :=
  s.putTrack t
    { s.track t with
      armCount := count, sweepsDone := 0, prevMarker := none,
      selected := chooseUnit s (s.track t).active.markerSelect, state := .armed }

def serveArmTrack (r : RawRequest) (q : Request) (s : State) : Option State :=
  match q with
  | .armTrack track count =>
    some
      (match trackOf track with
       | none => answer r .badField s
       | some t => if (s.track t).state.bound then answer r .busy s else answer r .ok (armTrack t count s))
  | _ => none

/-- ARM_TRACK (R42). -/
def execArmTrack (dt : Nat) (s : State) : Result := .next (onRequest dt s serveArmTrack)

/-- STOP_TRACK by the track state (R45). -/
def stopTrack (t : Track) (s : State) : State :=
  match (s.track t).state with
  | .sweeping => setTrackState t .stopping s
  | .armed => goIdle t .stopped s
  | .awaiting => goIdle t .stopped s
  | .idle => s
  | .stopping => s
  | .halted _ => s

def serveStopTrack (r : RawRequest) (q : Request) (s : State) : Option State :=
  match q with
  | .stopTrack track =>
    some
      (match trackOf track with
       | none => answer r .badField s
       | some t => follow (answer r .ok (stopTrack t s)))
  | _ => none

/-- STOP_TRACK (R45). -/
def execStopTrack (dt : Nat) (s : State) : Result := .next (onRequest dt s serveStopTrack)

/-- ABORT_TRACK (R46): a FILLING sweep is removed and the track goes to IDLE. -/
def abortTrack (t : Track) (s : State) : State :=
  let s := removeFilling t s
  if (s.track t).state = .idle then s else goIdle t .aborted s

def serveAbortTrack (r : RawRequest) (q : Request) (s : State) : Option State :=
  match q with
  | .abortTrack track =>
    some
      (match trackOf track with
       | none => answer r .badField s
       | some t => follow (answer r .ok (abortTrack t s)))
  | _ => none

/-- ABORT_TRACK (R46). -/
def execAbortTrack (dt : Nat) (s : State) : Result := .next (onRequest dt s serveAbortTrack)

/-- A reset track's bursts complete unheeded and no longer count as its writer's (R57, Table 3.1; log 12). -/
def dropWriterBursts (t : Track) (s : State) : State :=
  s.setMem { s.mem with
    granted := s.mem.granted.map (fun b =>
      if !b.isRead && b.track = t then { b with heeded := false, attached := false } else b) }

/-- Whether a read is a SWEEP read of a track (R97, R152). -/
def Read.ofTrackSweeps (t : Track) (r : Read) : Bool :=
  match r.kind with
  | .sweep _ _ => r.track = t
  | .mean => false

/-- The index unit's part of RESET_TRACK (R97): the index emptied, every keep mark of the track's map cleared, the write
position at the window base, and every read of the track's sweeps overtaken. -/
def emptyIndex (t : Track) (s : State) : State :=
  let s := s.putRecords t []
  let s := s.putMap t ((s.map t).map (fun c => (c.1, { c.2 with keep := false })))
  let s := s.putWritePosition t (s.track t).active.base
  endReads (Read.ofTrackSweeps t) .overtaken s

/-- The track unit's own items at RESET_TRACK (Tables 2.2 and 3.1, R57). -/
def TrackUnit.resetTrack (u : TrackUnit) : TrackUnit :=
  { u with
    pendingSet := none, intervalCount := 0, updateRequest := false, state := .idle, selected := none,
    prevMarker := none, armCount := 0, sweepsDone := 0, seqCounter := 0, spent := false, schedule := none, fifo := [],
    cursor := none }

/-- The inject request is cleared when it names the reset track (R137). -/
def CheckUnit.resetTrack (t : Track) (c : CheckUnit) : CheckUnit :=
  match c.inject with
  | some (u, _) => if u = t then { c with inject := none } else c
  | none => c

/-- RESET_TRACK (R57). -/
def resetTrack (t : Track) (s : State) : State :=
  let s := removeFilling t s
  let s := dropWriterBursts t s
  let s := emptyIndex t s
  let s := resetAverager t s
  let s := (s.putTrack t (s.track t).resetTrack).putLane t Lane.reset
  s.setCheck (s.check.resetTrack t)

def serveResetTrack (r : RawRequest) (q : Request) (s : State) : Option State :=
  match q with
  | .resetTrack track =>
    some
      (match trackOf track with
       | none => answer r .badField s
       | some t => follow (answer r .ok (resetTrack t s)))
  | _ => none

/-- RESET_TRACK (R57). -/
def execResetTrack (dt : Nat) (s : State) : Result := .next (onRequest dt s serveResetTrack)

def serveTrackStatus (r : RawRequest) (q : Request) (s : State) : Option State :=
  match q with
  | .trackStatus track =>
    some
      (match trackOf track with
       | none => answer r .badField s
       | some t => answerWith r (trackStatusBody (s.track t)) s)
  | _ => none

/-- TRACK_STATUS (R64). -/
def execTrackStatus (dt : Nat) (s : State) : Result := .next (onRequest dt s serveTrackStatus)

/-! ## STROBE_INSTANT and LANE_WORD -/

/-- The next regular strobe of a track is issued when its instant has come (R29). -/
def strobe (t : Track) (s : State) : State :=
  match dueStrobe s t with
  | none => s
  | some (sch, pos) => issueRegular t sch pos s

/-- STROBE_INSTANT (R29). -/
def execStrobeInstant (dt : Nat) (t : Track) (s : State) : Result := .next (live dt s (strobe t))

/-- A lane word: resolved for the position the flag stands for, discarded with the flag clear (R32). -/
def takeWord (t : Track) (word : BitVec 16) (parity : Bool) (s : State) : State :=
  match (s.lane t).flag with
  | none => s
  | some pos => resolveWord t pos word parity s

/-- LANE_WORD (R32). -/
def execLaneWord (dt : Nat) (t : Track) (word : BitVec 16) (parity : Bool) (s : State) : Result :=
  .next (live dt s fun s => follow (takeWord t word parity s))

end Sys2Proof.Machine
end

