-- ==== Sys2Proof/Machine/AveragerCommands.lean ====
section
/-!
DEFINITION. The averager's requests, and the writing of a mean (file 09).
-/

namespace Sys2Proof.Machine

/-- A fresh start on a new region (R154). -/
def freshStart (t : Track) (g : Region) (k : Nat) (coasted : Bool) (s : State) : State :=
  let s := discardMean t s
  let s := s.putAverager t
    { s.averager t with
      region := some g, k := k, includeCoasted := coasted, reason := .none, current := none, blockCount := 0,
      blockLast := none }
  clearSums g s

/-- SET_AVERAGER with the enable set: the checks in order, then a fresh start (R154). -/
def enableAverager (r : RawRequest) (track : Nat) (region : Option (Nat × Nat)) (coasted : Option Bool) (s : State) :
    State :=
  match trackOf track, region with
  | some t, some (base, k) =>
    let n := (s.track t).active.length
    if k < 2 ∨ 1024 < k ∨ 16383 < base ∨ Config.averagerWords < base + 2 * n then answer r .badField s
    else if regionTaken s t base n then answer r .conflict s
    else follow (answer r .ok (freshStart t { base := base, length := n } k (coasted.getD false) s))
  | none, _ => answer r .badField s
  | some _, none => answer r .badField s

def serveSetAveragerEnable (r : RawRequest) (q : Request) (s : State) : Option State :=
  match q with
  | .setAverager track true region coasted => some (enableAverager r track region coasted s)
  | _ => none

/-- SET_AVERAGER with the enable set (R154). -/
def execSetAveragerEnable (dt : Nat) (s : State) : Result := .next (onRequest dt s serveSetAveragerEnable)

def serveSetAveragerDisable (r : RawRequest) (q : Request) (s : State) : Option State :=
  match q with
  | .setAverager track false _ _ =>
    some
      (match trackOf track with
       | none => answer r .badField s
       | some t => follow (answer r .ok (disableAverager t .request s)))
  | _ => none

/-- SET_AVERAGER with the enable clear (R155). -/
def execSetAveragerDisable (dt : Nat) (s : State) : Result := .next (onRequest dt s serveSetAveragerDisable)

def serveAveragerStatus (r : RawRequest) (q : Request) (s : State) : Option State :=
  match q with
  | .averagerStatus track =>
    some
      (match trackOf track with
       | none => answer r .badField s
       | some t => answerWith r (averagerStatusBody (s.averager t)) s)
  | _ => none

/-- AVERAGER_STATUS (R163). -/
def execAveragerStatus (dt : Nat) (s : State) : Result := .next (onRequest dt s serveAveragerStatus)

def serveRestartAverage (r : RawRequest) (q : Request) (s : State) : Option State :=
  match q with
  | .restartAverage track =>
    some
      (match trackOf track with
       | none => answer r .badField s
       | some t => answer r .ok (restartBlock t s))
  | _ => none

/-- RESTART_AVERAGE (R164). -/
def execRestartAverage (dt : Nat) (s : State) : Result := .next (onRequest dt s serveRestartAverage)

/-- MEAN_WRITTEN (R160). -/
def execMeanWritten (dt : Nat) (t : Track) (s : State) : Result := .next (live dt s (writeMean t))

end Sys2Proof.Machine
end

