-- ==== Sys2Proof/Machine/CheckCommands.lean ====
section
/-!
DEFINITION. The check-code unit's requests (file 07).
-/

namespace Sys2Proof.Machine

/-- Checking mode codes (Table 12.3). -/
def checkModeOf : Nat → Option CheckMode
  | 0 => some .off
  | 1 => some .quiet
  | 2 => some .notify
  | _ => none

/-- Inject kind codes (Table 12.3). -/
def injectKindOf : Nat → Option InjectKind
  | 0 => some .single
  | 1 => some .double
  | _ => none

def serveSetChecking (r : RawRequest) (q : Request) (s : State) : Option State :=
  match q with
  | .setChecking mode =>
    some
      (match checkModeOf mode with
       | none => answer r .badField s
       | some m => answer r .ok (s.setCheck { s.check with mode := m }))
  | _ => none

/-- SET_CHECKING (R132). -/
def execSetChecking (dt : Nat) (s : State) : Result := .next (onRequest dt s serveSetChecking)

def serveReadFault (r : RawRequest) (q : Request) (s : State) : Option State :=
  match q with
  | .readFault => some (answerWith r (readFaultBody s.check) s)
  | _ => none

/-- READ_FAULT (R134). -/
def execReadFault (dt : Nat) (s : State) : Result := .next (onRequest dt s serveReadFault)

def serveClearFault (r : RawRequest) (q : Request) (s : State) : Option State :=
  match q with
  | .clearFault =>
    some (answer r .ok
      (s.setCheck { s.check with lastCorrected := none, firstUncorrectable := none, more := false }))
  | _ => none

/-- CLEAR_FAULT (R135). -/
def execClearFault (dt : Nat) (s : State) : Result := .next (onRequest dt s serveClearFault)

def serveInjectFault (r : RawRequest) (q : Request) (s : State) : Option State :=
  match q with
  | .injectFault track kind =>
    some
      (match trackOf track, injectKindOf kind with
       | some t, some k =>
         if s.check.inject.isSome then answer r .busy s
         else answer r .ok (s.setCheck { s.check with inject := some (t, k) })
       | none, _ => answer r .badField s
       | some _, none => answer r .badField s)
  | _ => none

/-- INJECT_FAULT (R136). -/
def execInjectFault (dt : Nat) (s : State) : Result := .next (onRequest dt s serveInjectFault)

end Sys2Proof.Machine
end

