-- ==== Sys2Proof/Machine/IndexCommands.lean ====
section
/-!
DEFINITION. The index unit's requests (file 05, sections 5.6 and 5.7).
-/

namespace Sys2Proof.Machine

/-- A record gains or loses KEPT together with its pages' keep marks (R98, R99). -/
def setKept (t : Track) (v : Bool) (x : SweepRecord) (s : State) : State :=
  claimKeep t v x (claim t x.seq (SweepRecord.setKept v) s)

def serveKeepSweep (r : RawRequest) (q : Request) (s : State) : Option State :=
  match q with
  | .keepSweep track seq =>
    some
      (match trackOf track with
       | none => answer r .badField s
       | some t =>
         match findRecord s t seq with
         | none => answer r .noSuch s
         | some x =>
           if x.kept then answer r .ok s
           else if Config.maxKept ≤ keptCount s t then answer r .full s
           else answer r .ok (setKept t true x s))
  | _ => none

/-- KEEP_SWEEP (R98). -/
def execKeepSweep (dt : Nat) (s : State) : Result := .next (onRequest dt s serveKeepSweep)

def serveReleaseSweep (r : RawRequest) (q : Request) (s : State) : Option State :=
  match q with
  | .releaseSweep track seq =>
    some
      (match trackOf track with
       | none => answer r .badField s
       | some t =>
         match findRecord s t seq with
         | none => answer r .noSuch s
         | some x => if x.kept then answer r .ok (setKept t false x s) else answer r .ok s)
  | _ => none

/-- RELEASE_SWEEP (R99). -/
def execReleaseSweep (dt : Nat) (s : State) : Result := .next (onRequest dt s serveReleaseSweep)

def serveDropSweep (r : RawRequest) (q : Request) (s : State) : Option State :=
  match q with
  | .dropSweep track seq =>
    some
      (match trackOf track with
       | none => answer r .badField s
       | some t =>
         match findRecord s t seq with
         | none => answer r .noSuch s
         | some x => if x.incomplete then answer r .busy s else follow (answer r .ok (retire t x s)))
  | _ => none

/-- DROP_SWEEP (R100). -/
def execDropSweep (dt : Nat) (s : State) : Result := .next (onRequest dt s serveDropSweep)

def serveListSweeps (r : RawRequest) (q : Request) (s : State) : Option State :=
  match q with
  | .listSweeps track fromSeq most =>
    some
      (match trackOf track with
       | none => answer r .badField s
       | some t =>
         if most = 0 ∨ 16 < most then answer r .badField s
         else
           let rs := (s.records t).filter (fun x => fromSeq ≤ x.seq)
           answerWith r (listSweepsBody (rs.take most) (rs.length - most)) s)
  | _ => none

/-- LIST_SWEEPS (R101). -/
def execListSweeps (dt : Nat) (s : State) : Result := .next (onRequest dt s serveListSweeps)

def serveSweepInfo (r : RawRequest) (q : Request) (s : State) : Option State :=
  match q with
  | .sweepInfo track seq =>
    some
      (match trackOf track with
       | none => answer r .badField s
       | some t =>
         match findRecord s t seq with
         | none => answer r .noSuch s
         | some x => answerWith r (recordBytes x) s)
  | _ => none

/-- SWEEP_INFO (R102). -/
def execSweepInfo (dt : Nat) (s : State) : Result := .next (onRequest dt s serveSweepInfo)

end Sys2Proof.Machine
end

