-- ==== Sys2Proof/Machine/LinkCommands.lean ====
section
/-!
DEFINITION. The inbound receiver, the command unit's MALFORMED answer, the outbound arbiter, and the requests the frame
link owns (file 10).
-/

namespace Sys2Proof.Machine

/-! ## The receiver (R168, R169, R171) -/

def setReceiver (st : ReceiverState) (buffer : List Byte) (s : State) : State :=
  s.setLink { s.link with receiver := st, buffer := buffer }

/-- A frame is discarded: the receiver returns to HUNT and posts LINK_ERROR (R168, R169). -/
def discardFrame (kind : LinkErrorKind) (s : State) : State :=
  post Source.linkError (.linkError kind s.time) (setReceiver .hunt [] s)

/-- Two bytes of a buffer, low byte first. -/
def fieldAt (buffer : List Byte) (i : Nat) : Nat := leNat ((buffer.drop i).take 2)

/-- The payload length a header names (Table 12.1). -/
def payloadLength (buffer : List Byte) : Nat := fieldAt buffer 6

/-- A data byte (R168). -/
def receiveByte (b : Byte) (s : State) : State :=
  let buffer := s.link.buffer ++ [b]
  match s.link.receiver with
  | .hunt => s
  | .header =>
    if buffer.length < 8 then setReceiver .header buffer s
    else if Config.maxPayload < payloadLength buffer then discardFrame .length s
    else setReceiver .body buffer s
  | .body =>
    if 8 + payloadLength s.link.buffer + 2 < buffer.length then discardFrame .length s
    else setReceiver .body buffer s

/-- A start symbol (R168). -/
def receiveStart (s : State) : State :=
  match s.link.receiver with
  | .hunt => setReceiver .header [] s
  | .header => setReceiver .header [] (discardFrame .endMissing s)
  | .body => setReceiver .header [] (discardFrame .endMissing s)

/-- An idle symbol, or one that cannot be decoded (R168). -/
def receiveGap (s : State) : State :=
  match s.link.receiver with
  | .hunt => s
  | .header => discardFrame .endMissing s
  | .body => discardFrame .endMissing s

/-- The request a checked frame carries (Table 12.1). -/
def requestOf (buffer : List Byte) : RawRequest :=
  { code := fieldAt buffer 2, tag := fieldAt buffer 4, payload := (buffer.drop 8).take (payloadLength buffer) }

/-- A good request joins the request queue, or is answered with FULL at a full one (R171). -/
def acceptRequest (r : RawRequest) (s : State) : State :=
  if s.link.queue.length < Config.queueDepth then s.setLink { s.link with queue := s.link.queue ++ [r] }
  else addReply false r .full [] s

/-- The three checks at a frame's end symbol, in order (R169); none when the frame is a good request. -/
def frameFault (buffer : List Byte) : Option LinkErrorKind :=
  if buffer.length < 8 then some .length
  else if buffer.length < 8 + payloadLength buffer + 2 then some .length
  else if (crc (buffer.take (8 + payloadLength buffer))).toNat ≠ fieldAt buffer (8 + payloadLength buffer) then
    some .crc
  else if fieldAt buffer 0 ≠ FrameType.request.code then some .notRequest
  else none

/-- An end symbol (R168, R169). -/
def receiveEnd (s : State) : State :=
  match s.link.receiver with
  | .hunt => s
  | .header => discardFrame .length s
  | .body =>
    match frameFault s.link.buffer with
    | some kind => discardFrame kind s
    | none => acceptRequest (requestOf s.link.buffer) (setReceiver .hunt [] s)

/-- A symbol of the inbound pair (R168). -/
def receive : Symbol → State → State
  | .data b => receiveByte b
  | .idle => receiveGap
  | .start => receiveStart
  | .stop => receiveEnd
  | .undecodable => receiveGap

/-- INBOUND_FRAME_END: an end symbol (R169). -/
def execInboundFrameEnd (dt : Nat) (s : State) : Result := .next (live dt s receiveEnd)

/-- INBOUND_FRAME_BROKEN: a symbol that breaks the frame in progress (R168). -/
def execInboundFrameBroken (dt : Nat) (sym : Symbol) (s : State) : Result := .next (live dt s (receive sym))

/-- INBOUND_START_SYMBOL (R168). -/
def execInboundStartSymbol (dt : Nat) (s : State) : Result := .next (live dt s receiveStart)

/-- INBOUND_DATA_BYTE (R168). -/
def execInboundDataByte (dt : Nat) (b : Byte) (s : State) : Result := .next (live dt s (receiveByte b))

/-! ## The command unit's own answer (R172) -/

/-- What follows the status in a MALFORMED reply: the applied count, 0, of a LOAD_MAP, whose replies all carry it, and
nothing of any other kind (R170, R189). -/
def malformedBody (r : RawRequest) : List Byte := if r.code = 0x20 then leBytes 2 0 else []

/-- A request of unknown kind, or one whose payload does not fit it, is taken and answered MALFORMED (R172, R187). -/
def serveMalformed (s : State) : State :=
  match takeRequest s with
  | none => s
  | some (r, s') =>
    match parseRequest r with
    | none => addReply true r .malformed (malformedBody r) s'
    | some _ => s

/-- MALFORMED (R172). -/
def execMalformed (dt : Nat) (s : State) : Result := .next (live dt s serveMalformed)

/-! ## The outbound arbiter (R174, R180, R145) -/

def setOutgoing (f : Option Frame) (s : State) : State := s.setLink { s.link with outgoing := f }

/-- The notice chosen when no RESTARTED frame and no reply waits: the head of the list at or above the threshold
(R180). -/
def chooseNotice (s : State) : Option (Frame × State) :=
  match s.notices.entries with
  | [] => none
  | e :: rest =>
    if s.notices.threshold ≤ s.notices.level e.source then
      some (e.frame, s.setNotices { s.notices with entries := rest })
    else none

/-- The next outbound frame, and the state once it counts as sent (R174). -/
def chooseFrame (s : State) : Option (Frame × State) :=
  match s.link.owed with
  | some cause => some (restartedFrame cause, s.setLink { s.link with owed := none })
  | none =>
    match s.link.replies with
    | r :: rest => some (r.frame, s.setLink { s.link with replies := rest })
    | [] =>
      match chooseNotice s with
      | some c => some c
      | none => offeredFrame s

/-- The outbound pair is free: the next frame goes out, or idle symbols do (R174). -/
def sendNext (s : State) : State :=
  match chooseFrame s with
  | some (f, s') => setOutgoing (some f) s'
  | none => setOutgoing none s

/-- OUTBOUND_PAIR_FREE (R174). -/
def execOutboundPairFree (dt : Nat) (s : State) : Result := .next (live dt s fun s => follow (sendNext s))

/-! ## QUERY_IDENTITY, READ_CLOCK, RESET_PART (R175, R176) -/

def serveQueryIdentity (r : RawRequest) (q : Request) (s : State) : Option State :=
  match q with
  | .queryIdentity => some (answerWith r identityBody s)
  | _ => none

/-- QUERY_IDENTITY (R175). -/
def execQueryIdentity (dt : Nat) (s : State) : Result := .next (onRequest dt s serveQueryIdentity)

def serveReadClock (r : RawRequest) (q : Request) (s : State) : Option State :=
  match q with
  | .readClock => some (answerWith r (timeBytes s.time) s)
  | _ => none

/-- READ_CLOCK (R175). -/
def execReadClock (dt : Nat) (s : State) : Result := .next (onRequest dt s serveReadClock)

/-- RESET_PART on a marker unit (R22, Table 1.4). -/
def MarkerUnit.resetPart (m : MarkerUnit) : MarkerUnit := { m.toNoSignal with early := false }

/-- The track unit's own items at RESET_PART (Tables 2.2 and 3.1, R58). -/
def TrackUnit.resetPart (u : TrackUnit) : TrackUnit :=
  { u with
    pendingSet := none, intervalCount := 0, updateRequest := false, state := .idle, selected := none,
    prevMarker := none, armCount := 0, sweepsDone := 0, schedule := none }

/-- Whether a sweep of a track stands DRAINING in its index. -/
def drains (s : State) (t : Track) (seq : Nat) : Bool :=
  (s.records t).any (fun r => r.seq = seq && r.state = .draining)

/-- A track's bursts count as its writer's burst in flight only for a DRAINING sweep (Table 3.1, R58; log 12). -/
def detachWrites (t : Track) (s : State) : State :=
  s.setMem { s.mem with
    granted := s.mem.granted.map (fun b =>
      if !b.isRead && b.track = t && !drains s t b.seq then { b with attached := false } else b) }

/-- RESET_PART on one track unit and its lane (R40, R58): a FILLING sweep is removed, DRAINING sweeps and their writer go
on. -/
def resetPartTrack (t : Track) (s : State) : State :=
  let s := detachWrites t (removeFilling t s)
  (s.putTrack t (s.track t).resetPart).putLane t Lane.reset

/-- The RESET_PART effects of every block as one act, in the order of R176. -/
def resetPart (s : State) : State :=
  let s := (s.setMarkerA s.markerA.resetPart).setMarkerB s.markerB.resetPart
  let s := allTracks.foldl (fun s t => resetPartTrack t s) s
  let s := endReads (fun _ => true) .reset s
  let s := allTracks.foldl (fun s t => resetAverager t s) s
  let s := s.setCheck { s.check with inject := none }
  s.setNotices { s.notices with entries := [] }

def serveResetPart (r : RawRequest) (q : Request) (s : State) : Option State :=
  match q with
  | .resetPart => some (follow (answer r .ok (resetPart s)))
  | _ => none

/-- RESET_PART (R176). -/
def execResetPart (dt : Nat) (s : State) : Result := .next (onRequest dt s serveResetPart)

end Sys2Proof.Machine
end

