-- ==== Sys2Proof/Machine/MapCommands.lean ====
section
/-!
DEFINITION. The map unit's requests (file 04).
-/

namespace Sys2Proof.Machine

/-- The ownership entry of a physical page; none is FREE (R67). -/
def ownerOf (s : State) (p : Page) : Option Owner := tget s.owners p.toNat

/-- The page an entry named becomes FREE (R73, R74). -/
def freePage (s : State) (t : Track) (l : Nat) : State :=
  match tget (s.map t) l with
  | some e => s.setOwners (terase s.owners e.page.toNat)
  | none => s

/-- A MAP item applied to entry l (R73). -/
def applyMap (t : Track) (l : Nat) (p : Page) (hp : Bool) (s : State) : State :=
  match tget (s.map t) l with
  | some e =>
    if e.page = p then s.putMap t (tput (s.map t) l { e with hostProtect := hp })
    else
      let s := freePage s t l
      let s := s.setOwners (tput s.owners p.toNat { track := t, logical := l })
      s.putMap t (tput (s.map t) l { page := p, hostProtect := hp, keep := false })
  | none =>
    let s := s.setOwners (tput s.owners p.toNat { track := t, logical := l })
    s.putMap t (tput (s.map t) l { page := p, hostProtect := hp, keep := false })

/-- An UNMAP item applied to entry l (R74). -/
def applyUnmap (t : Track) (l : Nat) (s : State) : State :=
  let s := freePage s t l
  s.putMap t (terase (s.map t) l)

/-- The checks on one load item, in order (Table 4.3). -/
def itemFault (s : State) (t : Track) (l : Nat) (item : LoadItem) : Option Status :=
  if 2047 < l then some .badField
  else if (match tget (s.map t) l with
           | some e => e.keep
           | none => false) then some .protectedMark
  else
    match item with
    | .unmap => none
    | .map p _ =>
      match ownerOf s p with
      | none => none
      | some o => if o = { track := t, logical := l } then none else some .conflict

/-- A passed item is applied, and the sweep on its page is retired (R73 to R75). -/
def applyItem (t : Track) (l : Nat) (item : LoadItem) (s : State) : State :=
  let s :=
    match item with
    | .unmap => applyUnmap t l s
    | .map p hp => applyMap t l p hp s
  match occupant s t l with
  | some r => retire t r s
  | none => s

/-- The items of a LOAD_MAP in order, up to the first that fails: the status, how many were applied, and the state
(R72). -/
def applyItems (t : Track) : Nat → List LoadItem → State → Status × Nat × State
  | _, [], s => (.ok, 0, s)
  | l, item :: rest, s =>
    match itemFault s t l item with
    | some st => (st, 0, s)
    | none =>
      let x := applyItems t (l + 1) rest (applyItem t l item s)
      (x.1, x.2.1 + 1, x.2.2)

/-- The reply of a LOAD_MAP: its status and the applied count, whatever the status (R76, R189). -/
def answerLoad (r : RawRequest) (st : Status) (applied : Nat) (s : State) : State :=
  addReply true r st (leBytes 2 applied) s

def serveLoadMap (r : RawRequest) (q : Request) (s : State) : Option State :=
  match q with
  | .loadMap track first items =>
    some
      (match trackOf track with
       | none => answerLoad r .badField 0 s
       | some t =>
         if items.length = 0 ∨ 256 < items.length then answerLoad r .badField 0 s
         else if (s.track t).state.bound then answerLoad r .busy 0 s
         else
           let x := applyItems t first items s
           follow (answerLoad r x.1 x.2.1 x.2.2))
  | _ => none

/-- LOAD_MAP (R71). -/
def execLoadMap (dt : Nat) (s : State) : Result := .next (onRequest dt s serveLoadMap)

def serveCheckPage (r : RawRequest) (q : Request) (s : State) : Option State :=
  match q with
  | .checkPage track logical =>
    some
      (match trackOf track with
       | none => answer r .badField s
       | some t =>
         if 2047 < logical then answer r .badField s
         else
           answerWith r
             (checkPageBody (tget (s.map t) logical) ((occupant s t logical).map (fun x => x.seq))) s)
  | _ => none

/-- CHECK_PAGE (R78). -/
def execCheckPage (dt : Nat) (s : State) : Result := .next (onRequest dt s serveCheckPage)

def servePageOwner (r : RawRequest) (q : Request) (s : State) : Option State :=
  match q with
  | .pageOwner page => some (answerWith r (pageOwnerBody (tget s.owners page)) s)
  | _ => none

/-- PAGE_OWNER (R79). -/
def execPageOwner (dt : Nat) (s : State) : Result := .next (onRequest dt s servePageOwner)

end Sys2Proof.Machine
end

