-- ==== Sys2Proof/Machine/MemoryCommands.lean ====
section
/-!
DEFINITION. The memory controller's requests and events (file 06).
-/

namespace Sys2Proof.Machine

def setMemState (st : MemState) (s : State) : State := s.setMem { s.mem with state := st }

/-- The conditions on which STANDBY is accepted (R116). -/
def standbyAllowed (s : State) : Bool := noneCapturing s && s.readout.queue.isEmpty && !s.mem.reentry

/-- The request becomes the request in hand (R172). -/
def holdInHand (r : RawRequest) (s : State) : State := s.setLink { s.link with inHand := some r }

def serveStandby (r : RawRequest) (q : Request) (s : State) : Option State :=
  match q with
  | .standby =>
    some
      (match s.mem.state with
       | .running =>
         if standbyAllowed s then settle (setMemState (.entering .request) (holdInHand r s)) else answer r .busy s
       | .entering _ => if standbyAllowed s then holdInHand r s else answer r .busy s
       | .standby => answer r .ok s
       | .waking _ => answer r .busy s)
  | _ => none

/-- STANDBY (R116). -/
def execStandby (dt : Nat) (s : State) : Result := .next (onRequest dt s serveStandby)

def serveWake (r : RawRequest) (q : Request) (s : State) : Option State :=
  match q with
  | .wake =>
    some
      (match s.mem.state with
       | .running => answer r .ok s
       | .standby => beginWaking .wake (holdInHand r s)
       | .waking _ => holdInHand r s
       | .entering _ =>
         let s := holdInHand r s
         s.setMem { s.mem with heldWake := true })
  | _ => none

/-- WAKE (R121). -/
def execWake (dt : Nat) (s : State) : Result := .next (onRequest dt s serveWake)

/-- A delay that the request leaves out keeps its present value, the model's choice (log 25). -/
def serveSetAutoStandby (r : RawRequest) (q : Request) (s : State) : Option State :=
  match q with
  | .setAutoStandby enable delay =>
    some
      (if delay.any (fun d => d = 0 || 255 < d) then answer r .badField s
       else
         followAuto (answer r .ok
           (s.setMem { s.mem with
             autoEnable := enable, autoDelay := delay.getD s.mem.autoDelay, autoTimer := .stopped })))
  | _ => none

/-- SET_AUTO_STANDBY (R122). -/
def execSetAutoStandby (dt : Nat) (s : State) : Result := .next (onRequest dt s serveSetAutoStandby)

def serveMemoryStatus (r : RawRequest) (q : Request) (s : State) : Option State :=
  match q with
  | .memoryStatus => some (answerWith r (memoryStatusBody s.mem) s)
  | _ => none

/-- MEMORY_STATUS (R125). -/
def execMemoryStatus (dt : Nat) (s : State) : Result := .next (onRequest dt s serveMemoryStatus)

/-- MEMORY_GRANT (R111). -/
def execMemoryGrant (dt : Nat) (s : State) : Result := .next (live dt s fun s => settle (arbitrate s))

/-- A close step in progress completes (R107). -/
def endClose (b : BankId) (s : State) : State :=
  if s.mem.banks[b].step = .closing then s.setMem (s.mem.setBank b { s.mem.banks[b] with step := .none }) else s

/-- CLOSE_STEP_COMPLETE (R107). -/
def execCloseStepComplete (dt : Nat) (b : BankId) (s : State) : Result :=
  .next (live dt s fun s => settle (endClose b s))

/-- An open step in progress completes: the bank is OPEN on its row (R106, R107). -/
def endOpen (b : BankId) (s : State) : State :=
  match s.mem.banks[b].step with
  | .opening row => s.setMem (s.mem.setBank b { row := some row, step := .none })
  | .closing => s
  | .none => s

/-- OPEN_STEP_COMPLETE (R107). -/
def execOpenStepComplete (dt : Nat) (b : BankId) (s : State) : Result :=
  .next (live dt s fun s => settle (endOpen b s))

/-- TRANSFER_COMPLETE (R108). -/
def execTransferComplete (dt : Nat) (s : State) : Result := .next (live dt s fun s => settle (completeTransfer s))

/-- The refresh in flight completes (R115): B falls by 1 and the re-entry flag is cleared; an auto-standby expiry that
waited for the flag then begins its entry when its conditions still hold (R123). -/
def endRefresh (s : State) : State :=
  if s.mem.refresh = .inFlight then
    let waited := s.mem.reentry && s.mem.autoTimer = .expired && s.mem.autoEnable && autoConditions s
    let s := s.setMem { s.mem with refresh := .none, balance := s.mem.balance - 1, reentry := false }
    if waited then setMemState (.entering .auto) s else s
  else s

/-- REFRESH_COMPLETE (R115). -/
def execRefreshComplete (dt : Nat) (s : State) : Result := .next (live dt s fun s => settle (endRefresh s))

/-- What an expiry of the refresh interval timer does to B (R114). `time` is the time of the expiry. -/
def expire (time : Time) (s : State) : State :=
  if s.mem.balance < 8 then s.setMem { s.mem with balance := s.mem.balance + 1 }
  else post Source.memoryFault (.memoryFault (.refreshOverrun time)) (recordFault (.refreshOverrun time) s)

/-- Whether expiries act on B (R113). -/
def MemState.countsExpiries : MemState → Bool
  | .running => true
  | .entering _ => true
  | .standby => false
  | .waking _ => false

/-- The refresh interval timer expires, once 312 counts have passed since its last expiry; the next interval counts on
from that instant (R113, R114). -/
def refreshExpiry (s : State) : State :=
  if Config.refreshInterval ≤ s.refreshElapsed then
    let late := s.refreshElapsed - Config.refreshInterval
    let s := s.setRefreshElapsed late
    if s.mem.state.countsExpiries then expire (s.time - BitVec.ofNat 48 late) s else s
  else s

/-- REFRESH_INTERVAL_EXPIRY (R114). -/
def execRefreshIntervalExpiry (dt : Nat) (s : State) : Result :=
  .next (live dt s fun s => settle (refreshExpiry s))

/-- Waking ends (R120). -/
def endWaking (s : State) : State :=
  match s.mem.state with
  | .waking cause =>
    let s := s.setMem { s.mem with balance := 0, state := .running, reentry := true, heldWake := false }
    completeInHand 0x41 (post Source.standbyChange (.standbyChange (.running cause) s.time 0) s)
  | .running => s
  | .standby => s
  | .entering _ => s

/-- WAKING_EXIT_COMPLETE (R120). -/
def execWakingExitComplete (dt : Nat) (s : State) : Result := .next (live dt s fun s => settle (endWaking s))

/-- The auto-standby delay timer expires (R123): an entry with cause AUTO begins, or the expiry waits for the re-entry
flag. -/
def delayExpiry (s : State) : State :=
  match s.mem.autoTimer with
  | .running e =>
    if s.mem.autoDelay * Config.delayUnit ≤ e then
      if s.mem.reentry then s.setMem { s.mem with autoTimer := .expired }
      else setMemState (.entering .auto) s
    else s
  | .stopped => s
  | .expired => s

/-- AUTO_STANDBY_DELAY_EXPIRY (R123). -/
def execAutoStandbyDelayExpiry (dt : Nat) (s : State) : Result := .next (live dt s fun s => settle (delayExpiry s))

end Sys2Proof.Machine
end

