-- ==== Sys2Proof/Machine/NoticeCommands.lean ====
section
/-!
DEFINITION. The notice unit's requests (file 11).
-/

namespace Sys2Proof.Machine

/-- A source 0..29 (R181). -/
def sourceOf (n : Nat) : Option Source := if h : n < 30 then some ⟨n, h⟩ else none

/-- A source's level is changed: its pending entry is removed at level 0, and otherwise moves to the place its new level
and its posting order give it (R181). -/
def NoticeUnit.relevel (n : NoticeUnit) (src : Source) (level : Nat) : NoticeUnit :=
  if n.level src = level then n
  else
    let m : NoticeUnit := { n with levels := n.levels.set src level, entries := n.entries.filter (fun e => e.source ≠ src) }
    if level = 0 then m
    else { m with entries := (n.entries.filter (fun e => e.source = src)).foldl (fun l e => m.place e l) m.entries }

def serveSetNoticeLevel (r : RawRequest) (q : Request) (s : State) : Option State :=
  match q with
  | .setNoticeLevel source level =>
    some
      (match sourceOf source with
       | none => answer r .badField s
       | some src =>
         if 7 < level then answer r .badField s
         else answer r .ok (s.setNotices (s.notices.relevel src level)))
  | _ => none

/-- SET_NOTICE_LEVEL (R181). -/
def execSetNoticeLevel (dt : Nat) (s : State) : Result := .next (onRequest dt s serveSetNoticeLevel)

def serveSetNoticeThreshold (r : RawRequest) (q : Request) (s : State) : Option State :=
  match q with
  | .setNoticeThreshold threshold =>
    some
      (if threshold = 0 ∨ 7 < threshold then answer r .badField s
       else answer r .ok (s.setNotices { s.notices with threshold := threshold }))
  | _ => none

/-- SET_NOTICE_THRESHOLD (R182). -/
def execSetNoticeThreshold (dt : Nat) (s : State) : Result := .next (onRequest dt s serveSetNoticeThreshold)

def serveNoticeStatus (r : RawRequest) (q : Request) (s : State) : Option State :=
  match q with
  | .noticeStatus => some (answerWith r (noticeStatusBody s.notices) s)
  | _ => none

/-- NOTICE_STATUS (R183). -/
def execNoticeStatus (dt : Nat) (s : State) : Result := .next (onRequest dt s serveNoticeStatus)

def serveClearNotices (r : RawRequest) (q : Request) (s : State) : Option State :=
  match q with
  | .clearNotices sources =>
    some
      (if sources.length = 0 ∨ 30 < sources.length ∨ sources.any (fun c => 29 < c) then answer r .badField s
       else
         answer r .ok
           (s.setNotices { s.notices with
             entries := s.notices.entries.filter (fun e => !sources.contains e.source.val) }))
  | _ => none

/-- CLEAR_NOTICES (R184). -/
def execClearNotices (dt : Nat) (s : State) : Result := .next (onRequest dt s serveClearNotices)

end Sys2Proof.Machine
end

