-- ==== Sys2Proof/Machine/ReadCommands.lean ====
section
/-!
DEFINITION. The readout engine's requests, and the building of mean frames (file 08).
-/

namespace Sys2Proof.Machine

/-- Byte order codes (Table 12.3). -/
def byteOrderOf : Nat → Option ByteOrder
  | 0 => some .lowFirst
  | 1 => some .highFirst
  | _ => none

/-- A read joins the tail of the read queue (R138). -/
def addRead (x : Read) (s : State) : State :=
  s.setReadout { s.readout with queue := s.readout.queue ++ [x] }

/-- The read a READ_SWEEP accepts (R139, Table 8.2). -/
def sweepRead (tag : Nat) (t : Track) (x : SweepRecord) (first count : Nat) (o : ByteOrder) : Read :=
  { tag := tag, kind := .sweep x.seq x.firstPage, track := t, firstPos := first, count := count, order := o,
    delivered := 0, nextFetch := first / 32, samples := [] }

/-- The checks of READ_SWEEP after the first, in order (R139, items 2 to 6), and the read it accepts. -/
def admitSweep (s : State) (tag : Nat) (t : Track) (seq first count : Nat) (o : ByteOrder) : Except Status Read :=
  if Config.maxReads ≤ readLoad s then .error .full
  else if tagInQueue s tag || tagInEnded s tag then .error .busy
  else
    match findRecord s t seq with
    | none => .error .noSuch
    | some x =>
      if x.incomplete then .error .notReady
      else if x.length < first + count then .error .badField
      else .ok (sweepRead tag t x first count o)

def serveReadSweep (r : RawRequest) (q : Request) (s : State) : Option State :=
  match q with
  | .readSweep track seq first count order =>
    some
      (match trackOf track, byteOrderOf order with
       | some t, some o =>
         if count = 0 then answer r .badField s
         else
           (match admitSweep s r.tag t seq first count o with
            | .error st => answer r st s
            | .ok x => follow (answer r .ok (addRead x s)))
       | none, _ => answer r .badField s
       | some _, none => answer r .badField s)
  | _ => none

/-- READ_SWEEP (R139). -/
def execReadSweep (dt : Nat) (s : State) : Result := .next (onRequest dt s serveReadSweep)

/-- The read a READ_MEAN accepts (R140). -/
def meanRead (tag : Nat) (t : Track) (count : Nat) (o : ByteOrder) : Read :=
  { tag := tag, kind := .mean, track := t, firstPos := 0, count := count, order := o, delivered := 0, nextFetch := 0,
    samples := [] }

/-- The checks of READ_MEAN after the first, in order (R140, items 2 to 4), and the read it accepts. -/
def admitMean (s : State) (tag : Nat) (t : Track) (o : ByteOrder) : Except Status Read :=
  if Config.maxReads ≤ readLoad s then .error .full
  else if tagInQueue s tag || tagInEnded s tag then .error .busy
  else
    match (s.averager t).region with
    | none => .error .noSuch
    | some g =>
      if (s.averager t).published || (s.averager t).publication.isSome then .ok (meanRead tag t g.length o)
      else .error .noSuch

def serveReadMean (r : RawRequest) (q : Request) (s : State) : Option State :=
  match q with
  | .readMean track order =>
    some
      (match trackOf track, byteOrderOf order with
       | some t, some o =>
         (match admitMean s r.tag t o with
          | .error st => answer r st s
          | .ok x => follow (answer r .ok (addRead x s)))
       | none, _ => answer r .badField s
       | some _, none => answer r .badField s)
  | _ => none

/-- READ_MEAN (R140). -/
def execReadMean (dt : Nat) (s : State) : Result := .next (onRequest dt s serveReadMean)

def serveAbortRead (r : RawRequest) (q : Request) (s : State) : Option State :=
  match q with
  | .abortRead tag =>
    some
      (if tagInQueue s tag then follow (answer r .ok (endReads (fun x => x.tag = tag) .aborted s))
       else if tagInEnded s tag then answer r .ok s
       else answer r .noSuch s)
  | _ => none

/-- ABORT_READ (R150). -/
def execAbortRead (dt : Nat) (s : State) : Result := .next (onRequest dt s serveAbortRead)

/-- The engine finishes building the next frame of the active READ_MEAN (R146): no publication of its track is in flight,
and it holds fewer than two unsent frames of the read. -/
def buildMeanFrame (s : State) : State :=
  match s.readout.queue with
  | [] => s
  | r :: _ =>
    match (s.averager r.track).region with
    | none => s
    | some g =>
      if r.kind = .mean && (s.averager r.track).publication.isNone && (s.averager r.track).published
          && 256 * r.nextFetch < r.count && r.nextFetch < r.unsentFrame + 2 then
        setActive
          { r.take (r.frameStart r.nextFetch)
              (meanSamples s g (256 * r.nextFetch) (r.frameSize r.nextFetch)) with
            nextFetch := r.nextFetch + 1 } s
      else s

/-- MEAN_FRAME_BUILT (R146). -/
def execMeanFrameBuilt (dt : Nat) (s : State) : Result := .next (live dt s buildMeanFrame)

end Sys2Proof.Machine
end

