-- ==== Sys2Proof/Machine/Dispatch.lean ====
section
/-!
DEFINITION. One arm per command: its meaning.
-/

namespace Sys2Proof.Machine

/-- The effect of a command on everything but the queue of commands. -/
def exec (i : Instr) (s : State) : Host.Outcome State Fault Refusal :=
  match i with
  | .powerOnReset => Sys2Proof.Machine.execPowerOnReset s
  | .resetLineAsserted => Sys2Proof.Machine.execResetLineAsserted s
  | .resetLineReleased => Sys2Proof.Machine.execResetLineReleased s
  | .inboundFrameEnd dt => Sys2Proof.Machine.execInboundFrameEnd dt s
  | .inboundFrameBroken dt sym => Sys2Proof.Machine.execInboundFrameBroken dt sym s
  | .malformed dt => Sys2Proof.Machine.execMalformed dt s
  | .setMarker dt order => Sys2Proof.Machine.execSetMarker dt order s
  | .markerStatus dt => Sys2Proof.Machine.execMarkerStatus dt s
  | .stageTrack dt => Sys2Proof.Machine.execStageTrack dt s
  | .commitTrack dt => Sys2Proof.Machine.execCommitTrack dt s
  | .updateOffset dt => Sys2Proof.Machine.execUpdateOffset dt s
  | .armTrack dt => Sys2Proof.Machine.execArmTrack dt s
  | .stopTrack dt => Sys2Proof.Machine.execStopTrack dt s
  | .abortTrack dt => Sys2Proof.Machine.execAbortTrack dt s
  | .resetTrack dt => Sys2Proof.Machine.execResetTrack dt s
  | .trackStatus dt => Sys2Proof.Machine.execTrackStatus dt s
  | .loadMap dt => Sys2Proof.Machine.execLoadMap dt s
  | .checkPage dt => Sys2Proof.Machine.execCheckPage dt s
  | .pageOwner dt => Sys2Proof.Machine.execPageOwner dt s
  | .keepSweep dt => Sys2Proof.Machine.execKeepSweep dt s
  | .releaseSweep dt => Sys2Proof.Machine.execReleaseSweep dt s
  | .dropSweep dt => Sys2Proof.Machine.execDropSweep dt s
  | .listSweeps dt => Sys2Proof.Machine.execListSweeps dt s
  | .sweepInfo dt => Sys2Proof.Machine.execSweepInfo dt s
  | .standby dt => Sys2Proof.Machine.execStandby dt s
  | .wake dt => Sys2Proof.Machine.execWake dt s
  | .setAutoStandby dt => Sys2Proof.Machine.execSetAutoStandby dt s
  | .memoryStatus dt => Sys2Proof.Machine.execMemoryStatus dt s
  | .setChecking dt => Sys2Proof.Machine.execSetChecking dt s
  | .readFault dt => Sys2Proof.Machine.execReadFault dt s
  | .clearFault dt => Sys2Proof.Machine.execClearFault dt s
  | .injectFault dt => Sys2Proof.Machine.execInjectFault dt s
  | .readSweep dt => Sys2Proof.Machine.execReadSweep dt s
  | .readMean dt => Sys2Proof.Machine.execReadMean dt s
  | .abortRead dt => Sys2Proof.Machine.execAbortRead dt s
  | .setAveragerEnable dt => Sys2Proof.Machine.execSetAveragerEnable dt s
  | .setAveragerDisable dt => Sys2Proof.Machine.execSetAveragerDisable dt s
  | .averagerStatus dt => Sys2Proof.Machine.execAveragerStatus dt s
  | .restartAverage dt => Sys2Proof.Machine.execRestartAverage dt s
  | .setNoticeLevel dt => Sys2Proof.Machine.execSetNoticeLevel dt s
  | .setNoticeThreshold dt => Sys2Proof.Machine.execSetNoticeThreshold dt s
  | .noticeStatus dt => Sys2Proof.Machine.execNoticeStatus dt s
  | .clearNotices dt => Sys2Proof.Machine.execClearNotices dt s
  | .queryIdentity dt => Sys2Proof.Machine.execQueryIdentity dt s
  | .readClock dt => Sys2Proof.Machine.execReadClock dt s
  | .resetPart dt => Sys2Proof.Machine.execResetPart dt s
  | .pulseActiveEdge dt edge => Sys2Proof.Machine.execPulseActiveEdge dt edge s
  | .pulseTrailingEdge dt edge order => Sys2Proof.Machine.execPulseTrailingEdge dt edge order s
  | .levelComplete dt unit ended => Sys2Proof.Machine.execLevelComplete dt unit ended s
  | .windowClose dt unit order => Sys2Proof.Machine.execWindowClose dt unit order s
  | .strobeInstant dt track => Sys2Proof.Machine.execStrobeInstant dt track s
  | .laneWord dt track word parity => Sys2Proof.Machine.execLaneWord dt track word parity s
  | .memoryGrant dt => Sys2Proof.Machine.execMemoryGrant dt s
  | .closeStepComplete dt bank => Sys2Proof.Machine.execCloseStepComplete dt bank s
  | .openStepComplete dt bank => Sys2Proof.Machine.execOpenStepComplete dt bank s
  | .transferComplete dt => Sys2Proof.Machine.execTransferComplete dt s
  | .refreshComplete dt => Sys2Proof.Machine.execRefreshComplete dt s
  | .refreshIntervalExpiry dt => Sys2Proof.Machine.execRefreshIntervalExpiry dt s
  | .wakingExitComplete dt => Sys2Proof.Machine.execWakingExitComplete dt s
  | .autoStandbyDelayExpiry dt => Sys2Proof.Machine.execAutoStandbyDelayExpiry dt s
  | .meanWritten dt track => Sys2Proof.Machine.execMeanWritten dt track s
  | .meanFrameBuilt dt => Sys2Proof.Machine.execMeanFrameBuilt dt s
  | .outboundPairFree dt => Sys2Proof.Machine.execOutboundPairFree dt s
  | .inboundStartSymbol dt => Sys2Proof.Machine.execInboundStartSymbol dt s
  | .inboundDataByte dt b => Sys2Proof.Machine.execInboundDataByte dt b s

end Sys2Proof.Machine
end

