-- ==== Sys2Proof/Machine/Step.lean ====
section
/-!
DEFINITION. One step: the command at the front of the queue, or one reference count on an empty queue (log 1).
-/

namespace Sys2Proof.Machine

/-- One step of the part. On an empty queue one reference count passes. -/
def step (s : State) : Host.Outcome State Fault Refusal :=
  match s.pending with
  | [] => .next (live 1 s id)
  | c :: rest => exec c (s.setPending rest)

/-- The state with the command a word spells put at the front of its queue; no word spells one. -/
def State.withFetchWord (s : State) (nbits w : Nat) : State :=
  match decodeTableWord nbits w with
  | some c => s.setPending (c :: s.pending)
  | none => s

end Sys2Proof.Machine
end

