-- ==== Sys2Proof/Safety.lean ====
section
/-!
DEFINITION. The terms the statements use: what a command finds at the head of the request queue and what its block is
given, the command that serves a request, runs of several commands, and what counts as a safe run.
-/

namespace Sys2Proof.Machine

/-- A step answers a next state: the part never stops. -/
def Goes (s : State) : Prop := ∃ s', step s = .next s'

/-- A property that every step keeps. -/
def Kept (p : State → Prop) : Prop := ∀ s s', p s → step s = .next s' → p s'

/-- The RESET line is not held, and the command unit can take the head of the request queue, r, which is the request q
(R172). -/
def Serves (s : State) (r : RawRequest) (rest : List RawRequest) (q : Request) : Prop :=
  s.resetHeld = false ∧ s.link.inHand = none ∧ ownWaiting s < 4 ∧ s.link.queue = r :: rest ∧ parseRequest r = some q

/-- What the owning block acts on: dt counts have passed, and the head has left the request queue. -/
def handed (dt : Nat) (s : State) (rest : List RawRequest) : State :=
  (elapse dt s).setLink { s.link with queue := rest }

/-- The command that is the taking of a request. `order` is that of the tracks, where the command has one. -/
def Request.command (dt : Nat) (order : List Track) : Request → Instr
  | .setMarker _ _ => .setMarker dt order
  | .markerStatus _ => .markerStatus dt
  | .stageTrack _ _ => .stageTrack dt
  | .commitTrack _ => .commitTrack dt
  | .updateOffset _ => .updateOffset dt
  | .armTrack _ _ => .armTrack dt
  | .stopTrack _ => .stopTrack dt
  | .abortTrack _ => .abortTrack dt
  | .resetTrack _ => .resetTrack dt
  | .trackStatus _ => .trackStatus dt
  | .loadMap _ _ _ => .loadMap dt
  | .checkPage _ _ => .checkPage dt
  | .pageOwner _ => .pageOwner dt
  | .keepSweep _ _ => .keepSweep dt
  | .releaseSweep _ _ => .releaseSweep dt
  | .dropSweep _ _ => .dropSweep dt
  | .listSweeps _ _ _ => .listSweeps dt
  | .sweepInfo _ _ => .sweepInfo dt
  | .standby => .standby dt
  | .wake => .wake dt
  | .setAutoStandby _ _ => .setAutoStandby dt
  | .memoryStatus => .memoryStatus dt
  | .setChecking _ => .setChecking dt
  | .readFault => .readFault dt
  | .clearFault => .clearFault dt
  | .injectFault _ _ => .injectFault dt
  | .readSweep _ _ _ _ _ => .readSweep dt
  | .readMean _ _ => .readMean dt
  | .abortRead _ => .abortRead dt
  | .setAverager _ true _ _ => .setAveragerEnable dt
  | .setAverager _ false _ _ => .setAveragerDisable dt
  | .averagerStatus _ => .averagerStatus dt
  | .restartAverage _ => .restartAverage dt
  | .setNoticeLevel _ _ => .setNoticeLevel dt
  | .setNoticeThreshold _ => .setNoticeThreshold dt
  | .noticeStatus => .noticeStatus dt
  | .clearNotices _ => .clearNotices dt
  | .queryIdentity => .queryIdentity dt
  | .readClock => .readClock dt
  | .resetPart => .resetPart dt

/-- The track field of a request that has one. -/
def Request.trackField : Request → Option Nat
  | .stageTrack n _ => some n
  | .commitTrack n => some n
  | .updateOffset n => some n
  | .armTrack n _ => some n
  | .stopTrack n => some n
  | .abortTrack n => some n
  | .resetTrack n => some n
  | .trackStatus n => some n
  | .loadMap n _ _ => some n
  | .checkPage n _ => some n
  | .keepSweep n _ => some n
  | .releaseSweep n _ => some n
  | .dropSweep n _ => some n
  | .listSweeps n _ _ => some n
  | .sweepInfo n _ => some n
  | .injectFault n _ => some n
  | .readSweep n _ _ _ _ => some n
  | .readMean n _ => some n
  | .setAverager n _ _ _ => some n
  | .averagerStatus n => some n
  | .restartAverage n => some n
  | _ => none

/-- Commands run one after another, each on the state the one before answered. -/
def runCommands : List Instr → State → Result
  | [], s => .next s
  | c :: cs, s =>
    match exec c s with
    | .next s' => runCommands cs s'
    | .fault e => .fault e
    | .refused e => .refused e

/-- The commands of one frame on the inbound pair: its start symbol, its bytes, its end symbol. -/
def frameCommands (dt : Nat) (f : Frame) : List Instr :=
  .inboundStartSymbol dt :: (f.wire.map (fun b => .inboundDataByte dt b) ++ [.inboundFrameEnd dt])

/-! ## Payloads as Table 12.3 lays them out -/

/-- A load item as 4 bytes; the last three bytes of an UNMAP item are free (R187). -/
inductive SpellsItem : List Byte → LoadItem → Prop
  | unmap (x y z : Byte) : SpellsItem [0, x, y, z] .unmap
  | mapPage (page : Page) (hp : Bool) : SpellsItem (1 :: flagByte hp :: leBytes 2 page.toNat) (.map page hp)

/-- Load items one after another. -/
inductive SpellsItems : List Byte → List LoadItem → Prop
  | nil : SpellsItems [] []
  | cons {b bs : List Byte} {i : LoadItem} {items : List LoadItem} :
      SpellsItem b i → SpellsItems bs items → SpellsItems (b ++ bs) (i :: items)

/-- Field items of 3 bytes, each a number below `kinds` that appears once and a signed 2-byte value (R187). -/
inductive SpellsFields (kinds : Nat) : List Byte → List (Nat × Int) → Prop
  | nil : SpellsFields kinds [] []
  | cons {bs : List Byte} {items : List (Nat × Int)} (n : Nat) (v : Int) :
      n < kinds → -32768 ≤ v → v ≤ 32767 → (∀ i ∈ items, i.1 ≠ n) → SpellsFields kinds bs items →
      SpellsFields kinds (BitVec.ofNat 8 n :: leInt 2 v ++ bs) ((n, v) :: items)

/-- A code and a payload spell a request: the rows of Table 12.3, each field in the bytes of Table 12.2 (R186, R187). -/
inductive Spells : Nat → List Byte → Request → Prop
  | setMarker (u : Byte) {bs : List Byte} {items : List (Nat × Int)} :
      SpellsFields 4 bs items → Spells 0x01 (u :: bs) (.setMarker u.toNat items)
  | markerStatus (u : Byte) : Spells 0x02 [u] (.markerStatus u.toNat)
  | stageTrack (t : Byte) {bs : List Byte} {items : List (Nat × Int)} :
      SpellsFields 12 bs items → Spells 0x10 (t :: bs) (.stageTrack t.toNat items)
  | commitTrack (t : Byte) : Spells 0x11 [t] (.commitTrack t.toNat)
  | updateOffset (t : Byte) : Spells 0x12 [t] (.updateOffset t.toNat)
  | armTrack (t : Byte) (count : Nat) : count < 65536 → Spells 0x13 (t :: leBytes 2 count) (.armTrack t.toNat count)
  | stopTrack (t : Byte) : Spells 0x14 [t] (.stopTrack t.toNat)
  | abortTrack (t : Byte) : Spells 0x15 [t] (.abortTrack t.toNat)
  | resetTrack (t : Byte) : Spells 0x16 [t] (.resetTrack t.toNat)
  | trackStatus (t : Byte) : Spells 0x17 [t] (.trackStatus t.toNat)
  | loadMap (t : Byte) (first : Nat) {bs : List Byte} {items : List LoadItem} :
      first < 65536 → items.length < 65536 → SpellsItems bs items →
      Spells 0x20 (t :: (leBytes 2 first ++ leBytes 2 items.length ++ bs)) (.loadMap t.toNat first items)
  | checkPage (t : Byte) (page : Nat) : page < 65536 → Spells 0x21 (t :: leBytes 2 page) (.checkPage t.toNat page)
  | pageOwner (page : Nat) : page < 65536 → Spells 0x22 (leBytes 2 page) (.pageOwner page)
  | keepSweep (t : Byte) (seq : Nat) : seq < 2 ^ 32 → Spells 0x30 (t :: leBytes 4 seq) (.keepSweep t.toNat seq)
  | releaseSweep (t : Byte) (seq : Nat) : seq < 2 ^ 32 → Spells 0x31 (t :: leBytes 4 seq) (.releaseSweep t.toNat seq)
  | dropSweep (t : Byte) (seq : Nat) : seq < 2 ^ 32 → Spells 0x32 (t :: leBytes 4 seq) (.dropSweep t.toNat seq)
  | listSweeps (t : Byte) (seq : Nat) (most : Byte) :
      seq < 2 ^ 32 → Spells 0x33 (t :: (leBytes 4 seq ++ [most])) (.listSweeps t.toNat seq most.toNat)
  | sweepInfo (t : Byte) (seq : Nat) : seq < 2 ^ 32 → Spells 0x34 (t :: leBytes 4 seq) (.sweepInfo t.toNat seq)
  | standby : Spells 0x40 [] .standby
  | wake : Spells 0x41 [] .wake
  | setAutoStandby (enable : Bool) : Spells 0x42 [flagByte enable] (.setAutoStandby enable none)
  | setAutoStandbyDelay (enable : Bool) (delay : Byte) :
      Spells 0x42 [flagByte enable, delay] (.setAutoStandby enable (some delay.toNat))
  | memoryStatus : Spells 0x43 [] .memoryStatus
  | setChecking (mode : Byte) : Spells 0x50 [mode] (.setChecking mode.toNat)
  | readFault : Spells 0x51 [] .readFault
  | clearFault : Spells 0x52 [] .clearFault
  | injectFault (t kind : Byte) : Spells 0x53 [t, kind] (.injectFault t.toNat kind.toNat)
  | readSweep (t : Byte) (seq first count : Nat) (order : Byte) :
      seq < 2 ^ 32 → first < 65536 → count < 65536 →
      Spells 0x60 (t :: (leBytes 4 seq ++ leBytes 2 first ++ leBytes 2 count ++ [order]))
        (.readSweep t.toNat seq first count order.toNat)
  | readMean (t order : Byte) : Spells 0x61 [t, order] (.readMean t.toNat order.toNat)
  | abortRead (tag : Nat) : tag < 65536 → Spells 0x62 (leBytes 2 tag) (.abortRead tag)
  | setAverager (t : Byte) (enable : Bool) : Spells 0x70 [t, flagByte enable] (.setAverager t.toNat enable none none)
  | setAveragerRegion (t : Byte) (enable : Bool) (base k : Nat) :
      base < 65536 → k < 65536 →
      Spells 0x70 (t :: flagByte enable :: (leBytes 2 base ++ leBytes 2 k))
        (.setAverager t.toNat enable (some (base, k)) none)
  | setAveragerCoasted (t : Byte) (enable : Bool) (base k : Nat) (coasted : Bool) :
      base < 65536 → k < 65536 →
      Spells 0x70 (t :: flagByte enable :: (leBytes 2 base ++ leBytes 2 k ++ [flagByte coasted]))
        (.setAverager t.toNat enable (some (base, k)) (some coasted))
  | averagerStatus (t : Byte) : Spells 0x71 [t] (.averagerStatus t.toNat)
  | restartAverage (t : Byte) : Spells 0x72 [t] (.restartAverage t.toNat)
  | setNoticeLevel (src level : Byte) : Spells 0x80 [src, level] (.setNoticeLevel src.toNat level.toNat)
  | setNoticeThreshold (level : Byte) : Spells 0x81 [level] (.setNoticeThreshold level.toNat)
  | noticeStatus : Spells 0x82 [] .noticeStatus
  | clearNotices (n : Byte) (codes : List Byte) :
      n.toNat = codes.length → Spells 0x83 (n :: codes) (.clearNotices (codes.map (fun c => c.toNat)))
  | queryIdentity : Spells 0x90 [] .queryIdentity
  | readClock : Spells 0x91 [] .readClock
  | resetPart : Spells 0x92 [] .resetPart

/-! ## Choices and calculations of a track -/

/-- The unit that AUTO takes: A if A is in lock, otherwise B if B is, otherwise none (R43). -/
def ChosenUnit (s : State) (sel : Option MarkerId) : Prop :=
  (s.markerA.state = .locked ∨ s.markerA.state = .coasting) ∧ sel = some .A ∨
  s.markerA.state ≠ .locked ∧ s.markerA.state ≠ .coasting ∧
    ((s.markerB.state = .locked ∨ s.markerB.state = .coasting) ∧ sel = some .B ∨
      s.markerB.state ≠ .locked ∧ s.markerB.state ≠ .coasting ∧ sel = none)

/-- A raw value under a gain and a sweep offset: z is raw × gain / 1024 to nearest with ties away from zero, plus the
offset, and v is z saturated into −32767..32767 (R34). -/
def Converts (raw : Int) (gain : Nat) (offset z v : Int) : Prop :=
  (2 * (1024 * (z - offset) - raw * gain)).natAbs ≤ 1024 ∧
  ((2 * (1024 * (z - offset) - raw * gain)).natAbs = 1024 → (raw * gain).natAbs < (1024 * (z - offset)).natAbs) ∧
  v = max (-32767) (min 32767 z)

/-- A track unit at the resolution of position pos, when the accumulator of its lane holds sum and count: the sum and the
count after it, and the offset in use, the interval count and the update request (R36 to R38). -/
inductive BaselineAfter (u : TrackUnit) (pos : Nat) (sum : Int) (count : Nat) : Int → Nat → Int → Nat → Bool → Prop
  | noWindow :
      u.active.offsetMode = .manual ∨ u.active.offsetMode = .hold →
      BaselineAfter u pos sum count sum count u.offsetInUse u.intervalCount u.updateRequest
  | goesOn :
      pos + 1 ≠ u.active.placement + u.active.duration →
      BaselineAfter u pos sum count sum count u.offsetInUse u.intervalCount u.updateRequest
  | empty :
      u.active.offsetMode = .auto ∨ u.active.offsetMode = .onRequest →
      pos + 1 = u.active.placement + u.active.duration → count = 0 →
      BaselineAfter u pos sum count 0 0 u.offsetInUse u.intervalCount u.updateRequest
  | counted :
      u.active.offsetMode = .auto → pos + 1 = u.active.placement + u.active.duration → count ≠ 0 →
      u.intervalCount + 1 < u.active.interval.count →
      BaselineAfter u pos sum count 0 0 u.offsetInUse (u.intervalCount + 1) u.updateRequest
  | updated :
      u.active.offsetMode = .auto → pos + 1 = u.active.placement + u.active.duration → count ≠ 0 →
      u.active.interval.count ≤ u.intervalCount + 1 →
      BaselineAfter u pos sum count 0 0
        (max (-8192) (min 8191 (u.offsetInUse + Int.tdiv (u.active.target - Int.tdiv sum count) 2))) 0 u.updateRequest
  | requested :
      u.active.offsetMode = .onRequest → pos + 1 = u.active.placement + u.active.duration → count ≠ 0 →
      u.updateRequest = true →
      BaselineAfter u pos sum count 0 0
        (max (-8192) (min 8191 (u.offsetInUse + Int.tdiv (u.active.target - Int.tdiv sum count) 2))) u.intervalCount false
  | notRequested :
      u.active.offsetMode = .onRequest → pos + 1 = u.active.placement + u.active.duration → count ≠ 0 →
      u.updateRequest = false →
      BaselineAfter u pos sum count 0 0 u.offsetInUse u.intervalCount false

/-- The placement scan of R91 and R92 from a candidate c on, with whether it has wrapped: the walk over ranges of n pages
of the window base..base + w − 1 that started at `start`, and how it ends. -/
inductive ScanWalk (hole bar : Nat → Prop) (base w n start : Nat) : Nat → Bool → ScanEnd → Prop
  /-- Once wrapped, a candidate at or beyond the start ends the scan before its range is examined (R92). -/
  | exhausted (c : Nat) : start ≤ c → ScanWalk hole bar base w n start c true .noRoom
  /-- A hole in the range comes first (R91, item 1). -/
  | hole (c : Nat) (wrapped : Bool) (p : Nat) :
      (wrapped = true → c < start) → c ≤ p → p < c + n → hole p → ScanWalk hole bar base w n start c wrapped .mapHole
  /-- A range with no hole and no barred page is found (R91, item 3). -/
  | found (c : Nat) (wrapped : Bool) :
      (wrapped = true → c < start) → (∀ p, c ≤ p → p < c + n → ¬ hole p ∧ ¬ bar p) →
      ScanWalk hole bar base w n start c wrapped (.found c)
  /-- The candidate moves behind the highest barred page (R91, item 2). -/
  | move (c : Nat) (wrapped : Bool) (p : Nat) (r : ScanEnd) :
      (wrapped = true → c < start) → (∀ q, c ≤ q → q < c + n → ¬ hole q) → c ≤ p → p < c + n → bar p →
      (∀ q, p < q → q < c + n → ¬ bar q) → p + 1 + n ≤ base + w → ScanWalk hole bar base w n start (p + 1) wrapped r →
      ScanWalk hole bar base w n start c wrapped r
  /-- The candidate would pass the window's end for the first time and goes to the window base (R91, item 2). -/
  | wrap (c p : Nat) (r : ScanEnd) :
      (∀ q, c ≤ q → q < c + n → ¬ hole q) → c ≤ p → p < c + n → bar p → (∀ q, p < q → q < c + n → ¬ bar q) →
      base + w < p + 1 + n → ScanWalk hole bar base w n start base true r →
      ScanWalk hole bar base w n start c false r
  /-- Once wrapped, a candidate that would pass the window's end is beyond the start and ends the scan, which wraps at most
  once (R92; the model's reading, log 26). -/
  | passed (c p : Nat) :
      c < start → (∀ q, c ≤ q → q < c + n → ¬ hole q) → c ≤ p → p < c + n → bar p →
      (∀ q, p < q → q < c + n → ¬ bar q) → base + w < p + 1 + n → ScanWalk hole bar base w n start c true .noRoom

/-! ## Properties every step keeps -/

/-- Every memory and table is in its canonical form; every map entry is among a track's 2048 and owns its page, and every
owned page is the page of the entry that owns it (R66, R67). -/
def MemoriesInOrder (s : State) : Prop :=
  Memory.wf s.dram ∧ Memory.wf s.dramCheck ∧ Memory.wf s.averagerRam ∧ Memory.wf s.owners ∧
  (∀ t, Memory.wf (s.map t)) ∧
  (∀ t l e, tget (s.map t) l = some e → l ≤ 2047 ∧ tget s.owners e.page.toNat = some { track := t, logical := l }) ∧
  (∀ a o, tget s.owners a = some o → ∃ e, tget (s.map o.track) o.logical = some e ∧ e.page.toNat = a)

/-- The receive buffer fits the receiver state: empty in HUNT, part of a header in HEADER, and in BODY at most the bytes
the header calls for (R168). -/
def Link.bufferFits (l : Link) : Prop :=
  match l.receiver with
  | .hunt => l.buffer = []
  | .header => l.buffer.length < 8
  | .body =>
    8 ≤ l.buffer.length ∧ payloadLength l.buffer ≤ 1040 ∧ l.buffer.length ≤ 8 + payloadLength l.buffer + 2

/-- The averagers' counts and regions are within their limits (R153, R154, R158): the regions of enabled tracks are of
twice the active N, inside the RAM, and do not overlap. -/
def AveragersFit (s : State) : Prop :=
  (∀ t, 2 ≤ (s.averager t).k ∧ (s.averager t).k ≤ 1024 ∧ (s.averager t).blockCount < (s.averager t).k) ∧
  (∀ t g, (s.averager t).region = some g →
    g.length = (s.track t).active.length ∧ g.base + 2 * g.length ≤ 16384 ∧
    ∀ u h, u ≠ t → (s.averager u).region = some h →
      h.base + 2 * h.length ≤ g.base ∨ g.base + 2 * g.length ≤ h.base)

/-- The queues, lists, counts and levels named here are within the limits the spec gives them. The reply list is not
among them: R173 bounds it by the symbol rates of the two pairs, which the model leaves out (log 16). -/
def WithinLimits (s : State) : Prop :=
  -- the refresh balance, and a refresh in service only where it can lower it (R114, R115)
  -8 ≤ s.mem.balance ∧ s.mem.balance ≤ 8 ∧ (s.mem.refresh ≠ .none → -8 < s.mem.balance) ∧
  -- granted bursts (R109), requests (R171), the command unit's replies with the one in hand (R172)
  s.mem.granted.length ≤ 4 ∧ s.link.queue.length ≤ 4 ∧ ownWaiting s + s.link.inHand.toList.length ≤ 4 ∧
  -- reads with final frames (R138) and the next block of each (R142), staging FIFOs (R59)
  s.readout.queue.length + s.readout.ended.length ≤ 4 ∧
  (∀ y ∈ s.readout.queue, y.kind.isMean = false → y.firstPos < 32 * y.nextFetch + 32) ∧
  (∀ t, (s.track t).fifo.length ≤ 256) ∧
  -- settings (R122, R181, R182) and one entry per source (R179)
  1 ≤ s.mem.autoDelay ∧ s.mem.autoDelay ≤ 255 ∧ 1 ≤ s.notices.threshold ∧ s.notices.threshold ≤ 7 ∧
  (∀ src, s.notices.level src ≤ 7) ∧ (s.notices.entries.map (fun e => e.source)).Nodup ∧
  -- counts of a track (Tables 2.2 and 3.1, R37, R53), the receive buffer, the averagers
  (∀ t, (s.track t).sweepsDone ≤ 65535 ∧ (s.track t).armCount ≤ 65535 ∧
    (s.track t).intervalCount < (s.track t).active.interval.count) ∧
  s.link.bufferFits ∧ AveragersFit s

/-- Every field is within its own range (Table 2.1). -/
def ParamSet.inRange (x : ParamSet) : Prop :=
  x.base ≤ 2047 ∧ 1 ≤ x.windowSize ∧ x.windowSize ≤ 2048 ∧ 64 ≤ x.length ∧ x.length ≤ 4096 ∧ x.length % 4 = 0 ∧
  x.phase ≤ 31 ∧ 512 ≤ x.gain ∧ x.gain ≤ 2047 ∧ -8192 ≤ x.manualOffset ∧ x.manualOffset ≤ 8191 ∧
  x.placement ≤ 4095 ∧ 1 ≤ x.duration ∧ x.duration ≤ 256 ∧ -8192 ≤ x.target ∧ x.target ≤ 8191

/-- The limits that join fields hold (R25, item 2). -/
def ParamSet.joined (x : ParamSet) : Prop :=
  x.base + x.windowSize ≤ 2048 ∧ 2 * ((x.length + 511) / 512) ≤ x.windowSize ∧ x.placement + x.duration ≤ x.length

/-- Every set of a track is in range, the active and the pending one keep the joined limits, and a pending set has the
structural fields of the active one (R24, R25, R28); the offset in use is in its range (R37), and the write position
within the window or at its end (R93). -/
def SetsInOrder (s : State) : Prop :=
  ∀ t,
    (s.track t).staged.inRange ∧ (s.track t).active.inRange ∧ (s.track t).active.joined ∧
    (∀ p, (s.track t).pendingSet = some p →
      p.inRange ∧ p.joined ∧ p.markerSelect = (s.track t).active.markerSelect ∧ p.base = (s.track t).active.base ∧
      p.windowSize = (s.track t).active.windowSize) ∧
    -8192 ≤ (s.track t).offsetInUse ∧ (s.track t).offsetInUse ≤ 8191 ∧
    (s.track t).active.base ≤ s.writePosition t ∧
    s.writePosition t ≤ (s.track t).active.base + (s.track t).active.windowSize

/-- The records of each index stand in rising sequence below the counter (R50, R85), within the limits of R47, R85, R87
and R88, and a FILLING one stands exactly while its track captures. -/
def IndexInOrder (s : State) : Prop :=
  ∀ t,
    (s.records t).Pairwise (fun a b => a.seq < b.seq) ∧
    ((s.track t).spent = false → ∀ y ∈ s.records t, y.seq < (s.track t).seqCounter) ∧
    (s.track t).seqCounter < 2 ^ 32 ∧ (∀ y ∈ s.records t, y.seq < 2 ^ 32) ∧
    (s.records t).length ≤ 256 ∧ ((s.records t).filter (fun y => y.kept)).length ≤ 32 ∧
    ((s.records t).filter (fun y => y.state ≠ .complete)).length ≤ 2 ∧
    ((s.records t).filter (fun y => y.state = .filling)).length ≤ 1 ∧
    ((∃ y ∈ s.records t, y.state = .filling) ↔ (s.track t).state = .sweeping ∨ (s.track t).state = .stopping)

/-- No two sweeps of a track share a page, and a map entry carries the keep mark exactly while a kept sweep has its page
(R69, R86). -/
def KeepMarksInOrder (s : State) : Prop :=
  ∀ t,
    (s.records t).Pairwise (fun a b => a.seq < b.seq) ∧
    ((s.track t).spent = false → ∀ y ∈ s.records t, y.seq < (s.track t).seqCounter) ∧
    (s.records t).Pairwise (fun a b => ∀ p, ¬ (a.occupies p = true ∧ b.occupies p = true)) ∧
    (∀ l e, tget (s.map t) l = some e → (e.keep = true ↔ ∃ y ∈ s.records t, y.kept = true ∧ y.occupies l = true))

/-- A marker unit whose settings are in range and whose counts, estimate and window fit its state (R2, R5, R8 to R17). -/
def MarkerUnit.inOrder (m : MarkerUnit) : Prop :=
  m.settings.minWidth ≤ 255 ∧ 1 ≤ m.settings.tolerance ∧ m.settings.tolerance ≤ 16 ∧ 1 ≤ m.settings.coastLimit ∧
  m.settings.coastLimit ≤ 15 ∧
  (m.settings.polarityMode = .rising → m.detected = some .rising) ∧
  (m.settings.polarityMode = .falling → m.detected = some .falling) ∧
  (m.pulse ≠ none → m.detected ≠ none) ∧
  (m.state = .noSignal →
    m.count = 0 ∧ m.coast = 0 ∧ m.estimate = 0 ∧ m.reference = none ∧ m.window = none ∧ m.closeHeld = false) ∧
  (m.state = .acquiring →
    m.detected ≠ none ∧ m.count ≤ 3 ∧ m.coast = 0 ∧ m.window = none ∧ m.closeHeld = false ∧
    (m.reference = none → m.count = 0) ∧ (m.count ≠ 0 → 40000 ≤ m.estimate ∧ m.estimate ≤ 400000000)) ∧
  (m.state = .locked ∨ m.state = .coasting →
    m.count = 4 ∧ m.reference = none ∧ 40000 ≤ m.estimate ∧ m.estimate ≤ 400000000 ∧
    ∃ w, m.window = some w ∧ m.lastMarker = some w.start ∧ 40000 ≤ w.openAfter ∧ w.openAfter ≤ w.closeAfter ∧
      w.closeAfter ≤ 400000000) ∧
  (m.state = .locked → m.coast = 0) ∧ (m.state = .coasting → 1 ≤ m.coast ∧ m.coast ≤ m.settings.coastLimit)

/-- Both marker units are in order. -/
def MarkersInOrder (s : State) : Prop := s.markerA.inOrder ∧ s.markerB.inOrder

end Sys2Proof.Machine
end

