-- ==== Sys2Proof/Certificates/Slice0/Obligations.lean ====
section
/-!
DEFINITION. The statements for the provers.
-/

open Sys2Proof Sys2Proof.Machine

/-! ## The step, resets, the RESET line -/

/-- A step takes the command at the front of the queue and answers what that command answers. With no command waiting,
which is the model's choice (log 1), one reference count passes, unless the RESET line is held (log 6). -/
def Obligations.StepRunsFrontCommand : Prop :=
  (∀ (c : Instr) (rest : List Instr) (s : State),
    s.pending = c :: rest → step s = exec c (s.setPending rest)) ∧
  (∀ s : State, s.pending = [] →
    (s.resetHeld = true → step s = .next s) ∧
    (s.resetHeld = false →
      step s = .next (((s.setTime (s.time + 1)).setRefreshElapsed (s.refreshElapsed + 1)).setMem
        { s.mem with
          autoTimer :=
            match s.mem.autoTimer with
            | .stopped => .stopped
            | .running e => .running (e + 1)
            | .expired => .expired })))

/-- No command stops the part, and none touches the commands that wait. -/
def Obligations.EveryCommandAnswersNext : Prop :=
  ∀ (c : Instr) (s : State), ∃ t, exec c s = .next t ∧ t.pending = s.pending

/-- Every item of the reset tables after power-on reset. The items the tables do not list are the model's: no pulse and
no held close (log 13's window state), the next posting order 0 (log 15), and memories with nothing listed (logs 7
and 8). -/
def Obligations.ResetStateHoldsTableValues : Prop :=
  State.reset.time = 0 ∧ State.reset.refreshElapsed = 0 ∧
  -- Table 1.4
  (∀ u, State.reset.marker u =
    { settings := { polarityMode := .auto, minWidth := 10, tolerance := 8, coastLimit := 3 },
      state := .noSignal, detected := none, measurement := { highs := [], lows := [], levelStart := none },
      reference := none, estimate := 0, count := 0, coast := 0, lastMarker := none, window := none, closeHeld := false,
      early := false, pulse := none }) ∧
  -- Tables 2.1, 2.2 and 3.1, and R40
  (∀ (t : Track) (p : ParamSet),
    p =
      { markerSelect := .auto, base := 0, windowSize := 2048, length := 1024, phase := 0, gain := 1024,
        offsetMode := .manual, manualOffset := 0, placement := 0, duration := 16, target := 0, interval := .every8 } →
    State.reset.track t =
      { staged := p, pendingSet := none, active := p, generation := 0, offsetInUse := 0, intervalCount := 0,
        updateRequest := false, state := .idle, selected := none, prevMarker := none, armCount := 0, sweepsDone := 0,
        seqCounter := 0, spent := false, schedule := none, fifo := [], cursor := none } ∧
    State.reset.lane t = { flag := none, baseSum := 0, baseCount := 0 }) ∧
  -- maps, ownership, indexes (files 04 and 05)
  (∀ t, State.reset.map t = [] ∧ State.reset.records t = [] ∧ State.reset.writePosition t = 0) ∧
  State.reset.owners = [] ∧ State.reset.dram = [] ∧ State.reset.dramCheck = [] ∧
  -- Table 6.4
  State.reset.mem =
    { banks := Vector.replicate 8 { row := none, step := .none }, granted := [], dataPath := none, balance := 0,
      refresh := .none, state := .running, reentry := false, heldWake := false, autoEnable := false, autoDelay := 50,
      autoTimer := .stopped, urgentPointer := 0, normalPointer := 0 } ∧
  -- Table 7.7
  State.reset.check =
    { mode := .notify, lastCorrected := none, firstUncorrectable := none, more := false, inject := none } ∧
  -- Table 8.4
  State.reset.readout = { queue := [], ended := [] } ∧
  -- Table 9.3
  (∀ t, State.reset.averager t =
    { region := none, k := 8, includeCoasted := false, reason := .none, current := none, blockCount := 0,
      blockLast := none, publication := none, published := false, pubNumber := 0, pubLast := none }) ∧
  State.reset.averagerRam = [] ∧
  -- Tables 11.1 and 11.3
  State.reset.notices.threshold = 1 ∧ State.reset.notices.entries = [] ∧ State.reset.notices.nextOrder = 0 ∧
  (∀ src : Source, State.reset.notices.level src =
    if 8 ≤ src.val ∧ src.val < 16 then 4 else if src.val = 26 then 7 else if src.val = 29 then 6 else 0) ∧
  -- Table 10.6
  State.reset.link =
    { receiver := .hunt, buffer := [], queue := [], inHand := none, replies := [], outgoing := none,
      owed := some .powerOn }

/-- POWER_ON_RESET: every block at its reset value, the start-up frame owed with cause POWER_ON. RESET_LINE_ASSERTED
holds the part at reset values with nothing owed, and RESET_LINE_RELEASED starts it from them with RESTARTED owed, cause
RESET_LINE. The model's: the counted loss of the memories' contents (log 7), the RESET line as an input that a power-on
leaves alone, an assertion while held and a release while not held without effect, and no time and no event while it is
held (logs 2 and 6). -/
def Obligations.ResetsRestoreAndHold : Prop :=
  ∀ s : State,
    exec .powerOnReset s =
      .next (((State.reset.setPending s.pending).setEpoch (s.epoch + 1)).setResetHeld s.resetHeld) ∧
    (s.resetHeld = false → exec .resetLineAsserted s =
      .next ((((State.reset.setPending s.pending).setEpoch (s.epoch + 1)).setResetHeld true).setLink
        { receiver := .hunt, buffer := [], queue := [], inHand := none, replies := [], outgoing := none,
          owed := none })) ∧
    (s.resetHeld = true → exec .resetLineReleased s =
      .next ((((State.reset.setPending s.pending).setEpoch (s.epoch + 1)).setResetHeld false).setLink
        { receiver := .hunt, buffer := [], queue := [], inHand := none, replies := [], outgoing := none,
          owed := some .resetLine })) ∧
    (s.resetHeld = false → exec .resetLineReleased s = .next s) ∧
    (s.resetHeld = true → ∀ c : Instr, c ≠ .powerOnReset → c ≠ .resetLineReleased → exec c s = .next s)

/-! ## The inbound pair -/

/-- The receiver on a start symbol, a data byte, an idle symbol and a symbol that cannot be decoded; the checks at an end
symbol in their order; and the good request: queued, or answered with FULL. -/
def Obligations.ReceiverTakesSymbols : Prop :=
  (∀ (dt : Nat) (b : Byte) (s : State), s.resetHeld = false →
    -- HUNT
    (s.link.receiver = .hunt →
      exec (.inboundStartSymbol dt) s =
          .next ((elapse dt s).setLink { s.link with receiver := .header, buffer := [] }) ∧
      exec (.inboundDataByte dt b) s = .next (elapse dt s) ∧
      exec (.inboundFrameBroken dt .idle) s = .next (elapse dt s) ∧
      exec (.inboundFrameBroken dt .undecodable) s = .next (elapse dt s)) ∧
    -- HEADER or BODY: a start symbol begins a new frame; an idle or undecodable symbol ends the frame
    (s.link.receiver ≠ .hunt →
      exec (.inboundStartSymbol dt) s =
          .next (post Source.linkError (.linkError .endMissing (s.time + BitVec.ofNat 48 dt))
            ((elapse dt s).setLink { s.link with receiver := .header, buffer := [] })) ∧
      exec (.inboundFrameBroken dt .idle) s =
          .next (post Source.linkError (.linkError .endMissing (s.time + BitVec.ofNat 48 dt))
            ((elapse dt s).setLink { s.link with receiver := .hunt, buffer := [] })) ∧
      exec (.inboundFrameBroken dt .undecodable) s = exec (.inboundFrameBroken dt .idle) s) ∧
    -- HEADER: a data byte joins the buffer; the eighth is judged
    (s.link.receiver = .header → s.link.buffer.length < 7 →
      exec (.inboundDataByte dt b) s =
        .next ((elapse dt s).setLink { s.link with buffer := s.link.buffer ++ [b] })) ∧
    (s.link.receiver = .header → s.link.buffer.length = 7 → 1040 < payloadLength (s.link.buffer ++ [b]) →
      exec (.inboundDataByte dt b) s =
        .next (post Source.linkError (.linkError .length (s.time + BitVec.ofNat 48 dt))
          ((elapse dt s).setLink { s.link with receiver := .hunt, buffer := [] }))) ∧
    (s.link.receiver = .header → s.link.buffer.length = 7 → payloadLength (s.link.buffer ++ [b]) ≤ 1040 →
      exec (.inboundDataByte dt b) s =
        .next ((elapse dt s).setLink { s.link with receiver := .body, buffer := s.link.buffer ++ [b] })) ∧
    -- BODY: bytes up to 8 + L + 2
    (s.link.receiver = .body → s.link.buffer.length < 8 + payloadLength s.link.buffer + 2 →
      exec (.inboundDataByte dt b) s =
        .next ((elapse dt s).setLink { s.link with buffer := s.link.buffer ++ [b] })) ∧
    (s.link.receiver = .body → 8 + payloadLength s.link.buffer + 2 ≤ s.link.buffer.length →
      exec (.inboundDataByte dt b) s =
        .next (post Source.linkError (.linkError .length (s.time + BitVec.ofNat 48 dt))
          ((elapse dt s).setLink { s.link with receiver := .hunt, buffer := [] })))) ∧
  (∀ (dt : Nat) (s : State), s.resetHeld = false →
    (s.link.receiver = .hunt → exec (.inboundFrameEnd dt) s = .next (elapse dt s)) ∧
    (s.link.receiver = .header → exec (.inboundFrameEnd dt) s =
      .next (post Source.linkError (.linkError .length (s.time + BitVec.ofNat 48 dt))
        ((elapse dt s).setLink { s.link with receiver := .hunt, buffer := [] }))) ∧
    (s.link.receiver = .body →
      (s.link.buffer.length < 8 + payloadLength s.link.buffer + 2 → exec (.inboundFrameEnd dt) s =
        .next (post Source.linkError (.linkError .length (s.time + BitVec.ofNat 48 dt))
          ((elapse dt s).setLink { s.link with receiver := .hunt, buffer := [] }))) ∧
      (8 + payloadLength s.link.buffer + 2 ≤ s.link.buffer.length →
        ((crc (s.link.buffer.take (8 + payloadLength s.link.buffer))).toNat ≠
            fieldAt s.link.buffer (8 + payloadLength s.link.buffer) →
          exec (.inboundFrameEnd dt) s =
            .next (post Source.linkError (.linkError .crc (s.time + BitVec.ofNat 48 dt))
              ((elapse dt s).setLink { s.link with receiver := .hunt, buffer := [] }))) ∧
        ((crc (s.link.buffer.take (8 + payloadLength s.link.buffer))).toNat =
            fieldAt s.link.buffer (8 + payloadLength s.link.buffer) →
          (fieldAt s.link.buffer 0 ≠ 1 → exec (.inboundFrameEnd dt) s =
            .next (post Source.linkError (.linkError .notRequest (s.time + BitVec.ofNat 48 dt))
              ((elapse dt s).setLink { s.link with receiver := .hunt, buffer := [] }))) ∧
          (fieldAt s.link.buffer 0 = 1 → s.link.queue.length < 4 → exec (.inboundFrameEnd dt) s =
            .next ((elapse dt s).setLink { s.link with
              receiver := .hunt, buffer := [],
              queue := s.link.queue ++
                [{ code := fieldAt s.link.buffer 2, tag := fieldAt s.link.buffer 4,
                   payload := (s.link.buffer.drop 8).take (payloadLength s.link.buffer) }] })) ∧
          (fieldAt s.link.buffer 0 = 1 → 4 ≤ s.link.queue.length → exec (.inboundFrameEnd dt) s =
            .next ((elapse dt s).setLink { s.link with
              receiver := .hunt, buffer := [],
              replies := s.link.replies ++
                [{ own := false, code := fieldAt s.link.buffer 2, tag := fieldAt s.link.buffer 4,
                   payload := [3] }] }))))))

/-- Every request frame as section 10.1 lays it out reaches the request queue with its code, tag and payload, whatever
their values. -/
def Obligations.SentRequestFrameIsQueued : Prop :=
  ∀ (dt : Nat) (f : Frame) (s : State),
    f.ftype = .request → f.code < 65536 → f.tag < 65536 → f.payload.length ≤ 1040 →
    s.resetHeld = false → s.link.receiver = .hunt → s.link.queue.length < 4 →
    ∃ t, runCommands (frameCommands dt f) s = .next t ∧ t.notices = s.notices ∧
      t.link = { s.link with
        receiver := .hunt, buffer := [],
        queue := s.link.queue ++ [{ code := f.code, tag := f.tag, payload := f.payload }] }

/-! ## Requests in general -/

/-- Every request the command unit can take leaves the queue and is completed with one reply that carries its code and
tag, but STANDBY and WAKE, which may stay in hand. -/
def Obligations.EveryRequestIsTakenAndAnswered : Prop :=
  ∀ (dt : Nat) (order : List Track) (s : State) (r : RawRequest) (rest : List RawRequest) (q : Request),
    Serves s r rest q →
    ∃ t, exec (q.command dt order) s = .next t ∧ t.link.queue = rest ∧
      ((∃ st body, t.link.replies =
          s.link.replies ++ [{ own := true, code := r.code, tag := r.tag, payload := Status.code st :: body }] ∧
          t.link.inHand = none) ∨
        ((q = .standby ∨ q = .wake) ∧ t.link.replies = s.link.replies ∧ t.link.inHand = some r))

/-- A request answered with a status other than OK changes no state of any block: nothing but the reply, the head of
the queue and the time. The one exception is LOAD_MAP. -/
def Obligations.RefusedRequestChangesNothing : Prop :=
  ∀ (dt : Nat) (order : List Track) (s t : State) (r : RawRequest) (rest : List RawRequest) (q : Request) (st : Status)
    (body : List Byte),
    Serves s r rest q → (∀ n first items, q ≠ .loadMap n first items) → exec (q.command dt order) s = .next t →
    st ≠ .ok →
    t.link.replies =
      s.link.replies ++ [{ own := true, code := r.code, tag := r.tag, payload := Status.code st :: body }] →
    body = [] ∧ t = answer r st (handed dt s rest)

/-- A request whose track field is outside 0..7 is answered with BAD_FIELD; LOAD_MAP's reply adds its applied count 0.
For UPDATE_OFFSET and the few other kinds whose rules do not say so, the BAD_FIELD is the model's reading (log 22). -/
def Obligations.OutOfRangeTrackIsRefused : Prop :=
  ∀ (dt : Nat) (order : List Track) (s : State) (r : RawRequest) (rest : List RawRequest) (q : Request) (n : Nat),
    Serves s r rest q → q.trackField = some n → 8 ≤ n →
    exec (q.command dt order) s =
      .next (addReply true r .badField
        (match q with
         | .loadMap _ _ _ => [0, 0]
         | _ => [])
        (handed dt s rest))

/-- A code and payload give exactly the request that Table 12.3 spells with them. An unknown kind, and a payload that does
not fit its kind, is answered with MALFORMED, with the applied count 0 behind it for a LOAD_MAP, and reaches no block. -/
def Obligations.MalformedRequestIsAnswered : Prop :=
  (∀ (r : RawRequest) (q : Request), parseRequest r = some q ↔ Spells r.code r.payload q) ∧
  (∀ (dt : Nat) (s : State) (r : RawRequest) (rest : List RawRequest),
    s.resetHeld = false → s.link.inHand = none → ownWaiting s < 4 → s.link.queue = r :: rest →
    parseRequest r = none →
    exec (.malformed dt) s =
      .next (addReply true r .malformed (if r.code = 0x20 then [0, 0] else []) (handed dt s rest))) ∧
  (∀ r : RawRequest,
    r.code ∉ [0x01, 0x02, 0x10, 0x11, 0x12, 0x13, 0x14, 0x15, 0x16, 0x17, 0x20, 0x21, 0x22, 0x30, 0x31, 0x32, 0x33,
      0x34, 0x40, 0x41, 0x42, 0x43, 0x50, 0x51, 0x52, 0x53, 0x60, 0x61, 0x62, 0x70, 0x71, 0x72, 0x80, 0x81, 0x82, 0x83,
      0x90, 0x91, 0x92] →
    parseRequest r = none)

/-! ## The outbound pair and the link's own requests -/

/-- The order of the outbound arbiter, and what choosing a frame removes. With no RESTARTED frame, no reply and no notice
at or above the threshold, the readout engine's frames go out: final frames of ended reads first, then the active read's
frames in frame order, each once every one of its samples has been taken; a sent frame raises the delivered count, and the
last one goes out as the final frame, DONE, and the read leaves the queue. The reactions that end the command are
`follow` (log 17). -/
def Obligations.OutboundPairChoosesInOrder : Prop :=
  ∀ (dt : Nat) (s : State), s.resetHeld = false →
    (∀ cause, s.link.owed = some cause →
      exec (.outboundPairFree dt) s = .next (follow ((elapse dt s).setLink { s.link with
        owed := none, outgoing := some (restartedFrame cause) }))) ∧
    (s.link.owed = none →
      (∀ r rest, s.link.replies = r :: rest →
        exec (.outboundPairFree dt) s = .next (follow ((elapse dt s).setLink { s.link with
          replies := rest,
          outgoing := some { ftype := .reply, code := r.code, tag := r.tag, payload := r.payload } }))) ∧
      (s.link.replies = [] →
        (∀ e rest, s.notices.entries = e :: rest → s.notices.threshold ≤ s.notices.level e.source →
          exec (.outboundPairFree dt) s =
            .next (follow (((elapse dt s).setNotices { s.notices with entries := rest }).setLink { s.link with
              outgoing := some { ftype := .notice, code := e.source.val, tag := 0,
                                 payload := flagByte e.again :: e.occurrence.bytes } }))) ∧
        ((∀ e ∈ s.notices.entries.head?, s.notices.level e.source < s.notices.threshold) →
          (∀ x rest, s.readout.ended = x :: rest →
            exec (.outboundPairFree dt) s =
              .next (follow (((elapse dt s).setReadout { s.readout with ended := rest }).setLink { s.link with
                outgoing := some x.frame }))) ∧
          (s.readout.ended = [] → s.readout.queue = [] →
            exec (.outboundPairFree dt) s =
              .next (follow ((elapse dt s).setLink { s.link with outgoing := none }))) ∧
          (∀ (r : Read) (rest : List Read) (j first size : Nat), s.readout.ended = [] → s.readout.queue = r :: rest →
            j = r.delivered / 256 → first = r.firstPos + 256 * j → size = min 256 (r.count - 256 * j) →
            ((∃ i, i < size ∧ tget r.samples (first + i) = none) →
              exec (.outboundPairFree dt) s =
                .next (follow ((elapse dt s).setLink { s.link with outgoing := none }))) ∧
            (∀ samples : List Sample, samples.length = size →
              (∀ i, i < size → tget r.samples (first + i) = samples[i]?) →
              (r.count ≤ 256 * j + 256 →
                exec (.outboundPairFree dt) s =
                  .next (follow (((elapse dt s).setReadout { s.readout with queue := rest }).setLink { s.link with
                    outgoing := some (dataFrame r first samples true (r.delivered + size)) }))) ∧
              (256 * j + 256 < r.count →
                exec (.outboundPairFree dt) s =
                  .next (follow (((elapse dt s).setReadout { s.readout with
                      queue :=
                        { r with
                          delivered := r.delivered + size,
                          samples := r.samples.filter (fun c => first + 256 ≤ c.1) } :: rest }).setLink { s.link with
                    outgoing := some (dataFrame r first samples false 0) }))))))))

/-- The bytes of what the part sends of its own: the RESTARTED frame, the final frame of a read that ended other than
DONE, a data frame with its samples in the read's byte order, a sweep record with its flags byte, and every occurrence
payload, with the codes of Tables 12.5 and 12.6. -/
def Obligations.FramesAndRecordsAsSent : Prop :=
  (∀ c : RestartCause, restartedFrame c =
    { ftype := .notice, code := 31, tag := 0,
      payload := [0, if c = .powerOn then 0 else 1, 0xD4, 0x12, 1] }) ∧
  (∀ e : EndFrame, e.frame =
    { ftype := .data, code := if e.mean then 0x61 else 0x60, tag := e.tag,
      payload := leBytes 2 e.position ++ [0, 0, 0, 0, 1,
        (match e.status with
         | .done => 0
         | .overtaken => 1
         | .aborted => 2
         | .reset => 3)] ++ leBytes 2 e.delivered }) ∧
  (∀ (r : Read) (first : Nat) (samples : List Sample) (final : Bool) (delivered : Nat),
    (dataFrame r first samples final delivered).ftype = .data ∧
    (dataFrame r first samples final delivered).tag = r.tag ∧
    (dataFrame r first samples final delivered).code = (if r.kind.isMean then 0x61 else 0x60) ∧
    (dataFrame r first samples final delivered).payload =
      leBytes 2 first ++ leBytes 2 samples.length ++ leBytes 2 ((samples.filter (fun x => x.damaged)).length) ++
        (if final then [1, 0] ++ leBytes 2 delivered else [0, 0, 0, 0]) ++
        samples.flatMap (fun x =>
          match r.order with
          | .lowFirst => [BitVec.ofInt 8 x.value, BitVec.ofInt 8 (x.value / 256)]
          | .highFirst => [BitVec.ofInt 8 (x.value / 256), BitVec.ofInt 8 x.value])) ∧
  (∀ y : SweepRecord,
    recordBytes y =
      leBytes 4 y.seq ++ leBytes 6 y.markerTime.toNat ++ leBytes 6 y.period ++ leBytes 2 y.firstPage ++
        leBytes 2 y.length ++ leBytes 2 y.generation.toNat ++ leInt 2 y.offsetUsed ++
        [(match y.state with
          | .filling => 0
          | .draining => 1
          | .complete => 2), if y.unit = .A then 0 else 1, BitVec.ofNat 8 y.flags] ++
        (match y.losses with
         | none => [0, 0, 0, 0]
         | some l => leBytes 2 l.count ++ leBytes 2 l.first) ∧
    (recordBytes y).length = 31 ∧ y.flags < 256 ∧
    (y.flags.testBit 0 = y.coasted ∧ y.flags.testBit 1 = y.short ∧ y.flags.testBit 2 = y.losses.isSome ∧
      y.flags.testBit 3 = y.clipped ∧ y.flags.testBit 4 = y.offsetRail ∧ y.flags.testBit 5 = y.kept ∧
      y.flags.testBit 6 = y.averaged ∧ y.flags.testBit 7 = y.damaged)) ∧
  (∀ w : WordFault, wordFaultBytes w =
    leBytes 2 w.page.toNat ++ [BitVec.ofNat 8 w.offset] ++
      (match w.code with
       | .clean => [0, 0]
       | .data k => [1, BitVec.ofNat 8 k]
       | .check k => [2, BitVec.ofNat 8 k]
       | .multiple => [3, 0]
       | .allZero => [4, 0]
       | .allOnes => [5, 0]) ++ [BitVec.ofNat 8 w.track.val] ++ leBytes 4 w.seq) ∧
  (∀ w : WordFault, memoryFaultBytes (.uncorrectable w) = 0 :: wordFaultBytes w ++ [0, 0, 0, 0, 0, 0]) ∧
  (∀ t : Time, memoryFaultBytes (.refreshOverrun t) = [1, 0, 0, 0, 0, 0, 0, 0, 0, 0, 0] ++ leBytes 6 t.toNat) ∧
  (∀ seq flags, (Occurrence.sweepDone seq flags).bytes = leBytes 4 seq ++ [BitVec.ofNat 8 flags]) ∧
  (∀ reason done counter, (Occurrence.trackStopped reason done counter).bytes =
    (match reason with
     | .countDone => [0, 0]
     | .stopped => [1, 0]
     | .aborted => [2, 0]
     | .halted .mapHole => [3, 0]
     | .halted .noRoom => [3, 1]
     | .halted .sequenceExhausted => [3, 2]) ++ leBytes 2 done ++ leBytes 4 counter) ∧
  (∀ t number last k, (Occurrence.meanReady t number last k).bytes =
    [BitVec.ofNat 8 t.val] ++ leBytes 2 number.toNat ++ leBytes 4 last ++ leBytes 2 k) ∧
  (∀ t e, (Occurrence.markerLocked t e).bytes = [0, 0] ++ leBytes 6 t.toNat ++ leBytes 4 e) ∧
  (∀ cause t e, (Occurrence.markerLost cause t e).bytes =
    [1, if cause = .coastLimit then 0 else 1] ++ leBytes 6 t.toNat ++ leBytes 4 e) ∧
  (∀ f, (Occurrence.memoryFault f).bytes = memoryFaultBytes f) ∧
  (∀ w, (Occurrence.corrected w).bytes = wordFaultBytes w) ∧
  (∀ change t b, (Occurrence.standbyChange change t b).bytes =
    (match change with
     | .standby .request => [0, 0]
     | .standby .auto => [0, 1]
     | .running .burst => [1, 2]
     | .running .wake => [1, 3]) ++ leBytes 6 t.toNat ++ leInt 1 b) ∧
  (∀ kind t, (Occurrence.linkError kind t).bytes =
    (match kind with
     | .length => 0
     | .crc => 1
     | .endMissing => 2
     | .notRequest => 3) :: leBytes 6 t.toNat)

/-- QUERY_IDENTITY and READ_CLOCK: the reply, and nothing else. -/
def Obligations.IdentityAndClockAreReported : Prop :=
  ∀ (dt : Nat) (s : State) (r : RawRequest) (rest : List RawRequest),
    (Serves s r rest .queryIdentity → exec (.queryIdentity dt) s =
      .next (addReply true r .ok
        ([0xD4, 0x12, 1] ++ [8, 0, 0, 0] ++ [8, 0, 0, 0] ++ [2, 0, 0, 0] ++ [0, 0, 1, 0] ++ [0, 8, 0, 0] ++ [0, 1, 0, 0]
          ++ [32, 0, 0, 0] ++ [0, 1, 0, 0] ++ [4, 0, 0, 0] ++ [4, 0, 0, 0] ++ [0, 64, 0, 0] ++ [16, 4, 0, 0]
          ++ [0, 16, 0, 0])
        (handed dt s rest))) ∧
    (Serves s r rest .readClock → exec (.readClock dt) s =
      .next (addReply true r .ok (leBytes 6 (s.time + BitVec.ofNat 48 dt).toNat) (handed dt s rest)))

/-- RESET_PART on every block: the marker units, tracks, lanes, reads, averagers with their sums, inject request and
notices it returns; the FILLING sweeps it removes with their staging and keep marks; and the settings, sets, sequence
counters, DRAINING and finished records with their staging, maps, ownership, write positions, DRAM and memory controller
it keeps. A burst counts as its writer's from then on only for a DRAINING sweep (Table 3.1); that the
writer may then ask again while the burst completes is the model's reading (log 12). -/
def Obligations.ResetPartActsOnEveryBlock : Prop :=
  ∀ (dt : Nat) (s : State) (r : RawRequest) (rest : List RawRequest), Serves s r rest .resetPart →
    ∃ t, exec (.resetPart dt) s = .next t ∧
      -- Table 1.4
      (∀ u, t.marker u =
        { s.marker u with
          state := .noSignal,
          detected :=
            (match (s.marker u).settings.polarityMode with
             | .auto => none
             | .rising => some .rising
             | .falling => some .falling),
          measurement := { highs := [], lows := [], levelStart := none }, reference := none, estimate := 0, count := 0,
          coast := 0, window := none, closeHeld := false, early := false, pulse := none }) ∧
      -- Tables 2.2 and 3.1: the FIFO and the cursor lose what is the FILLING sweep's alone
      (∀ (k : Track) (fifo : List FifoEntry) (cursor : Option Cursor),
        (fillingRecord s k = none → fifo = (s.track k).fifo ∧ cursor = (s.track k).cursor) →
        (∀ f, fillingRecord s k = some f →
          fifo = (s.track k).fifo.filter (fun e => e.seq ≠ f.seq) ∧
          cursor = (s.track k).cursor.filter (fun c => c.seq ≠ f.seq)) →
        t.track k =
          { s.track k with
            pendingSet := none, intervalCount := 0, updateRequest := false, state := .idle, selected := none,
            prevMarker := none, armCount := 0, sweepsDone := 0, schedule := none, fifo := fifo, cursor := cursor } ∧
        t.lane k = { flag := none, baseSum := 0, baseCount := 0 }) ∧
      -- indexes and maps
      (∀ k, fillingRecord s k = none → t.records k = s.records k ∧ t.map k = s.map k) ∧
      (∀ k f, fillingRecord s k = some f → t.records k = (s.records k).filter (fun y => y.seq ≠ f.seq) ∧
        t.map k = (if f.kept then (s.map k).map (fun c =>
          if f.firstPage ≤ c.1 ∧ c.1 < f.firstPage + (f.length + 511) / 512 then
            (c.1, { c.2 with keep := false }) else c) else s.map k)) ∧
      t.owners = s.owners ∧ t.writePos = s.writePos ∧ t.dram = s.dram ∧ t.dramCheck = s.dramCheck ∧
      -- the memory controller goes on; what its bursts are for may have ended
      t.mem.banks = s.mem.banks ∧ t.mem.dataPath = s.mem.dataPath ∧ t.mem.balance = s.mem.balance ∧
      t.mem.refresh = s.mem.refresh ∧ t.mem.reentry = s.mem.reentry ∧ t.mem.heldWake = s.mem.heldWake ∧
      t.mem.autoEnable = s.mem.autoEnable ∧ t.mem.autoDelay = s.mem.autoDelay ∧
      t.mem.urgentPointer = s.mem.urgentPointer ∧ t.mem.normalPointer = s.mem.normalPointer ∧
      (s.mem.state ≠ .standby → t.mem.state = s.mem.state) ∧
      t.mem.granted = s.mem.granted.map (fun b =>
        if b.isRead then (if s.readout.queue = [] then b else { b with heeded := false })
        else if (fillingRecord s b.track).any (fun f => f.seq = b.seq) then { b with heeded := false, attached := false }
        else if (s.records b.track).any (fun y => y.seq = b.seq && y.state = .draining) then b
        else { b with attached := false }) ∧
      -- reads
      t.readout.queue = [] ∧
      t.readout.ended = s.readout.ended ++ s.readout.queue.map (fun x =>
        { tag := x.tag, mean := x.kind.isMean, position := x.firstPos + x.delivered, status := .reset,
          delivered := x.delivered }) ∧
      -- averagers: every sum of an enabled one is 0, every other word stays
      (∀ k, t.averager k =
        { s.averager k with
          current := none, blockCount := 0, blockLast := none, publication := none, published := false,
          pubLast := none }) ∧
      (∀ k g a, (s.averager k).region = some g → g.base ≤ a → a < g.base + g.length → t.ramWord a = 0) ∧
      (∀ a, (∀ k g, (s.averager k).region = some g → a < g.base ∨ g.base + g.length ≤ a) →
        t.ramWord a = s.ramWord a) ∧
      -- check codes, notices, link
      t.check = { s.check with inject := none } ∧
      t.notices = { s.notices with entries := [] } ∧
      t.link = { s.link with
        queue := rest,
        replies := s.link.replies ++ [{ own := true, code := r.code, tag := r.tag, payload := [0] }] } ∧
      t.time = s.time + BitVec.ofNat 48 dt ∧ t.refreshElapsed = s.refreshElapsed + dt

/-! ## Marker units -/

/-- SET_MARKER: refused whole on a bad unit or field; accepted, it stores the settings, returns the unit to NO_SIGNAL,
announces the loss and posts unless the unit was in NO_SIGNAL. The order in which tracks take the announcement is the
command's (log 4). -/
def Obligations.SetMarkerRestartsAcquisition : Prop :=
  ∀ (dt : Nat) (order : List Track) (s : State) (r : RawRequest) (rest : List RawRequest) (n : Nat)
    (items : List (Nat × Int)),
    Serves s r rest (.setMarker n items) →
    (2 ≤ n → exec (.setMarker dt order) s = .next (addReply true r .badField [] (handed dt s rest))) ∧
    (∀ u, n = (unitByte u).toNat →
      ((s.marker u).settings.setFields items = none →
        exec (.setMarker dt order) s = .next (addReply true r .badField [] (handed dt s rest))) ∧
      (∀ x, (s.marker u).settings.setFields items = some x →
        ∃ y, y = announceLoss order u ((handed dt s rest).putMarker u
            { settings := x, state := .noSignal,
              detected :=
                (match x.polarityMode with
                 | .auto => none
                 | .rising => some .rising
                 | .falling => some .falling),
              measurement := { highs := [], lows := [], levelStart := none }, reference := none, estimate := 0,
              count := 0, coast := 0, lastMarker := (s.marker u).lastMarker, window := none, closeHeld := false,
              early := false, pulse := none }) ∧
          exec (.setMarker dt order) s =
            .next (follow (addReply true r .ok []
              (if (s.marker u).state = .noSignal then y
               else post (Source.marker u)
                 (.markerLost .setMarker (s.time + BitVec.ofNat 48 dt) (s.marker u).estimate) y)))))

/-- Pulses in NO_SIGNAL and ACQUIRING: observed from their active edge once the polarity is known, the rising edge under
RISING and the falling edge under FALLING, to the opposite edge; a glitch changes nothing; a qualified one acts at its
trailing edge by the cases of R8 and R9. The pulse that completes the fourth agreeing period locks the unit: count 4, the
first window of R11, and in this order the lock announcement, the posting and the first real marker event. That an edge of
the other direction, an active edge within a pulse and a trailing edge without one only pass time is the model's choice
(log 2), as is that an edge which decides the polarity is given as LEVEL_COMPLETE alone (log 24). The order among tracks
is the command's, the model's choice (log 4); what each track does is `takeLock` and `takeEvent`. -/
def Obligations.PulsesAcquireAndLock : Prop :=
  (∀ (dt : Nat) (u : MarkerId) (e : Edge) (s : State), s.resetHeld = false →
    ((s.marker u).detected = none ∨ (s.marker u).pulse ≠ none ∨
        (s.marker u).detected = some .rising ∧ e = .falling ∨ (s.marker u).detected = some .falling ∧ e = .rising →
      exec (.pulseActiveEdge dt ⟨u, e⟩) s = .next (elapse dt s)) ∧
    ((s.marker u).detected = some .rising ∧ e = .rising ∨ (s.marker u).detected = some .falling ∧ e = .falling →
      (s.marker u).pulse = none →
      exec (.pulseActiveEdge dt ⟨u, e⟩) s =
        .next ((elapse dt s).putMarker u { s.marker u with pulse := some (s.time + BitVec.ofNat 48 dt) }))) ∧
  (∀ (dt : Nat) (u : MarkerId) (e : Edge) (order : List Track) (s : State), s.resetHeld = false →
    ((s.marker u).pulse = none ∨ (s.marker u).detected = none ∨
        (s.marker u).detected = some .rising ∧ e = .rising ∨ (s.marker u).detected = some .falling ∧ e = .falling) →
    exec (.pulseTrailingEdge dt ⟨u, e⟩ order) s = .next (follow (elapse dt s))) ∧
  (∀ (dt : Nat) (u : MarkerId) (e : Edge) (order : List Track) (s : State) (p : Time),
    s.resetHeld = false → (s.marker u).pulse = some p →
    ((s.marker u).detected = some .rising ∧ e = .falling ∨ (s.marker u).detected = some .falling ∧ e = .rising) →
    (elapsed p (s.time + BitVec.ofNat 48 dt) < (s.marker u).settings.minWidth * 16 → (s.marker u).closeHeld = false →
      exec (.pulseTrailingEdge dt ⟨u, e⟩ order) s =
        .next (follow ((elapse dt s).putMarker u { s.marker u with pulse := none }))) ∧
    ((s.marker u).settings.minWidth * 16 ≤ elapsed p (s.time + BitVec.ofNat 48 dt) →
      ((s.marker u).state = .noSignal →
        exec (.pulseTrailingEdge dt ⟨u, e⟩ order) s =
          .next (follow ((elapse dt s).putMarker u
            { s.marker u with pulse := none, state := .acquiring, reference := some p, count := 0 }))) ∧
      ((s.marker u).state = .acquiring →
        ((s.marker u).reference = none →
          exec (.pulseTrailingEdge dt ⟨u, e⟩ order) s =
            .next (follow ((elapse dt s).putMarker u { s.marker u with pulse := none, reference := some p }))) ∧
        (∀ ref, (s.marker u).reference = some ref →
          (elapsed ref p < 40000 ∨ 400000000 < elapsed ref p →
            exec (.pulseTrailingEdge dt ⟨u, e⟩ order) s =
              .next (follow ((elapse dt s).putMarker u
                { s.marker u with pulse := none, reference := some p, count := 0 }))) ∧
          (40000 ≤ elapsed ref p → elapsed ref p ≤ 400000000 →
            ((s.marker u).count = 0 ∨
              (s.marker u).estimate + (s.marker u).estimate * (s.marker u).settings.tolerance / 64 < elapsed ref p ∨
              elapsed ref p + (s.marker u).estimate * (s.marker u).settings.tolerance / 64 < (s.marker u).estimate →
              exec (.pulseTrailingEdge dt ⟨u, e⟩ order) s =
                .next (follow ((elapse dt s).putMarker u
                  { s.marker u with
                    pulse := none, reference := some p, estimate := elapsed ref p, count := 1 }))) ∧
            ((s.marker u).count ≠ 0 → (s.marker u).count ≠ 3 →
              elapsed ref p ≤ (s.marker u).estimate + (s.marker u).estimate * (s.marker u).settings.tolerance / 64 →
              (s.marker u).estimate ≤ elapsed ref p + (s.marker u).estimate * (s.marker u).settings.tolerance / 64 →
              exec (.pulseTrailingEdge dt ⟨u, e⟩ order) s =
                .next (follow ((elapse dt s).putMarker u
                  { s.marker u with
                    pulse := none, reference := some p, estimate := elapsed ref p,
                    count := (s.marker u).count + 1 })))))))) ∧
  -- the fourth agreeing period
  (∀ (dt : Nat) (u : MarkerId) (e : Edge) (order : List Track) (s : State) (p ref : Time),
    s.resetHeld = false → (s.marker u).pulse = some p →
    ((s.marker u).detected = some .rising ∧ e = .falling ∨ (s.marker u).detected = some .falling ∧ e = .rising) →
    (s.marker u).settings.minWidth * 16 ≤ elapsed p (s.time + BitVec.ofNat 48 dt) →
    (s.marker u).state = .acquiring → (s.marker u).reference = some ref → (s.marker u).count = 3 →
    40000 ≤ elapsed ref p → elapsed ref p ≤ 400000000 →
    elapsed ref p ≤ (s.marker u).estimate + (s.marker u).estimate * (s.marker u).settings.tolerance / 64 →
    (s.marker u).estimate ≤ elapsed ref p + (s.marker u).estimate * (s.marker u).settings.tolerance / 64 →
    exec (.pulseTrailingEdge dt ⟨u, e⟩ order) s =
      .next (follow (emit order { unit := u, time := p, estimate := elapsed ref p, synthetic := false }
        (post (Source.marker u) (.markerLocked p (elapsed ref p))
          (announceLock order u ((elapse dt s).putMarker u
            { s.marker u with
              pulse := none, state := .locked, count := 4, coast := 0, reference := none, lastMarker := some p,
              estimate := elapsed ref p, closeHeld := false,
              window := some
                { start := p,
                  openAfter := max (elapsed ref p - elapsed ref p * (s.marker u).settings.tolerance / 64) 40000,
                  closeAfter :=
                    min (elapsed ref p + elapsed ref p * (s.marker u).settings.tolerance / 64) 400000000 } }))))))

/-- A qualified pulse in LOCKED or COASTING: early, it only sets the early flag; inside the window, it is accepted, with
the measured period as the new estimate in LOCKED and the old estimate in COASTING. That a pulse which began before the
marker from which the window runs is early, and that one which began after the close time changes nothing, is the model's
reading (log 13). -/
def Obligations.WindowPulseIsEarlyOrAccepted : Prop :=
  ∀ (dt : Nat) (u : MarkerId) (edge : Edge) (order : List Track) (s : State) (p : Time) (w : Window) (e : Nat),
    s.resetHeld = false → (s.marker u).pulse = some p → (s.marker u).window = some w →
    ((s.marker u).detected = some .rising ∧ edge = .falling ∨ (s.marker u).detected = some .falling ∧ edge = .rising) →
    (s.marker u).settings.minWidth * 16 ≤ elapsed p (s.time + BitVec.ofNat 48 dt) →
    ((s.marker u).state = .locked ∧ e = elapsed w.start p ∨
      (s.marker u).state = .coasting ∧ e = (s.marker u).estimate) →
    (elapsed w.start (s.time + BitVec.ofNat 48 dt) < elapsed p (s.time + BitVec.ofNat 48 dt) ∨
        elapsed w.start p < w.openAfter →
      exec (.pulseTrailingEdge dt ⟨u, edge⟩ order) s =
        .next (follow ((elapse dt s).putMarker u { s.marker u with pulse := none, early := true }))) ∧
    (elapsed p (s.time + BitVec.ofNat 48 dt) ≤ elapsed w.start (s.time + BitVec.ofNat 48 dt) →
      w.openAfter ≤ elapsed w.start p → elapsed w.start p ≤ w.closeAfter →
      exec (.pulseTrailingEdge dt ⟨u, edge⟩ order) s =
        .next (follow (emit order { unit := u, time := p, estimate := e, synthetic := false }
          ((elapse dt s).putMarker u
            { s.marker u with
              pulse := none, state := .locked, coast := if (s.marker u).state = .locked then (s.marker u).coast else 0,
              lastMarker := some p, estimate := e, closeHeld := false,
              window := some
                { start := p, openAfter := max (e - e * (s.marker u).settings.tolerance / 64) 40000,
                  closeAfter := min (e + e * (s.marker u).settings.tolerance / 64) 400000000 } })))) ∧
    (elapsed p (s.time + BitVec.ofNat 48 dt) ≤ elapsed w.start (s.time + BitVec.ofNat 48 dt) →
      w.openAfter ≤ elapsed w.start p → w.closeAfter < elapsed w.start p →
      exec (.pulseTrailingEdge dt ⟨u, edge⟩ order) s =
        .next (follow ((elapse dt s).putMarker u { s.marker u with pulse := none })))

/-- The close of a window: held by a pulse in progress inside it; otherwise, also with a pulse in progress that began
outside it, a synthetic marker at the close time, or the loss when the coast limit is exceeded. A close held and then
found empty by a glitch acts the same way. The model's choices: nothing happens before the close time (log 2), a close
that comes late keeps its own close time (log 5), a pulse that began before the last marker or after the close time holds
no close (log 13), and the order among tracks is the command's (log 4). -/
def Obligations.EmptyWindowCoastsOrLoses : Prop :=
  ∀ (dt : Nat) (u : MarkerId) (e : Edge) (order : List Track) (s : State) (w : Window) (coast : Nat)
    (pulse : Option Time) (y : State),
    s.resetHeld = false → (s.marker u).window = some w →
    ((s.marker u).state = .locked ∧ coast = 1 ∨
      (s.marker u).state = .coasting ∧ coast = (s.marker u).coast + 1) →
    -- what an empty close does; `pulse` is the pulse still in progress after it
    ((s.marker u).state = .locked ∨ coast ≤ (s.marker u).settings.coastLimit →
      y = emit order
        { unit := u, time := w.start + BitVec.ofNat 48 w.closeAfter, estimate := (s.marker u).estimate, synthetic := true }
        ((elapse dt s).putMarker u
          { s.marker u with
            pulse := pulse, state := .coasting, coast := coast, closeHeld := false,
            lastMarker := some (w.start + BitVec.ofNat 48 w.closeAfter),
            window := some
              { start := w.start + BitVec.ofNat 48 w.closeAfter,
                openAfter :=
                  max ((s.marker u).estimate - (s.marker u).estimate * (s.marker u).settings.tolerance / 64) 40000,
                closeAfter :=
                  min ((s.marker u).estimate + (s.marker u).estimate * (s.marker u).settings.tolerance / 64)
                    400000000 } })) →
    ((s.marker u).state = .coasting → (s.marker u).settings.coastLimit < coast →
      y = post (Source.marker u)
        (.markerLost .coastLimit (w.start + BitVec.ofNat 48 w.closeAfter) (s.marker u).estimate)
        (announceLoss order u ((elapse dt s).putMarker u
          { s.marker u with
            pulse := none, state := .noSignal, coast := 0, count := 0, estimate := 0, window := none, closeHeld := false,
            reference := none, measurement := { highs := [], lows := [], levelStart := none },
            detected :=
              (match (s.marker u).settings.polarityMode with
               | .auto => none
               | .rising => some .rising
               | .falling => some .falling) }))) →
    -- before the close time nothing happens
    (elapsed w.start (s.time + BitVec.ofNat 48 dt) < w.closeAfter →
      exec (.windowClose dt u order) s = .next (follow (elapse dt s))) ∧
    -- the close with no pulse in progress
    (w.closeAfter ≤ elapsed w.start (s.time + BitVec.ofNat 48 dt) → (s.marker u).closeHeld = false →
      (s.marker u).pulse = none → pulse = none → exec (.windowClose dt u order) s = .next (follow y)) ∧
    -- the close with a pulse in progress that began outside the window
    (∀ p, w.closeAfter ≤ elapsed w.start (s.time + BitVec.ofNat 48 dt) → (s.marker u).closeHeld = false →
      (s.marker u).pulse = some p → pulse = some p →
      (elapsed w.start (s.time + BitVec.ofNat 48 dt) < elapsed p (s.time + BitVec.ofNat 48 dt) ∨
        elapsed w.start p < w.openAfter ∨ w.closeAfter < elapsed w.start p) →
      exec (.windowClose dt u order) s = .next (follow y)) ∧
    -- the close with a pulse in progress inside the window
    (∀ p, w.closeAfter ≤ elapsed w.start (s.time + BitVec.ofNat 48 dt) → (s.marker u).closeHeld = false →
      (s.marker u).pulse = some p →
      elapsed p (s.time + BitVec.ofNat 48 dt) ≤ elapsed w.start (s.time + BitVec.ofNat 48 dt) →
      w.openAfter ≤ elapsed w.start p → elapsed w.start p ≤ w.closeAfter →
      exec (.windowClose dt u order) s =
        .next (follow ((elapse dt s).putMarker u { s.marker u with closeHeld := true }))) ∧
    -- the held close, decided empty by a glitch
    (∀ p, (s.marker u).closeHeld = true → (s.marker u).pulse = some p → pulse = none →
      ((s.marker u).detected = some .rising ∧ e = .falling ∨ (s.marker u).detected = some .falling ∧ e = .rising) →
      elapsed p (s.time + BitVec.ofNat 48 dt) < (s.marker u).settings.minWidth * 16 →
      exec (.pulseTrailingEdge dt ⟨u, e⟩ order) s = .next (follow y))

/-- LEVEL_COMPLETE while an AUTO unit in NO_SIGNAL measures its input: a level whose beginning was not seen starts the
measurement, a short one discards it, the first two of each kind are kept, and the second of the kind that came last
decides the polarity by the sums, RISING when they are equal. That a level whose beginning was not seen is not judged for
being short is the model's reading (log 27). -/
def Obligations.LevelsDecidePolarity : Prop :=
  ∀ (dt : Nat) (u : MarkerId) (ended : Level) (s : State) (highs lows : List Nat),
    s.resetHeld = false → (s.marker u).settings.polarityMode = .auto → (s.marker u).state = .noSignal →
    (s.marker u).detected = none →
    ((s.marker u).measurement.levelStart = none →
      exec (.levelComplete dt u ended) s =
        .next (follow ((elapse dt s).putMarker u
          { s.marker u with
            measurement := { (s.marker u).measurement with levelStart := some (s.time + BitVec.ofNat 48 dt) } }))) ∧
    (∀ start, (s.marker u).measurement.levelStart = some start →
      (elapsed start (s.time + BitVec.ofNat 48 dt) < (s.marker u).settings.minWidth * 16 →
        exec (.levelComplete dt u ended) s =
          .next (follow ((elapse dt s).putMarker u
            { s.marker u with measurement := { highs := [], lows := [], levelStart := none } }))) ∧
      ((s.marker u).settings.minWidth * 16 ≤ elapsed start (s.time + BitVec.ofNat 48 dt) →
        highs = (if ended = .high ∧ (s.marker u).measurement.highs.length < 2 then
          (s.marker u).measurement.highs ++ [elapsed start (s.time + BitVec.ofNat 48 dt)]
          else (s.marker u).measurement.highs) →
        lows = (if ended = .low ∧ (s.marker u).measurement.lows.length < 2 then
          (s.marker u).measurement.lows ++ [elapsed start (s.time + BitVec.ofNat 48 dt)]
          else (s.marker u).measurement.lows) →
        (highs.length < 2 ∨ lows.length < 2 →
          exec (.levelComplete dt u ended) s =
            .next (follow ((elapse dt s).putMarker u
              { s.marker u with
                measurement :=
                  { highs := highs, lows := lows, levelStart := some (s.time + BitVec.ofNat 48 dt) } }))) ∧
        (2 ≤ highs.length → 2 ≤ lows.length →
          exec (.levelComplete dt u ended) s =
            .next (follow ((elapse dt s).putMarker u
              { s.marker u with
                measurement := { highs := [], lows := [], levelStart := none }, state := .acquiring,
                detected := some (if lows.sum < highs.sum then .falling else .rising), reference := none, count := 0,
                pulse := none })))))

/-! ## Parameter sets and track requests -/

/-- Every setting of SET_MARKER and every field of STAGE_TRACK is accepted exactly in its range, and is then the value
held, with no other field changed. The fields of a list act one after the other, and one that is refused refuses the list. STAGE_TRACK in every track state: one field out of range refuses the request whole;
otherwise the fields present replace the staged ones, and nothing else changes. UPDATE_OFFSET sets the update request
under ON_REQUEST alone. COMMIT_TRACK: BUSY for a structural difference while bound, then BAD_FIELD for a broken joint
limit, and during capture the staged set becomes the pending set with nothing else changed. -/
def Obligations.FieldsStagingAndCommitAreChecked : Prop :=
  ((∀ (x : MarkerSettings) (n : Nat) (v : Int),
    ((x.setField (n, v)).isSome ↔
      (n = 0 ∧ 0 ≤ v ∧ v ≤ 2) ∨ (n = 1 ∧ 0 ≤ v ∧ v ≤ 255) ∨ (n = 2 ∧ 1 ≤ v ∧ v ≤ 16) ∨ (n = 3 ∧ 1 ≤ v ∧ v ≤ 15)) ∧
    (∀ y, x.setField (n, v) = some y →
      (n = 0 → v = ((y.polarityMode.code).toNat : Int) ∧ y = { x with polarityMode := y.polarityMode }) ∧
      (n = 1 → y = { x with minWidth := v.toNat }) ∧
      (n = 2 → y = { x with tolerance := v.toNat }) ∧
      (n = 3 → y = { x with coastLimit := v.toNat }))) ∧
  (∀ (x : ParamSet) (n : Nat) (v : Int),
    ((x.setField (n, v)).isSome ↔
      (n = 0 ∧ 0 ≤ v ∧ v ≤ 2) ∨ (n = 1 ∧ 0 ≤ v ∧ v ≤ 2047) ∨ (n = 2 ∧ 1 ≤ v ∧ v ≤ 2048) ∨
      (n = 3 ∧ 64 ≤ v ∧ v ≤ 4096 ∧ v % 4 = 0) ∨ (n = 4 ∧ 0 ≤ v ∧ v ≤ 31) ∨ (n = 5 ∧ 512 ≤ v ∧ v ≤ 2047) ∨
      (n = 6 ∧ 0 ≤ v ∧ v ≤ 3) ∨ (n = 7 ∧ -8192 ≤ v ∧ v ≤ 8191) ∨ (n = 8 ∧ 0 ≤ v ∧ v ≤ 4095) ∨
      (n = 9 ∧ 1 ≤ v ∧ v ≤ 256) ∨ (n = 10 ∧ -8192 ≤ v ∧ v ≤ 8191) ∨ (n = 11 ∧ 0 ≤ v ∧ v ≤ 2)) ∧
    (∀ y, x.setField (n, v) = some y →
      (n = 0 → y = { x with markerSelect := if v = 0 then .a else if v = 1 then .b else .auto }) ∧
      (n = 1 → y = { x with base := v.toNat }) ∧ (n = 2 → y = { x with windowSize := v.toNat }) ∧
      (n = 3 → y = { x with length := v.toNat }) ∧ (n = 4 → y = { x with phase := v.toNat }) ∧
      (n = 5 → y = { x with gain := v.toNat }) ∧
      (n = 6 → y = { x with
        offsetMode := if v = 0 then .manual else if v = 1 then .auto else if v = 2 then .hold else .onRequest }) ∧
      (n = 7 → y = { x with manualOffset := v }) ∧ (n = 8 → y = { x with placement := v.toNat }) ∧
      (n = 9 → y = { x with duration := v.toNat }) ∧ (n = 10 → y = { x with target := v }) ∧
      (n = 11 → y = { x with interval := if v = 0 then .every else if v = 1 then .every8 else .every32 })))) ∧
  ((∀ x : MarkerSettings, x.setFields [] = some x ∧
    ∀ f rest, x.setFields (f :: rest) = (x.setField f).bind (fun y => y.setFields rest)) ∧
  (∀ x : ParamSet, x.setFields [] = some x ∧
    ∀ f rest, x.setFields (f :: rest) = (x.setField f).bind (fun y => y.setFields rest))) ∧
  (∀ (dt : Nat) (s : State) (r : RawRequest) (rest : List RawRequest) (t : Track),
    (∀ items, Serves s r rest (.stageTrack t.val items) →
      ((s.track t).staged.setFields items = none →
        exec (.stageTrack dt) s = .next (addReply true r .badField [] (handed dt s rest))) ∧
      (∀ x, (s.track t).staged.setFields items = some x →
        exec (.stageTrack dt) s =
          .next (addReply true r .ok [] ((handed dt s rest).putTrack t { s.track t with staged := x })))) ∧
    (Serves s r rest (.updateOffset t.val) →
      ((s.track t).active.offsetMode = .onRequest →
        exec (.updateOffset dt) s =
          .next (addReply true r .ok [] ((handed dt s rest).putTrack t { s.track t with updateRequest := true }))) ∧
      ((s.track t).active.offsetMode ≠ .onRequest →
        exec (.updateOffset dt) s = .next (addReply true r .busy [] (handed dt s rest))))) ∧
  (∀ (dt : Nat) (s : State) (r : RawRequest) (rest : List RawRequest) (t : Track) (st ac : ParamSet),
    Serves s r rest (.commitTrack t.val) → st = (s.track t).staged → ac = (s.track t).active →
    ((st.markerSelect ≠ ac.markerSelect ∨ st.base ≠ ac.base ∨ st.windowSize ≠ ac.windowSize) →
      ((s.track t).state = .armed ∨ (s.track t).state = .sweeping ∨ (s.track t).state = .awaiting ∨
        (s.track t).state = .stopping) →
      exec (.commitTrack dt) s = .next (addReply true r .busy [] (handed dt s rest))) ∧
    ((st.markerSelect = ac.markerSelect ∧ st.base = ac.base ∧ st.windowSize = ac.windowSize) ∨
        (s.track t).state = .idle ∨ (∃ h, (s.track t).state = .halted h) →
      (2048 < st.base + st.windowSize ∨ st.windowSize < 2 * ((st.length + 511) / 512) ∨
        st.length < st.placement + st.duration →
        exec (.commitTrack dt) s = .next (addReply true r .badField [] (handed dt s rest))) ∧
      (st.base + st.windowSize ≤ 2048 → 2 * ((st.length + 511) / 512) ≤ st.windowSize →
        st.placement + st.duration ≤ st.length →
        ((s.track t).state = .sweeping ∨ (s.track t).state = .awaiting ∨ (s.track t).state = .stopping) →
        exec (.commitTrack dt) s =
          .next (follow (addReply true r .ok []
            ((handed dt s rest).putTrack t { s.track t with pendingSet := some st }))))))

/-- A commit in IDLE, HALTED or ARMED: the staged set becomes active with one generation step; the write position goes
back to a changed window; a changed N disables the averager with reason LENGTH, which ends the track's READ_MEANs
OVERTAKEN, and any generation step restarts its block and clears its sums unless a publication is in flight. -/
def Obligations.CommitTakesEffectAtOnce : Prop :=
  ∀ (dt : Nat) (s : State) (r : RawRequest) (rest : List RawRequest) (t : Track) (u : TrackUnit) (a : Averager),
    Serves s r rest (.commitTrack t.val) → u = s.track t → a = s.averager t →
    (u.state = .idle ∨ (∃ h, u.state = .halted h) ∨
      (u.state = .armed ∧ u.staged.markerSelect = u.active.markerSelect ∧ u.staged.base = u.active.base ∧
        u.staged.windowSize = u.active.windowSize)) →
    u.staged.base + u.staged.windowSize ≤ 2048 → 2 * ((u.staged.length + 511) / 512) ≤ u.staged.windowSize →
    u.staged.placement + u.staged.duration ≤ u.staged.length →
    ∃ x, exec (.commitTrack dt) s = .next x ∧
      x.track t =
        { u with
          active := u.staged, pendingSet := none, generation := u.generation + 1, intervalCount := 0,
          offsetInUse := if u.staged.offsetMode = .manual then u.staged.manualOffset else u.offsetInUse,
          updateRequest := if u.staged.offsetMode = .onRequest then u.updateRequest else false } ∧
      (∀ k, k ≠ t → x.track k = s.track k) ∧
      x.writePosition t =
        (if u.staged.base = u.active.base ∧ u.staged.windowSize = u.active.windowSize then s.writePosition t
         else u.staged.base) ∧
      (a.region = none → x.averager t = a) ∧
      (∀ g, a.region = some g → u.staged.length = u.active.length →
        x.averager t = { a with blockCount := 0, blockLast := none, current := none } ∧
        ∀ w, x.ramWord w =
          if a.publication = none ∧ g.base ≤ w ∧ w < g.base + g.length then 0 else s.ramWord w) ∧
      (a.region = none ∨ u.staged.length = u.active.length → x.readout = s.readout) ∧
      (a.region = none ∨ u.staged.length ≠ u.active.length → x.averagerRam = s.averagerRam) ∧
      (a.region ≠ none → u.staged.length ≠ u.active.length →
        x.averager t =
          { a with
            region := none, reason := .length, blockCount := 0, blockLast := none, current := none,
            publication := none, published := false, pubLast := none } ∧
        x.readout.queue = s.readout.queue.filter (fun y => !(y.ofMean t)) ∧
        x.readout.ended = s.readout.ended ++ (s.readout.queue.filter (fun y => y.ofMean t)).map (fun y =>
          { tag := y.tag, mean := true, position := y.firstPos + y.delivered, status := .overtaken,
            delivered := y.delivered })) ∧
      (∀ k, k ≠ t → x.averager k = s.averager k) ∧
      x.link.replies = s.link.replies ++ [{ own := true, code := r.code, tag := r.tag, payload := [0] }] ∧
      x.lanes = s.lanes ∧ x.maps = s.maps ∧ x.owners = s.owners ∧ x.index = s.index ∧ x.dram = s.dram ∧
      x.check = s.check ∧ x.notices = s.notices ∧ x.markerA = s.markerA ∧ x.markerB = s.markerB

/-- ARM_TRACK and STOP_TRACK by the state of the track. ABORT_TRACK removes a FILLING sweep with its staging and its lane's
state, tells the averager, and takes the track to IDLE with one TRACK_STOPPED; in IDLE it changes nothing. -/
def Obligations.ArmStopAndAbortByTrackState : Prop :=
  ∀ (dt : Nat) (s : State) (r : RawRequest) (rest : List RawRequest) (t : Track),
    (∀ count, Serves s r rest (.armTrack t.val count) →
      ((s.track t).state = .armed ∨ (s.track t).state = .sweeping ∨ (s.track t).state = .awaiting ∨
          (s.track t).state = .stopping →
        exec (.armTrack dt) s = .next (addReply true r .busy [] (handed dt s rest))) ∧
      ((s.track t).state = .idle ∨ (∃ h, (s.track t).state = .halted h) →
        ∀ sel : Option MarkerId,
        ((s.track t).active.markerSelect = .a ∧ sel = some .A ∨ (s.track t).active.markerSelect = .b ∧ sel = some .B ∨
          (s.track t).active.markerSelect = .auto ∧ ChosenUnit s sel) →
        exec (.armTrack dt) s =
          .next (addReply true r .ok [] ((handed dt s rest).putTrack t
            { s.track t with
              state := .armed, armCount := count, sweepsDone := 0, prevMarker := none, selected := sel })))) ∧
    (Serves s r rest (.stopTrack t.val) →
      ((s.track t).state = .sweeping →
        exec (.stopTrack dt) s =
          .next (follow (addReply true r .ok []
            ((handed dt s rest).putTrack t { s.track t with state := .stopping })))) ∧
      ((s.track t).state = .armed ∨ (s.track t).state = .awaiting →
        exec (.stopTrack dt) s =
          .next (follow (addReply true r .ok []
            (post (Source.trackStopped t)
              (.trackStopped .stopped (s.track t).sweepsDone (s.track t).seqCounter)
              ((handed dt s rest).putTrack t { s.track t with state := .idle, selected := none }))))) ∧
      ((s.track t).state = .idle ∨ (s.track t).state = .stopping ∨ (∃ h, (s.track t).state = .halted h) →
        exec (.stopTrack dt) s = .next (follow (addReply true r .ok [] (handed dt s rest))))) ∧
    (Serves s r rest (.abortTrack t.val) →
      ((s.track t).state = .idle → fillingRecord s t = none →
        exec (.abortTrack dt) s = .next (follow (addReply true r .ok [] (handed dt s rest)))) ∧
      ((s.track t).state ≠ .idle → fillingRecord s t = none →
        exec (.abortTrack dt) s =
          .next (follow (addReply true r .ok []
            (post (Source.trackStopped t) (.trackStopped .aborted (s.track t).sweepsDone (s.track t).seqCounter)
              ((handed dt s rest).putTrack t { s.track t with state := .idle, selected := none }))))) ∧
      (∀ f, (s.track t).state ≠ .idle → fillingRecord s t = some f →
        ∃ x, exec (.abortTrack dt) s = .next x ∧
          x.records t = (s.records t).filter (fun y => y.seq ≠ f.seq) ∧
          (x.track t).state = .idle ∧ (x.track t).selected = none ∧ (x.track t).schedule = none ∧
          (x.track t).fifo = (s.track t).fifo.filter (fun e => e.seq ≠ f.seq) ∧
          (x.track t).sweepsDone = (s.track t).sweepsDone ∧ (x.track t).pendingSet = (s.track t).pendingSet ∧
          x.lane t = { flag := none, baseSum := 0, baseCount := 0 } ∧
          x.notices = s.notices.post (Source.trackStopped t)
            (.trackStopped .aborted (s.track t).sweepsDone (s.track t).seqCounter) ∧
          x.averager t = (averagerSweepRemoved t f.seq s).averager t ∧
          (∀ k, k ≠ t → x.records k = s.records k ∧ x.track k = s.track k ∧ x.lane k = s.lane k ∧
            x.averager k = s.averager k) ∧
          x.owners = s.owners ∧ x.dram = s.dram ∧ x.dramCheck = s.dramCheck ∧ x.writePos = s.writePos))

/-- RESET_TRACK on one track: its unit, lane, index, write position, keep marks, averager block with its sums, inject
request, and its reads, which end OVERTAKEN, those of sweeps before those of the mean (the model's order, log 20). Its
writer's bursts complete unheeded and no longer count as its writer's (log 12). Everything of the other tracks, their
reads among it, stays. -/
def Obligations.ResetTrackClearsOneTrack : Prop :=
  ∀ (dt : Nat) (s : State) (r : RawRequest) (rest : List RawRequest) (t : Track), Serves s r rest (.resetTrack t.val) →
    ∃ x, exec (.resetTrack dt) s = .next x ∧
      x.track t =
        { s.track t with
          pendingSet := none, intervalCount := 0, updateRequest := false, state := .idle, selected := none,
          prevMarker := none, armCount := 0, sweepsDone := 0, seqCounter := 0, spent := false, schedule := none,
          fifo := [], cursor := none } ∧
      x.lane t = { flag := none, baseSum := 0, baseCount := 0 } ∧
      x.records t = [] ∧ x.writePosition t = (s.track t).active.base ∧
      (∀ p, tget (x.map t) p = (tget (s.map t) p).map (fun e => { e with keep := false })) ∧
      -- reads
      x.readout.queue = s.readout.queue.filter (fun y => y.track ≠ t) ∧
      x.readout.ended = s.readout.ended ++
        ((s.readout.queue.filter (fun y => y.track = t && !y.kind.isMean)) ++
          (s.readout.queue.filter (fun y => y.track = t && y.kind.isMean))).map (fun y =>
            { tag := y.tag, mean := y.kind.isMean, position := y.firstPos + y.delivered, status := .overtaken,
              delivered := y.delivered }) ∧
      -- bursts
      x.mem.granted = s.mem.granted.map (fun b =>
        if b.isRead then (if (s.readout.queue.head?).any (fun y => y.track = t) then { b with heeded := false } else b)
        else if b.track = t then { b with heeded := false, attached := false }
        else b) ∧
      -- averager: the sums of its region are 0, every other word stays
      x.averager t =
        { s.averager t with
          current := none, blockCount := 0, blockLast := none, publication := none, published := false,
          pubLast := none } ∧
      ((s.averager t).region = none → x.averagerRam = s.averagerRam) ∧
      (∀ g, (s.averager t).region = some g → ∀ a,
        x.ramWord a = if g.base ≤ a ∧ a < g.base + g.length then 0 else s.ramWord a) ∧
      -- inject request
      (∀ i, s.check.inject = some i → i.1 ≠ t → x.check = s.check) ∧
      (∀ i, s.check.inject = some i → i.1 = t → x.check = { s.check with inject := none }) ∧
      (s.check.inject = none → x.check = s.check) ∧
      -- the rest
      (∀ k, k ≠ t → x.track k = s.track k ∧ x.lane k = s.lane k ∧ x.records k = s.records k ∧ x.map k = s.map k ∧
        x.writePosition k = s.writePosition k ∧ x.averager k = s.averager k) ∧
      x.owners = s.owners ∧ x.dram = s.dram ∧ x.dramCheck = s.dramCheck ∧ x.notices = s.notices ∧
      x.markerA = s.markerA ∧ x.markerB = s.markerB ∧ x.mem.banks = s.mem.banks ∧ x.mem.balance = s.mem.balance ∧
      x.mem.refresh = s.mem.refresh ∧
      x.link.replies = s.link.replies ++ [{ own := true, code := r.code, tag := r.tag, payload := [0] }]

/-! ## Strobes, lane words, sweep starts -/

/-- STROBE_INSTANT. With the instant T0 + (32 i + phase) E / 32 N of the next regular strobe i come, the strobe is issued:
the positions lost before it, that of a strobe still outstanding first and then each past-due one never issued in
ascending order, are lost one by one, and the flag then stands for i. That the command otherwise only passes time is the
model's choice (log 2), as is the issue of a strobe after its instant (log 5). LANE_WORD with the flag clear is discarded. With the flag set and bad parity, away from the end of the sweep, the
position is lost and the flag clears; a catch-up run that has strobes left then issues its next one. -/
def Obligations.StrobesAreIssuedAndWordsLost : Prop :=
  (∀ (dt : Nat) (t : Track) (s : State), s.resetHeld = false →
    ((s.track t).schedule = none → exec (.strobeInstant dt t) s = .next (elapse dt s)) ∧
    (∀ (sch : Schedule) (i offset : Nat), (s.track t).schedule = some sch → i = max sch.next sch.pastDue →
      offset = (32 * i + (s.track t).active.phase) * sch.estimate / (32 * (s.track t).active.length) →
      ((s.track t).active.length ≤ i ∨ elapsed sch.t0 (s.time + BitVec.ofNat 48 dt) < offset →
        exec (.strobeInstant dt t) s = .next (elapse dt s)) ∧
      (∀ (lost : List Nat) (y : State),
        i < (s.track t).active.length → offset ≤ elapsed sch.t0 (s.time + BitVec.ofNat 48 dt) →
        lost = (s.lane t).flag.toList ++ (List.range (sch.pastDue - sch.next)).map (fun j => sch.next + j) →
        y = lost.foldl (fun x p => losePosition t p x) (elapse dt s) →
        exec (.strobeInstant dt t) s =
            .next ((y.putTrack t { y.track t with schedule := some { sch with next := i + 1 } }).putLane t
              { y.lane t with flag := some i }) ∧
          y.records t = (s.records t).map (fun rec =>
            if rec.state = .filling then lost.foldl (fun r p => r.lose p) rec else rec)))) ∧
  (∀ (dt : Nat) (t : Track) (word : BitVec 16) (parity : Bool) (s : State), s.resetHeld = false →
    ((s.lane t).flag = none → exec (.laneWord dt t word parity) s = .next (follow (elapse dt s))) ∧
    (∀ (pos : Nat) (f : SweepRecord) (y : State), (s.lane t).flag = some pos → fillingRecord s t = some f →
      pos + 1 < (s.track t).active.length →
      (((List.range 16).filter (fun i => word.getLsbD i)).length + parity.toNat) % 2 = 0 →
      y = losePosition t pos (elapse dt s) →
      ((∀ sch, (s.track t).schedule = some sch → sch.pastDue ≤ sch.next) →
        exec (.laneWord dt t word parity) s = .next (follow (y.putLane t { y.lane t with flag := none }))) ∧
      (∀ sch, (s.track t).schedule = some sch → sch.next < sch.pastDue →
        exec (.laneWord dt t word parity) s =
          .next (follow ((y.putTrack t
            { y.track t with schedule := some { sch with next := sch.next + 1 } }).putLane t
              { y.lane t with flag := some sch.next })))))

/-- An accepted lane word away from the end of the sweep: the value is raw × gain / 1024 rounded to nearest with ties
away from zero, plus the sweep offset, saturated; CLIPPED is set when saturation changed it; the value joins the staging
FIFO, or its position is lost at a full one, and is added to its sum in a block being averaged. A catch-up run that has
strobes left then issues its next one. -/
def Obligations.AcceptedWordIsConvertedAndStaged : Prop :=
  ∀ (dt : Nat) (t : Track) (word : BitVec 16) (parity : Bool) (s : State) (pos : Nat) (f : SweepRecord) (z v : Int)
    (clip : SweepRecord → SweepRecord),
    s.resetHeld = false → (s.lane t).flag = some pos → fillingRecord s t = some f →
    pos + 1 < (s.track t).active.length →
    (((List.range 16).filter (fun i => word.getLsbD i)).length + parity.toNat) % 2 = 1 →
    Converts word.toInt (s.track t).active.gain f.offsetUsed z v →
    (∀ rec, clip rec = if v ≠ z ∧ rec.seq = f.seq then { rec with clipped := true } else rec) →
    ∃ x, exec (.laneWord dt t word parity) s = .next x ∧
      -- the flag and the catch-up run
      ((∀ sch, (s.track t).schedule = some sch → sch.pastDue ≤ sch.next) →
        (x.lane t).flag = none ∧ (x.track t).schedule = (s.track t).schedule) ∧
      (∀ sch, (s.track t).schedule = some sch → sch.next < sch.pastDue →
        (x.lane t).flag = some sch.next ∧ (x.track t).schedule = some { sch with next := sch.next + 1 }) ∧
      -- the FIFO and the record
      ((s.track t).fifo.length < 256 →
        (x.track t).fifo = (s.track t).fifo ++ [{ seq := f.seq, pos := pos, value := v }] ∧
        x.records t = (s.records t).map clip) ∧
      (256 ≤ (s.track t).fifo.length →
        (x.track t).fifo = (s.track t).fifo ∧
        x.records t = ((s.records t).map clip).map (fun rec => if rec.state = .filling then rec.lose pos else rec)) ∧
      -- the sums
      (∀ g, (s.averager t).region = some g → (s.averager t).current ≠ none →
        ∀ a, x.ramWord a =
          if a = g.base + pos then s.ramWord (g.base + pos) + BitVec.ofInt 32 v else s.ramWord a) ∧
      ((s.averager t).region = none ∨ (s.averager t).current = none → x.averagerRam = s.averagerRam) ∧
      -- the rest
      x.track t =
        { s.track t with
          schedule := (x.track t).schedule, fifo := (x.track t).fifo, offsetInUse := (x.track t).offsetInUse,
          intervalCount := (x.track t).intervalCount, updateRequest := (x.track t).updateRequest } ∧
      (∀ k, k ≠ t → x.records k = s.records k ∧ x.track k = s.track k ∧ x.lane k = s.lane k) ∧
      x.markerA = s.markerA ∧ x.markerB = s.markerB ∧ x.maps = s.maps ∧ x.owners = s.owners ∧
      x.writePos = s.writePos ∧ x.dram = s.dram ∧ x.dramCheck = s.dramCheck ∧ x.check = s.check ∧
      x.readout = s.readout ∧ x.averagers = s.averagers ∧ x.link = s.link ∧ x.notices = s.notices

/-- A lost position is accounted in the FILLING record and may close the baseline window; an accepted value in the window
joins the lane's sum and count first. At the close a non-empty window's mean steers the offset in use by half its distance
from the target, under AUTO at each full interval, under ON_REQUEST once for each update request. -/
def Obligations.BaselineWindowSteersOffset : Prop :=
  (∀ (t : Track) (pos : Nat) (s : State),
    ∃ sum count offset interval request,
      BaselineAfter (s.track t) pos (s.lane t).baseSum (s.lane t).baseCount sum count offset interval request ∧
      losePosition t pos s =
        ((s.putRecords t ((s.records t).map (fun rec => if rec.state = .filling then rec.lose pos else rec))).putLane t
          { s.lane t with baseSum := sum, baseCount := count }).putTrack t
            { s.track t with offsetInUse := offset, intervalCount := interval, updateRequest := request }) ∧
  (∀ (dt : Nat) (t : Track) (word : BitVec 16) (parity : Bool) (s : State) (pos : Nat) (f : SweepRecord) (z v : Int)
    (sum0 : Int) (count0 : Nat),
    s.resetHeld = false → (s.lane t).flag = some pos → fillingRecord s t = some f →
    (((List.range 16).filter (fun i => word.getLsbD i)).length + parity.toNat) % 2 = 1 →
    Converts word.toInt (s.track t).active.gain f.offsetUsed z v →
    -- the accumulator with the accepted value, where its position lies in the window and the mode uses one
    (((s.track t).active.offsetMode = .auto ∨ (s.track t).active.offsetMode = .onRequest) →
      (s.track t).active.placement ≤ pos → pos < (s.track t).active.placement + (s.track t).active.duration →
      sum0 = (s.lane t).baseSum + v ∧ count0 = (s.lane t).baseCount + 1) →
    ((s.track t).active.offsetMode = .manual ∨ (s.track t).active.offsetMode = .hold ∨
        pos < (s.track t).active.placement ∨ (s.track t).active.placement + (s.track t).active.duration ≤ pos →
      sum0 = (s.lane t).baseSum ∧ count0 = (s.lane t).baseCount) →
    ∃ sum count offset interval request x,
      BaselineAfter (s.track t) pos sum0 count0 sum count offset interval request ∧
      exec (.laneWord dt t word parity) s = .next x ∧ (x.track t).offsetInUse = offset ∧
      (x.track t).intervalCount = interval ∧ (x.track t).updateRequest = request ∧
      (pos + 1 ≠ (s.track t).active.length → (x.lane t).baseSum = sum ∧ (x.lane t).baseCount = count))

/-- The lane word that resolves the last position: its value is staged, or the position is lost on bad parity or at a full
FIFO; the record reaches DRAINING, with AVERAGED when its block counts it; the averager is told with the final flags;
sweeps done rises by 1; and the track waits for its next marker, or is IDLE when it was STOPPING or the arm count is met. -/
def Obligations.LastPositionEndsCapture : Prop :=
  ∀ (dt : Nat) (t : Track) (word : BitVec 16) (parity : Bool) (s : State) (pos done : Nat) (f g : SweepRecord)
    (z v : Int) (fifo : List FifoEntry) (good : Bool),
    s.resetHeld = false → IndexInOrder s → (s.lane t).flag = some pos → fillingRecord s t = some f →
    pos + 1 = (s.track t).active.length → done = min 65535 ((s.track t).sweepsDone + 1) →
    good = decide ((((List.range 16).filter (fun i => word.getLsbD i)).length + parity.toNat) % 2 = 1) →
    Converts word.toInt (s.track t).active.gain f.offsetUsed z v →
    -- the record with the last position resolved, and the FIFO
    (good = false → g = f.lose pos ∧ fifo = (s.track t).fifo) →
    (good = true → (s.track t).fifo.length < 256 →
      g = { f with clipped := f.clipped || decide (v ≠ z) } ∧
      fifo = (s.track t).fifo ++ [{ seq := f.seq, pos := pos, value := v }]) →
    (good = true → 256 ≤ (s.track t).fifo.length →
      g = SweepRecord.lose pos { f with clipped := f.clipped || decide (v ≠ z) } ∧ fifo = (s.track t).fifo) →
    ∃ x, exec (.laneWord dt t word parity) s = .next x ∧
      x.records t = (s.records t).map (fun y =>
        if y.seq = f.seq then
          { g with
            state := .draining,
            averaged := g.averaged ||
              (decide ((s.averager t).current = some f.seq) && g.losses.isNone && !g.short) }
        else y) ∧
      (x.track t).fifo = fifo ∧ x.lane t = { flag := none, baseSum := 0, baseCount := 0 } ∧
      (x.track t).schedule = none ∧ (x.track t).sweepsDone = done ∧
      -- the averager
      x.averager t = (averagerSweepEnd t f.seq (g.losses.isSome || g.short) s).averager t ∧
      x.readout = (averagerSweepEnd t f.seq (g.losses.isSome || g.short) s).readout ∧
      ((s.averager t).current = none → x.averagerRam = s.averagerRam) ∧
      (∀ r, (s.averager t).region = some r → (s.averager t).current = some f.seq →
        (s.averager t).publication = none → ∀ a,
        x.ramWord a =
          if (g.losses.isSome || g.short) = true ∧ r.base ≤ a ∧ a < r.base + r.length then 0
          else if good = true ∧ a = r.base + pos then s.ramWord a + BitVec.ofInt 32 v
          else s.ramWord a) ∧
      -- the run
      ((s.track t).armCount ≠ 0 → done = (s.track t).armCount →
        (x.track t).state = .idle ∧ (x.track t).selected = none ∧
        x.notices = s.notices.post (Source.trackStopped t)
          (.trackStopped .countDone done (s.track t).seqCounter)) ∧
      ((s.track t).armCount = 0 ∨ done ≠ (s.track t).armCount →
        ((s.track t).state = .sweeping →
          (x.track t).state = .awaiting ∧ (x.track t).selected = (s.track t).selected ∧ x.notices = s.notices) ∧
        ((s.track t).state = .stopping →
          (x.track t).state = .idle ∧ (x.track t).selected = none ∧
          x.notices = s.notices.post (Source.trackStopped t)
            (.trackStopped .stopped done (s.track t).seqCounter))) ∧
      -- the rest
      x.track t =
        { s.track t with
          state := (x.track t).state, selected := (x.track t).selected, schedule := none, fifo := fifo,
          sweepsDone := done, offsetInUse := (x.track t).offsetInUse, intervalCount := (x.track t).intervalCount,
          updateRequest := (x.track t).updateRequest } ∧
      (∀ k, k ≠ t → x.records k = s.records k ∧ x.track k = s.track k ∧ x.lane k = s.lane k ∧
        x.averager k = s.averager k) ∧
      x.markerA = s.markerA ∧ x.markerB = s.markerB ∧ x.maps = s.maps ∧ x.owners = s.owners ∧
      x.writePos = s.writePos ∧ x.dram = s.dram ∧ x.dramCheck = s.dramCheck ∧ x.check = s.check ∧ x.link = s.link

/-- The placement scan ends as the walk of R91 and R92 ends; the range it finds lies in the window, and NO_ROOM says that
every range of the window holds a barred page. The placement then retires the records in the range in rising sequence,
then the oldest record that is COMPLETE and not kept if 256 remain, ends their reads OVERTAKEN with the bursts of an
active one unheeded, and sets the write position behind the range. That a scan which has wrapped ends where it would pass the window's end again is the model's
reading (log 26). -/
def Obligations.PlacementScanWalksTheWindow : Prop :=
  ∀ (s : State) (t : Track) (a : ParamSet) (n start : Nat) (hole bar : Nat → Prop),
    SetsInOrder s → IndexInOrder s → KeepMarksInOrder s → a = (s.track t).active → n = (a.length + 511) / 512 →
    start = (if a.base + a.windowSize < s.writePosition t + n then a.base else s.writePosition t) →
    (∀ p, hole p ↔ tget (s.map t) p = none) →
    (∀ p, bar p ↔
      (∃ e, tget (s.map t) p = some e ∧ (e.hostProtect = true ∨ e.keep = true)) ∨
      ∃ y ∈ s.records t, y.state ≠ .complete ∧ y.firstPage ≤ p ∧ p < y.firstPage + (y.length + 511) / 512) →
    ScanWalk hole bar a.base a.windowSize n start start false (placementScan s t) ∧
    (placementScan s t = .noRoom →
      ∀ c, a.base ≤ c → c + n ≤ a.base + a.windowSize → ∃ p, c ≤ p ∧ p < c + n ∧ bar p) ∧
    (∀ c, placementScan s t = .found c →
      a.base ≤ c ∧ c + n ≤ a.base + a.windowSize ∧
      ∀ (inside : SweepRecord → Bool) (retired : List SweepRecord),
        (∀ y, inside y = true ↔ ∃ p, c ≤ p ∧ p < c + n ∧ y.firstPage ≤ p ∧ p < y.firstPage + (y.length + 511) / 512) →
        (((s.records t).filter (fun y => !inside y)).length < 256 → retired = (s.records t).filter inside) →
        (256 ≤ ((s.records t).filter (fun y => !inside y)).length →
          retired = (s.records t).filter inside ++
            (((s.records t).filter (fun y => !inside y)).find? (fun y => y.state = .complete && !y.kept)).toList) →
        (placeAt t c s).records t = (s.records t).filter (fun y => !retired.contains y) ∧
        (placeAt t c s).writePosition t = c + n ∧
        (placeAt t c s).readout.queue =
          s.readout.queue.filter (fun q => !retired.any (fun y => q.ofSweep t y.seq)) ∧
        (placeAt t c s).readout.ended = s.readout.ended ++
          retired.flatMap (fun y => (s.readout.queue.filter (fun q => q.ofSweep t y.seq)).map (fun q =>
            { tag := q.tag, mean := false, position := q.firstPos + q.delivered, status := .overtaken,
              delivered := q.delivered })) ∧
        (∀ k, k ≠ t → (placeAt t c s).records k = s.records k ∧
          (placeAt t c s).writePosition k = s.writePosition k) ∧
        (placeAt t c s).tracks = s.tracks ∧ (placeAt t c s).maps = s.maps ∧ (placeAt t c s).lanes = s.lanes ∧
        (placeAt t c s).owners = s.owners ∧ (placeAt t c s).averagers = s.averagers ∧
        (placeAt t c s).averagerRam = s.averagerRam ∧ (placeAt t c s).notices = s.notices ∧
        (placeAt t c s).dram = s.dram ∧ (placeAt t c s).link = s.link ∧
        (placeAt t c s).mem = { s.mem with
          granted := s.mem.granted.map (fun b =>
            if b.isRead && s.readout.queue.head?.any (fun q => retired.any (fun y => q.ofSweep t y.seq)) then
              { b with heeded := false }
            else b) })

/-- A sweep start that passes R47. A pending set becomes active with one generation step, told to the averager, which
restarts its block or, at a changed N, is disabled and ends the track's READ_MEANs OVERTAKEN; the sweep offset is taken; a spent counter or a scan without a range halts the track, with its notice and nothing else
changed; on the range found the FILLING record stands last in the index with the fields of R50, the counter advances or
is spent, the averager decides whether the sweep qualifies, and the strobe schedule is made with the strobes that are
past-due then, the first of which is issued. -/
def Obligations.SweepStartOpensRecord : Prop :=
  ∀ (ev : MarkerEvent) (t : Track) (s : State) (u u' : TrackUnit) (a a' : Averager) (reads : Readout),
    u = s.track t → a = s.averager t →
    -- the unit, the averager and the reads after step 1
    (u.pendingSet = none →
      u' = { u with offsetInUse := if u.active.offsetMode = .manual then u.active.manualOffset else u.offsetInUse } ∧
      a' = a ∧ reads = s.readout) →
    (∀ p, u.pendingSet = some p →
      u' =
        { u with
          active := p, pendingSet := none, generation := u.generation + 1, intervalCount := 0,
          offsetInUse := if p.offsetMode = .manual then p.manualOffset else u.offsetInUse,
          updateRequest := if p.offsetMode = .onRequest then u.updateRequest else false } ∧
      (a.region = none → a' = a) ∧
      (a.region = none ∨ p.length = u.active.length → reads = s.readout) ∧
      (a.region ≠ none → p.length = u.active.length →
        a' = { a with blockCount := 0, blockLast := none, current := none }) ∧
      (a.region ≠ none → p.length ≠ u.active.length →
        a' =
          { a with
            region := none, reason := .length, blockCount := 0, blockLast := none, current := none,
            publication := none, published := false, pubLast := none } ∧
        reads =
          { queue := s.readout.queue.filter (fun y => !(y.ofMean t)),
            ended := s.readout.ended ++ (s.readout.queue.filter (fun y => y.ofMean t)).map (fun y =>
              { tag := y.tag, mean := true, position := y.firstPos + y.delivered, status := .overtaken,
                delivered := y.delivered }) })) →
    -- halts
    (∀ h : HaltReason,
      (u.spent = true ∧ h = .sequenceExhausted ∨
        u.spent = false ∧
          (placementScan (s.putTrack t u') t = .mapHole ∧ h = .mapHole ∨
            placementScan (s.putTrack t u') t = .noRoom ∧ h = .noRoom)) →
      (continueStart t ev s).track t = { u' with state := .halted h, selected := none } ∧
      (continueStart t ev s).averager t = a' ∧ (continueStart t ev s).readout = reads ∧
      (continueStart t ev s).notices = s.notices.post (Source.trackStopped t)
        (.trackStopped (.halted h) u.sweepsDone u.seqCounter) ∧
      (continueStart t ev s).index = s.index ∧ (continueStart t ev s).lanes = s.lanes ∧
      (continueStart t ev s).maps = s.maps ∧ (continueStart t ev s).writePos = s.writePos) ∧
    -- the new sweep
    (∀ (c : Nat) (y : State), u.spent = false → placementScan (s.putTrack t u') t = .found c →
      y = placeAt t c ((s.putTrack t u').setReadout reads) →
      ∃ late : Nat,
        late ≤ u'.active.length ∧
        (∀ i, i < u'.active.length →
          (i < late ↔
            (32 * i + u'.active.phase) * ev.estimate / (32 * u'.active.length) ≤ elapsed ev.time s.time)) ∧
        (continueStart t ev s).records t = y.records t ++
          [{ seq := u.seqCounter, state := .filling, markerTime := ev.time,
             period :=
               (match u.prevMarker with
                | some p => elapsed p ev.time
                | none => ev.estimate),
             unit := ev.unit, firstPage := c, length := u'.active.length, generation := u'.generation,
             offsetUsed := u'.offsetInUse, coasted := ev.synthetic, short := false, clipped := false,
             offsetRail := u'.active.offsetMode ≠ .manual && (u'.offsetInUse = -8192 || u'.offsetInUse = 8191),
             kept := false, averaged := false, damaged := false, losses := none }] ∧
        (continueStart t ev s).track t =
          { y.track t with
            state := .sweeping,
            seqCounter := if u.seqCounter < 4294967295 then u.seqCounter + 1 else u.seqCounter,
            spent := decide (4294967295 ≤ u.seqCounter),
            schedule := some { t0 := ev.time, estimate := ev.estimate, pastDue := late, next := min 1 late } } ∧
        (continueStart t ev s).lane t =
          { flag := if late = 0 then none else some 0, baseSum := 0, baseCount := 0 } ∧
        (continueStart t ev s).averager t =
          { a' with
            current :=
              if a'.region ≠ none ∧ a'.publication = none ∧ (ev.synthetic = false ∨ a'.includeCoasted = true) then
                some u.seqCounter
              else none } ∧
        (continueStart t ev s).readout = y.readout ∧ (continueStart t ev s).map t = y.map t ∧ (continueStart t ev s).writePosition t = y.writePosition t ∧
        (continueStart t ev s).notices = s.notices) ∧
    -- the sums
    (∀ g p, a.region = some g → u.pendingSet = some p → p.length = u.active.length →
      ∀ w, (continueStart t ev s).ramWord w =
        if a.publication = none ∧ g.base ≤ w ∧ w < g.base + g.length then 0 else s.ramWord w) ∧
    (a.region = none ∨ u.pendingSet = none ∨ (∃ p, u.pendingSet = some p ∧ p.length ≠ u.active.length) →
      (continueStart t ev s).averagerRam = s.averagerRam) ∧
    -- the rest
    (∀ k, k ≠ t → (continueStart t ev s).records k = s.records k ∧ (continueStart t ev s).track k = s.track k ∧
      (continueStart t ev s).lane k = s.lane k ∧ (continueStart t ev s).map k = s.map k ∧
      (continueStart t ev s).writePosition k = s.writePosition k ∧
      (continueStart t ev s).averager k = s.averager k) ∧
    (continueStart t ev s).markerA = s.markerA ∧ (continueStart t ev s).markerB = s.markerB ∧
    (continueStart t ev s).owners = s.owners ∧ (continueStart t ev s).dram = s.dram ∧
    (continueStart t ev s).dramCheck = s.dramCheck ∧ (continueStart t ev s).check = s.check ∧
    (continueStart t ev s).mem.banks = s.mem.banks ∧ (continueStart t ev s).mem.balance = s.mem.balance ∧
    (continueStart t ev s).link = s.link

/-- A marker event reaches a track bound to the unit and sets its previous marker time after it has acted. In ARMED a
synthetic one does nothing more; otherwise it ends a FILLING sweep SHORT, which may complete the run, and starts a sweep,
or is held back with two incomplete sweeps; in STOPPING the SHORT end takes the track to IDLE. Every track takes the event
alike, whatever the order of the tracks, which is the command's (log 4). -/
def Obligations.MarkerEventActsByTrackState : Prop :=
  (∀ (order : List Track) (ev : MarkerEvent) (s : State) (t : Track),
    (emit order ev s).track t = (takeEvent ev t s).track t ∧
    (emit order ev s).records t = (takeEvent ev t s).records t ∧
    (emit order ev s).lane t = (takeEvent ev t s).lane t ∧ (emit order ev s).map t = (takeEvent ev t s).map t ∧
    (emit order ev s).writePosition t = (takeEvent ev t s).writePosition t ∧
    (emit order ev s).averager t = (takeEvent ev t s).averager t) ∧
  (∀ (ev : MarkerEvent) (t : Track) (s : State) (u : TrackUnit) (done : Nat) (marked : State → State),
    IndexInOrder s → u = s.track t → done = min 65535 (u.sweepsDone + 1) →
    (∀ x, marked x = x.putTrack t { x.track t with prevMarker := some ev.time }) →
    (u.selected ≠ some ev.unit ∨ u.state = .idle ∨ (∃ h, u.state = .halted h) → takeEvent ev t s = s) ∧
    (u.selected = some ev.unit →
      (u.state = .armed → ev.synthetic = true → takeEvent ev t s = marked s) ∧
      (u.state = .armed ∧ ev.synthetic = false ∨ u.state = .awaiting →
        (2 ≤ ((s.records t).filter (fun y => y.state ≠ .complete)).length → takeEvent ev t s = marked s) ∧
        (((s.records t).filter (fun y => y.state ≠ .complete)).length < 2 →
          takeEvent ev t s = marked (continueStart t ev s))) ∧
      (∀ (f : SweepRecord) (x y : State) (idle : StopReason → State), fillingRecord s t = some f →
        -- the FILLING sweep ends SHORT
        x = ((s.putRecords t ((s.records t).map (fun rec =>
              if rec.seq = f.seq then { f with state := .draining, short := true } else rec))).putLane t
            { flag := none, baseSum := 0, baseCount := 0 }).putTrack t { u with schedule := none, sweepsDone := done } →
        y = averagerSweepEnd t f.seq true x →
        (∀ why, idle why = post (Source.trackStopped t) (.trackStopped why done u.seqCounter)
          (y.putTrack t { u with schedule := none, sweepsDone := done, state := .idle, selected := none })) →
        (u.armCount ≠ 0 → done = u.armCount → takeEvent ev t s = marked (idle .countDone)) ∧
        (u.armCount = 0 ∨ done ≠ u.armCount →
          (u.state = .stopping → takeEvent ev t s = marked (idle .stopped)) ∧
          (u.state = .sweeping →
            (2 ≤ ((s.records t).filter (fun y => y.state ≠ .complete)).length →
              takeEvent ev t s =
                marked (y.putTrack t { u with schedule := none, sweepsDone := done, state := .awaiting })) ∧
            (((s.records t).filter (fun y => y.state ≠ .complete)).length < 2 →
              takeEvent ev t s = marked (continueStart t ev y)))))))

/-- What a lock and a loss announcement do to a track. The first lock selects its unit for an ARMED track under AUTO that
has none. The loss of its selected unit removes a FILLING sweep and takes the track to ARMED, selecting again under AUTO,
or from STOPPING to IDLE with a notice. Every track takes the announcement alike, whatever the order of the tracks, which
is the command's (log 4). -/
def Obligations.AnnouncementsActOnTracks : Prop :=
  (∀ (order : List Track) (unit : MarkerId) (s : State),
    announceLock order unit s = s.setTracks (announceLock order unit s).tracks ∧
    ∀ t,
      ((s.track t).state = .armed → (s.track t).active.markerSelect = .auto → (s.track t).selected = none →
        (announceLock order unit s).track t = { s.track t with selected := some unit, prevMarker := none }) ∧
      ((s.track t).state ≠ .armed ∨ (s.track t).active.markerSelect ≠ .auto ∨ (s.track t).selected ≠ none →
        (announceLock order unit s).track t = s.track t)) ∧
  (∀ (order : List Track) (unit : MarkerId) (s x : State), x = announceLoss order unit s →
    (∀ t : Track,
      ((s.track t).selected ≠ some unit →
        x.track t = s.track t ∧ x.records t = s.records t ∧ x.lane t = s.lane t ∧ x.map t = s.map t ∧
        x.averager t = s.averager t) ∧
      ((s.track t).selected = some unit → ∀ (sel : Option MarkerId) (prev : Option Time),
        ((s.track t).active.markerSelect = .auto → ChosenUnit s sel ∧ prev = none) →
        ((s.track t).active.markerSelect ≠ .auto → sel = some unit ∧ prev = (s.track t).prevMarker) →
        ((s.track t).state = .armed ∨ (s.track t).state = .awaiting →
          x.track t = { s.track t with state := .armed, selected := sel, prevMarker := prev } ∧
          x.records t = s.records t ∧ x.lane t = s.lane t ∧ x.map t = s.map t ∧ x.averager t = s.averager t) ∧
        (∀ (f : SweepRecord) (u : TrackUnit), fillingRecord s t = some f →
          u =
            { s.track t with
              schedule := none, fifo := (s.track t).fifo.filter (fun e => e.seq ≠ f.seq),
              cursor := (s.track t).cursor.filter (fun c => c.seq ≠ f.seq) } →
          ((s.track t).state = .sweeping →
            x.track t = { u with state := .armed, selected := sel, prevMarker := prev }) ∧
          ((s.track t).state = .stopping → x.track t = { u with state := .idle, selected := none }) ∧
          ((s.track t).state = .sweeping ∨ (s.track t).state = .stopping →
            x.records t = (s.records t).filter (fun y => y.seq ≠ f.seq) ∧
            x.lane t = { flag := none, baseSum := 0, baseCount := 0 } ∧
            x.map t = (if f.kept then (s.map t).map (fun c =>
              if f.firstPage ≤ c.1 ∧ c.1 < f.firstPage + (f.length + 511) / 512 then
                (c.1, { c.2 with keep := false }) else c) else s.map t) ∧
            x.averager t = (averagerSweepRemoved t f.seq s).averager t)))) ∧
    x.markerA = s.markerA ∧ x.markerB = s.markerB ∧ x.owners = s.owners ∧ x.writePos = s.writePos ∧
    x.dram = s.dram ∧ x.dramCheck = s.dramCheck ∧ x.check = s.check ∧ x.readout = s.readout ∧ x.link = s.link) ∧
  (∀ (unit : MarkerId) (t : Track) (s : State),
    ((s.track t).selected = some unit → (s.track t).state = .stopping →
      (takeLoss unit t s).notices = s.notices.post (Source.trackStopped t)
        (.trackStopped .stopped (s.track t).sweepsDone (s.track t).seqCounter)) ∧
    ((s.track t).selected ≠ some unit ∨ (s.track t).state ≠ .stopping → (takeLoss unit t s).notices = s.notices))

/-! ## Page maps -/

/-- One load item. A MAP item enters the page and its owner and frees the page it replaces; an UNMAP item frees the page
and clears the entry. A sweep on the logical page is retired: its record leaves, its reads end OVERTAKEN, and a DRAINING
one's staging entries and write cursor go and its burst completes unheeded. Nothing else changes. A LOAD_MAP of one item
that passes the checks applies it and answers OK with the count 1. -/
def Obligations.LoadItemKeepsMapAndOwners : Prop :=
  (∀ (s x : State) (t : Track) (l : Nat) (item : LoadItem) (found : Option SweepRecord),
    x = applyItem t l item s →
    found = (s.records t).find? (fun y => y.firstPage ≤ l && l < y.firstPage + (y.length + 511) / 512) →
    (∀ e, tget (s.map t) l = some e → e.keep = false) → (∀ f, found = some f → f.kept = false) →
    -- the entry and the owners
    (∀ p hp, item = .map p hp →
      (∀ k, tget (x.map t) k =
        if k = l then some { page := p, hostProtect := hp, keep := false } else tget (s.map t) k) ∧
      (∀ e, tget (s.map t) l = some e → e.page = p → x.owners = s.owners) ∧
      ((∀ e, tget (s.map t) l = some e → e.page ≠ p) → ∀ a,
        tget x.owners a =
          if a = p.toNat then some { track := t, logical := l }
          else if (tget (s.map t) l).any (fun e => e.page.toNat = a) then none
          else tget s.owners a)) ∧
    (item = .unmap →
      (∀ k, tget (x.map t) k = if k = l then none else tget (s.map t) k) ∧
      (∀ a, tget x.owners a =
        if (tget (s.map t) l).any (fun e => e.page.toNat = a) then none else tget s.owners a)) ∧
    -- the sweep on the page
    (found = none → x.records t = s.records t ∧ x.track t = s.track t ∧ x.readout = s.readout ∧ x.mem = s.mem) ∧
    (∀ f, found = some f →
      x.records t = (s.records t).filter (fun y => y.seq ≠ f.seq) ∧
      x.readout.queue = s.readout.queue.filter (fun q => !q.ofSweep t f.seq) ∧
      x.readout.ended = s.readout.ended ++ (s.readout.queue.filter (fun q => q.ofSweep t f.seq)).map (fun q =>
        { tag := q.tag, mean := false, position := q.firstPos + q.delivered, status := .overtaken,
          delivered := q.delivered }) ∧
      (f.state = .draining →
        x.track t =
          { s.track t with
            fifo := (s.track t).fifo.filter (fun e => e.seq ≠ f.seq),
            cursor := (s.track t).cursor.filter (fun c => c.seq ≠ f.seq) }) ∧
      (f.state ≠ .draining → x.track t = s.track t) ∧
      x.mem = { s.mem with
        granted := s.mem.granted.map (fun b =>
          if (b.isRead && s.readout.queue.head?.any (fun q => q.ofSweep t f.seq)) ||
              (!b.isRead && f.state = .draining && b.track = t && b.seq = f.seq) then { b with heeded := false }
          else b) }) ∧
    -- the rest
    (∀ k, k ≠ t → x.map k = s.map k ∧ x.records k = s.records k ∧ x.track k = s.track k) ∧
    x = { s with
      maps := x.maps, owners := x.owners, index := x.index, tracks := x.tracks, readout := x.readout, mem := x.mem }) ∧
  (∀ (dt : Nat) (s : State) (r : RawRequest) (rest : List RawRequest) (t : Track) (l : Nat) (item : LoadItem),
    Serves s r rest (.loadMap t.val l [item]) →
    ¬ ((s.track t).state = .armed ∨ (s.track t).state = .sweeping ∨ (s.track t).state = .awaiting ∨
      (s.track t).state = .stopping) →
    itemFault s t l item = none →
    exec (.loadMap dt) s = .next (follow (addReply true r .ok [1, 0] (applyItem t l item (handed dt s rest)))))

/-- LOAD_MAP as a whole and in its list order: the checks on the request, the order of the checks on an item, and the
stop at the first item that fails, with the items before it applied and counted. `applyItems` applies the first item at
its logical page, as LoadItemKeepsMapAndOwners says, and the rest from the next page on, with the count one higher. -/
def Obligations.LoadMapStopsAtFirstFailingItem : Prop :=
  (∀ (dt : Nat) (s : State) (r : RawRequest) (rest : List RawRequest) (t : Track) (first : Nat) (items : List LoadItem),
    Serves s r rest (.loadMap t.val first items) →
    (items = [] ∨ 256 < items.length →
      exec (.loadMap dt) s = .next (addReply true r .badField [0, 0] (handed dt s rest))) ∧
    (items ≠ [] → items.length ≤ 256 →
      ((s.track t).state = .armed ∨ (s.track t).state = .sweeping ∨ (s.track t).state = .awaiting ∨
          (s.track t).state = .stopping →
        exec (.loadMap dt) s = .next (addReply true r .busy [0, 0] (handed dt s rest))) ∧
      ((s.track t).state = .idle ∨ (∃ h, (s.track t).state = .halted h) →
        (∀ (pre post : List LoadItem) (x : LoadItem) (s' : State) (st : Status),
          items = pre ++ x :: post → applyItems t first pre (handed dt s rest) = (.ok, pre.length, s') →
          itemFault s' t (first + pre.length) x = some st →
          exec (.loadMap dt) s = .next (follow (addReply true r st (leBytes 2 pre.length) s'))) ∧
        (∀ s', applyItems t first items (handed dt s rest) = (.ok, items.length, s') →
          exec (.loadMap dt) s = .next (follow (addReply true r .ok (leBytes 2 items.length) s')))))) ∧
  (∀ (s : State) (t : Track) (l : Nat) (x : LoadItem) (rest : List LoadItem),
    applyItems t l [] s = (.ok, 0, s) ∧
    (itemFault s t l x = none → ∀ st n s', applyItems t (l + 1) rest (applyItem t l x s) = (st, n, s') →
      applyItems t l (x :: rest) s = (st, n + 1, s')) ∧
    (∀ st, itemFault s t l x = some st → applyItems t l (x :: rest) s = (st, 0, s))) ∧
  (∀ (s : State) (t : Track) (l : Nat) (x : LoadItem),
    (2047 < l → itemFault s t l x = some .badField) ∧
    (l ≤ 2047 →
      (∀ e, tget (s.map t) l = some e → e.keep = true → itemFault s t l x = some .protectedMark) ∧
      ((∀ e, tget (s.map t) l = some e → e.keep = false) →
        (x = .unmap → itemFault s t l x = none) ∧
        (∀ p hp, x = .map p hp →
          (tget s.owners p.toNat = none → itemFault s t l x = none) ∧
          (tget s.owners p.toNat = some { track := t, logical := l } → itemFault s t l x = none) ∧
          (∀ o, tget s.owners p.toNat = some o → o ≠ { track := t, logical := l } →
            itemFault s t l x = some .conflict)))))

/-! ## Queries of the capture units, and the index -/

/-- MARKER_STATUS, TRACK_STATUS, CHECK_PAGE, PAGE_OWNER, LIST_SWEEPS, SWEEP_INFO, MEMORY_STATUS, READ_FAULT,
AVERAGER_STATUS and NOTICE_STATUS: the reply, and no other change but that MARKER_STATUS then clears the early flag. The
sizes of the counts and settings in the reply of MARKER_STATUS, and that NOTICE_STATUS sends no number of entries, are
the model's reading (log 9). -/
def Obligations.QueriesReportTheirUnits : Prop :=
  (∀ (dt : Nat) (s : State) (r : RawRequest) (rest : List RawRequest) (n : Nat), Serves s r rest (.markerStatus n) →
    (∀ u, n = (unitByte u).toNat →
      exec (.markerStatus dt) s =
        .next (addReply true r .ok
          ([(s.marker u).state.code, polarityByte (s.marker u).detected] ++ leBytes 4 (s.marker u).estimate
            ++ leBytes 2 (s.marker u).count ++ leBytes 2 (s.marker u).coast ++ [flagByte (s.marker u).early]
            ++ (match (s.marker u).lastMarker with
                | none => [0, 0, 0, 0, 0, 0, 0]
                | some x => 1 :: leBytes 6 x.toNat)
            ++ [(s.marker u).settings.polarityMode.code] ++ leBytes 1 (s.marker u).settings.minWidth
            ++ leBytes 1 (s.marker u).settings.tolerance ++ leBytes 1 (s.marker u).settings.coastLimit)
          ((handed dt s rest).putMarker u { s.marker u with early := false }))) ∧
    (2 ≤ n → exec (.markerStatus dt) s = .next (addReply true r .badField [] (handed dt s rest)))) ∧
  (∀ (dt : Nat) (s : State) (r : RawRequest) (rest : List RawRequest) (t : Track),
    (Serves s r rest (.trackStatus t.val) →
      exec (.trackStatus dt) s =
        .next (addReply true r .ok
          ([(s.track t).state.code, (s.track t).state.haltByte, unitOrNone (s.track t).selected]
            ++ leBytes 2 (s.track t).armCount ++ leBytes 2 (s.track t).sweepsDone ++ leBytes 4 (s.track t).seqCounter
            ++ [flagByte (s.track t).spent] ++ leBytes 2 (s.track t).fifo.length
            ++ leBytes 2 (s.track t).generation.toNat ++ leInt 2 (s.track t).offsetInUse
            ++ [flagByte (s.track t).pendingSet.isSome] ++ leBytes 1 (s.track t).intervalCount
            ++ [flagByte (s.track t).updateRequest])
          (handed dt s rest))) ∧
    (∀ l, Serves s r rest (.checkPage t.val l) →
      (2047 < l → exec (.checkPage dt) s = .next (addReply true r .badField [] (handed dt s rest))) ∧
      (l ≤ 2047 →
        exec (.checkPage dt) s =
          .next (addReply true r .ok
            ((match tget (s.map t) l with
              | none => [0, 0, 0, 0, 0]
              | some e => 1 :: leBytes 2 e.page.toNat ++ [flagByte e.hostProtect, flagByte e.keep])
            ++ (match (s.records t).find? (fun y => y.firstPage ≤ l && l < y.firstPage + (y.length + 511) / 512) with
                | none => [0, 0, 0, 0, 0]
                | some f => 1 :: leBytes 4 f.seq))
            (handed dt s rest)))) ∧
    (∀ p, Serves s r rest (.pageOwner p) →
      exec (.pageOwner dt) s =
        .next (addReply true r .ok
          (match tget s.owners p with
           | none => [0, 0, 0, 0]
           | some o => 1 :: BitVec.ofNat 8 o.track.val :: leBytes 2 o.logical)
          (handed dt s rest))) ∧
    (∀ fromSeq most, Serves s r rest (.listSweeps t.val fromSeq most) →
      (most = 0 ∨ 16 < most → exec (.listSweeps dt) s = .next (addReply true r .badField [] (handed dt s rest))) ∧
      (1 ≤ most → most ≤ 16 →
        ∀ hits, hits = (s.records t).filter (fun y => fromSeq ≤ y.seq) →
        exec (.listSweeps dt) s =
          .next (addReply true r .ok
            (leBytes 1 (min most hits.length) ++ leBytes 2 (hits.length - most)
              ++ (hits.take most).flatMap recordBytes)
            (handed dt s rest)))) ∧
    (∀ seq, Serves s r rest (.sweepInfo t.val seq) →
      ((∀ y ∈ s.records t, y.seq ≠ seq) →
        exec (.sweepInfo dt) s = .next (addReply true r .noSuch [] (handed dt s rest))) ∧
      (∀ y, (s.records t).find? (fun y => y.seq = seq) = some y →
        exec (.sweepInfo dt) s = .next (addReply true r .ok (recordBytes y) (handed dt s rest))))) ∧
  (∀ (dt : Nat) (s : State) (r : RawRequest) (rest : List RawRequest),
    (Serves s r rest .memoryStatus →
      exec (.memoryStatus dt) s =
        .next (addReply true r .ok
          ([s.mem.state.code] ++ leInt 1 s.mem.balance ++ [flagByte s.mem.reentry]
            ++ (List.finRange 8).flatMap (fun b : BankId =>
                match s.mem.banks[b].row with
                | none => [0, 0, 0]
                | some row => 1 :: leBytes 2 row)
            ++ [flagByte s.mem.autoEnable] ++ leBytes 1 s.mem.autoDelay)
          (handed dt s rest))) ∧
    (Serves s r rest .readFault →
      exec (.readFault dt) s =
        .next (addReply true r .ok
          ((match s.check.lastCorrected with
            | none => [0, 0, 0, 0, 0, 0, 0, 0, 0, 0, 0]
            | some w => 1 :: wordFaultBytes w)
            ++ (match s.check.firstUncorrectable with
                | none => [0, 0, 0, 0, 0, 0, 0, 0, 0, 0, 0, 0, 0, 0, 0, 0, 0, 0]
                | some f => 1 :: memoryFaultBytes f)
            ++ [flagByte s.check.more, s.check.mode.code]
            ++ (match s.check.inject with
                | none => [0, 0, 0]
                | some i => [1, BitVec.ofNat 8 i.1.val, i.2.code]))
          (handed dt s rest))) ∧
    (∀ t : Track, Serves s r rest (.averagerStatus t.val) →
      exec (.averagerStatus dt) s =
        .next (addReply true r .ok
          ([flagByte (s.averager t).region.isSome, (s.averager t).reason.code]
            ++ (match (s.averager t).region with
                | none => [0, 0, 0, 0]
                | some g => leBytes 2 g.base ++ leBytes 2 (2 * g.length))
            ++ leBytes 2 (s.averager t).k ++ [flagByte (s.averager t).includeCoasted]
            ++ leBytes 2 (s.averager t).blockCount
            ++ (match (s.averager t).blockLast with
                | none => [0, 0, 0, 0, 0]
                | some q => 1 :: leBytes 4 q)
            ++ [flagByte (s.averager t).publication.isSome, flagByte (s.averager t).published]
            ++ leBytes 2 (s.averager t).pubNumber.toNat
            ++ (match (s.averager t).pubLast with
                | none => [0, 0, 0, 0, 0]
                | some q => 1 :: leBytes 4 q))
          (handed dt s rest))) ∧
    (Serves s r rest .noticeStatus →
      exec (.noticeStatus dt) s =
        .next (addReply true r .ok
          (leBytes 1 s.notices.threshold
            ++ (List.finRange 30).flatMap (fun src : Source => leBytes 1 (s.notices.level src))
            ++ s.notices.entries.flatMap (fun e =>
                BitVec.ofNat 8 e.source.val :: leBytes 1 (s.notices.level e.source) ++ [flagByte e.again]
                  ++ e.occurrence.bytes))
          (handed dt s rest))))

/-- KEEP_SWEEP, RELEASE_SWEEP and DROP_SWEEP: their refusals in order, and the record and the keep marks of its pages
changed together. A dropped sweep's reads end OVERTAKEN. -/
def Obligations.KeptSweepsAndTheirMarks : Prop :=
  ∀ (dt : Nat) (s : State) (r : RawRequest) (rest : List RawRequest) (t : Track) (seq : Nat),
    ((∀ y ∈ s.records t, y.seq ≠ seq) →
      (Serves s r rest (.keepSweep t.val seq) →
        exec (.keepSweep dt) s = .next (addReply true r .noSuch [] (handed dt s rest))) ∧
      (Serves s r rest (.releaseSweep t.val seq) →
        exec (.releaseSweep dt) s = .next (addReply true r .noSuch [] (handed dt s rest))) ∧
      (Serves s r rest (.dropSweep t.val seq) →
        exec (.dropSweep dt) s = .next (addReply true r .noSuch [] (handed dt s rest)))) ∧
    (∀ f, (s.records t).find? (fun y => y.seq = seq) = some f →
      (Serves s r rest (.keepSweep t.val seq) →
        (f.kept = true → exec (.keepSweep dt) s = .next (addReply true r .ok [] (handed dt s rest))) ∧
        (f.kept = false → 32 ≤ ((s.records t).filter (fun y => y.kept)).length →
          exec (.keepSweep dt) s = .next (addReply true r .full [] (handed dt s rest))) ∧
        (f.kept = false → ((s.records t).filter (fun y => y.kept)).length < 32 →
          exec (.keepSweep dt) s =
            .next (addReply true r .ok []
              (((handed dt s rest).putRecords t
                ((s.records t).map (fun y => if y.seq = seq then { y with kept := true } else y))).putMap t
                ((s.map t).map (fun c =>
                  if f.firstPage ≤ c.1 ∧ c.1 < f.firstPage + (f.length + 511) / 512 then
                    (c.1, { c.2 with keep := true }) else c)))))) ∧
      (Serves s r rest (.releaseSweep t.val seq) →
        (f.kept = false → exec (.releaseSweep dt) s = .next (addReply true r .ok [] (handed dt s rest))) ∧
        (f.kept = true →
          exec (.releaseSweep dt) s =
            .next (addReply true r .ok []
              (((handed dt s rest).putRecords t
                ((s.records t).map (fun y => if y.seq = seq then { y with kept := false } else y))).putMap t
                ((s.map t).map (fun c =>
                  if f.firstPage ≤ c.1 ∧ c.1 < f.firstPage + (f.length + 511) / 512 then
                    (c.1, { c.2 with keep := false }) else c)))))) ∧
      (Serves s r rest (.dropSweep t.val seq) →
        (f.state ≠ .complete → exec (.dropSweep dt) s = .next (addReply true r .busy [] (handed dt s rest))) ∧
        (f.state = .complete →
          ∃ x, exec (.dropSweep dt) s = .next x ∧
            x.records t = (s.records t).filter (fun y => y.seq ≠ seq) ∧
            x.map t = (if f.kept then (s.map t).map (fun c =>
              if f.firstPage ≤ c.1 ∧ c.1 < f.firstPage + (f.length + 511) / 512 then
                (c.1, { c.2 with keep := false }) else c) else s.map t) ∧
            x.readout.queue = s.readout.queue.filter (fun y => !(y.ofSweep t seq)) ∧
            x.readout.ended = s.readout.ended ++ (s.readout.queue.filter (fun y => y.ofSweep t seq)).map (fun y =>
              { tag := y.tag, mean := false, position := y.firstPos + y.delivered, status := .overtaken,
                delivered := y.delivered }) ∧
            x.link.replies = s.link.replies ++ [{ own := true, code := r.code, tag := r.tag, payload := [0] }] ∧
            x.tracks = s.tracks ∧ x.owners = s.owners ∧ x.writePos = s.writePos ∧ x.dram = s.dram ∧
            (∀ k, k ≠ t → x.records k = s.records k ∧ x.map k = s.map k))))


/-! ## Memory controller -/

/-- STANDBY and WAKE by the memory state. In RUNNING and in an entry, STANDBY needs every track IDLE, HALTED or ARMED,
an empty read queue and a clear re-entry flag. The entry's stages are the controller's own (`settle`,
log 17; ControllerReactsAtStepEnd says each): with bursts granted it waits, and with nothing to do it completes at once,
and goes straight on to WAKING with a held wake or a held burst request. -/
def Obligations.StandbyAndWakeByMemoryState : Prop :=
  ∀ (dt : Nat) (s : State) (r : RawRequest) (rest : List RawRequest) (able : Prop),
    (able ↔
      (∀ t, (s.track t).state ≠ .sweeping ∧ (s.track t).state ≠ .awaiting ∧ (s.track t).state ≠ .stopping) ∧
        s.readout.queue = [] ∧ s.mem.reentry = false) →
    (Serves s r rest .standby →
      (s.mem.state = .running → able →
        exec (.standby dt) s =
          .next (settle (((handed dt s rest).setLink { s.link with queue := rest, inHand := some r }).setMem
            { s.mem with state := .entering .request, autoTimer := s.mem.autoTimer.advance dt })) ∧
        (s.mem.granted ≠ [] →
          ∃ x, exec (.standby dt) s = .next x ∧ x.mem.state = .entering .request ∧ x.mem.granted = s.mem.granted ∧
            x.link.inHand = some r ∧ x.link.replies = s.link.replies) ∧
        (s.mem.granted = [] → s.mem.refresh = .none → s.mem.balance ≤ 0 →
          (∀ b : BankId, s.mem.banks[b] = { row := none, step := .none }) →
          ∃ x, exec (.standby dt) s = .next x ∧ x.mem.balance = s.mem.balance ∧
            x.mem.state =
              (if s.mem.heldWake then .waking .wake
               else if burstRequested s then .waking .burst
               else .standby) ∧
            x.link.inHand = none ∧
            x.link.replies = s.link.replies ++ [{ own := true, code := r.code, tag := r.tag, payload := [0] }] ∧
            x.notices = s.notices.post Source.standbyChange
              (.standbyChange (.standby .request) (s.time + BitVec.ofNat 48 dt) s.mem.balance))) ∧
      ((∃ c, s.mem.state = .entering c) → able →
        exec (.standby dt) s =
          .next ((handed dt s rest).setLink { s.link with queue := rest, inHand := some r })) ∧
      (s.mem.state = .running ∨ (∃ c, s.mem.state = .entering c) → ¬ able →
        exec (.standby dt) s = .next (addReply true r .busy [] (handed dt s rest))) ∧
      (s.mem.state = .standby → exec (.standby dt) s = .next (addReply true r .ok [] (handed dt s rest))) ∧
      ((∃ c, s.mem.state = .waking c) →
        exec (.standby dt) s = .next (addReply true r .busy [] (handed dt s rest)))) ∧
    (Serves s r rest .wake →
      (s.mem.state = .running → exec (.wake dt) s = .next (addReply true r .ok [] (handed dt s rest))) ∧
      (s.mem.state = .standby →
        exec (.wake dt) s =
          .next (((handed dt s rest).setLink { s.link with queue := rest, inHand := some r }).setMem
            { s.mem with state := .waking .wake, autoTimer := s.mem.autoTimer.advance dt })) ∧
      ((∃ c, s.mem.state = .waking c) →
        exec (.wake dt) s = .next ((handed dt s rest).setLink { s.link with queue := rest, inHand := some r })) ∧
      ((∃ c, s.mem.state = .entering c) →
        exec (.wake dt) s =
          .next (((handed dt s rest).setLink { s.link with queue := rest, inHand := some r }).setMem
            { s.mem with heldWake := true, autoTimer := s.mem.autoTimer.advance dt })))

/-- What the controller begins by itself at the end of a step, at once (log 17). `follow` starts a waking that a burst
request asks for in STANDBY, and the delay timer follows its conditions. `settle` does the same after the controller's own
stages: each bank takes the step its head burst needs, the free data path goes to the ready head burst of the earliest
grant, a waiting refresh closes the open banks when the last earlier burst has completed and begins when no step is left,
and an entry with nothing granted grants a refresh while B is above 0, then closes the open banks, then completes: posting,
the STANDBY reply, and waking at once for a held wake or a held burst request, with cause WAKE before BURST. -/
def Obligations.ControllerReactsAtStepEnd : Prop :=
  ∀ (s x : State) (wanted quiet still : Prop) (woken : MemState) (shut : BankId → Bank),
    (wanted ↔ (∃ t, writerRequests s t = true) ∨ engineBlock s ≠ none) →
    (s.mem.state = .standby → wanted → woken = .waking .burst) →
    (s.mem.state ≠ .standby ∨ ¬ wanted → woken = s.mem.state) →
    (quiet ↔ s.mem.autoEnable = true ∧ s.markerA.state = .noSignal ∧ s.markerB.state = .noSignal ∧
      (∀ t, (s.track t).state ≠ .sweeping ∧ (s.track t).state ≠ .awaiting ∧ (s.track t).state ≠ .stopping) ∧
      s.readout.queue = [] ∧ x.mem.state = .running) →
    (still ↔ ∀ b : BankId, x.mem.banks[b].step = .none) →
    (∀ b : BankId, (s.mem.banks[b].row = none → shut b = s.mem.banks[b]) ∧
      (s.mem.banks[b].row ≠ none → shut b = { row := none, step := .closing })) →
    -- the delay timer
    (x = follow s ∨ x = settle s →
      (quiet → s.mem.autoTimer = .stopped → x.mem.autoTimer = .running 0) ∧
      (quiet → s.mem.autoTimer ≠ .stopped → x.mem.autoTimer = s.mem.autoTimer) ∧
      (¬ quiet → x.mem.autoTimer = .stopped)) ∧
    (x = follow s → x = s.setMem { s.mem with state := woken, autoTimer := x.mem.autoTimer }) ∧
    (x = settle s →
      -- what no reaction changes
      x = ((s.setMem x.mem).setNotices x.notices).setLink x.link ∧
      x.mem =
        { s.mem with
          banks := x.mem.banks, dataPath := x.mem.dataPath, refresh := x.mem.refresh, state := x.mem.state,
          autoTimer := x.mem.autoTimer } ∧
      -- bursts are granted
      (s.mem.granted ≠ [] →
        (∀ b : BankId,
          ((∀ y ∈ s.mem.granted, y.page.toNat % 8 ≠ b.val) ∨ s.mem.dataPath = some b ∨ s.mem.banks[b].step ≠ .none →
            x.mem.banks[b] = s.mem.banks[b]) ∧
          (∀ h, s.mem.granted.find? (fun y => y.page.toNat % 8 = b.val) = some h → s.mem.dataPath ≠ some b →
            s.mem.banks[b].step = .none →
            (s.mem.banks[b].row = none → x.mem.banks[b] = { row := none, step := .opening (h.page.toNat / 8) }) ∧
            (s.mem.banks[b].row = some (h.page.toNat / 8) → x.mem.banks[b] = s.mem.banks[b]) ∧
            (∀ row, s.mem.banks[b].row = some row → row ≠ h.page.toNat / 8 →
              x.mem.banks[b] = { row := none, step := .closing }))) ∧
        (s.mem.dataPath ≠ none → x.mem.dataPath = s.mem.dataPath) ∧
        (s.mem.dataPath = none →
          x.mem.dataPath = (s.mem.granted.find? (fun y =>
            s.mem.granted.find? (fun z => z.page.toNat % 8 = y.page.toNat % 8) = some y &&
              x.mem.banks[y.bank] = { row := some (y.page.toNat / 8), step := .none })).map Burst.bank) ∧
        (s.mem.refresh = .closing → still → x.mem.refresh = .inFlight) ∧
        (s.mem.refresh ≠ .closing ∨ ¬ still → x.mem.refresh = s.mem.refresh) ∧
        x.mem.state = woken ∧ x.notices = s.notices ∧ x.link = s.link) ∧
      -- no burst is granted
      (s.mem.granted = [] →
        x.mem.dataPath = s.mem.dataPath ∧
        (s.mem.refresh = .waiting ∨
            s.mem.refresh = .none ∧ (∃ c, s.mem.state = .entering c) ∧ 0 < s.mem.balance →
          (∀ b : BankId, x.mem.banks[b] = shut b) ∧ (still → x.mem.refresh = .inFlight) ∧
          (¬ still → x.mem.refresh = .closing) ∧ x.mem.state = woken ∧ x.notices = s.notices ∧ x.link = s.link) ∧
        (s.mem.refresh = .closing →
          x.mem.banks = s.mem.banks ∧ (still → x.mem.refresh = .inFlight) ∧ (¬ still → x.mem.refresh = .closing) ∧
          x.mem.state = woken ∧ x.notices = s.notices ∧ x.link = s.link) ∧
        (s.mem.refresh = .inFlight ∨ s.mem.refresh = .none ∧ (∀ c, s.mem.state ≠ .entering c) →
          x.mem.banks = s.mem.banks ∧ x.mem.refresh = s.mem.refresh ∧ x.mem.state = woken ∧ x.notices = s.notices ∧
          x.link = s.link) ∧
        (∀ c, s.mem.state = .entering c → s.mem.refresh = .none → s.mem.balance ≤ 0 →
          x.mem.refresh = .none ∧ (∀ b : BankId, x.mem.banks[b] = shut b) ∧
          ((∃ b : BankId, s.mem.banks[b].row ≠ none ∨ s.mem.banks[b].step ≠ .none) →
            x.mem.state = .entering c ∧ x.notices = s.notices ∧ x.link = s.link) ∧
          ((∀ b : BankId, s.mem.banks[b] = { row := none, step := .none }) →
            x.notices = s.notices.post Source.standbyChange (.standbyChange (.standby c) s.time s.mem.balance) ∧
            (s.mem.heldWake = true → x.mem.state = .waking .wake) ∧
            (s.mem.heldWake = false → wanted → x.mem.state = .waking .burst) ∧
            (s.mem.heldWake = false → ¬ wanted → x.mem.state = .standby) ∧
            (∀ r, s.link.inHand = some r → r.code = 0x40 →
              x.link =
                { s.link with
                  inHand := none,
                  replies := s.link.replies ++ [{ own := true, code := r.code, tag := r.tag, payload := [0] }] }) ∧
            ((∀ r, s.link.inHand = some r → r.code ≠ 0x40) → x.link = s.link)))))

/-- SET_AUTO_STANDBY refuses a delay outside 1..255 and otherwise stores the settings and starts the timer from zero
exactly when the four conditions hold; AUTO_STANDBY_DELAY_EXPIRY begins an entry with cause AUTO when the delay has
passed, or waits for the re-entry flag. That an expiry whose delay has not passed, or with no delay running, only settles
is the model's choice (log 2), as is an expiry after its instant (log 5) and that a left-out delay keeps its value
(log 25). -/
def Obligations.AutoStandbyTimerAndExpiry : Prop :=
  ∀ (dt : Nat) (s : State),
    (∀ (r : RawRequest) (rest : List RawRequest) (enable : Bool) (delay : Option Nat) (quiet : Prop),
      (quiet ↔ s.markerA.state = .noSignal ∧ s.markerB.state = .noSignal ∧
        (∀ t, (s.track t).state ≠ .sweeping ∧ (s.track t).state ≠ .awaiting ∧ (s.track t).state ≠ .stopping) ∧
        s.readout.queue = [] ∧ s.mem.state = .running) →
      Serves s r rest (.setAutoStandby enable delay) →
      ((∃ d, delay = some d ∧ (d = 0 ∨ 255 < d)) →
        exec (.setAutoStandby dt) s = .next (addReply true r .badField [] (handed dt s rest))) ∧
      ((∀ d, delay = some d → 1 ≤ d ∧ d ≤ 255) →
        (enable = true → quiet →
          exec (.setAutoStandby dt) s =
            .next (addReply true r .ok [] ((handed dt s rest).setMem
              { s.mem with
                autoEnable := true, autoDelay := delay.getD s.mem.autoDelay, autoTimer := .running 0 }))) ∧
        (enable = false ∨ ¬ quiet →
          exec (.setAutoStandby dt) s =
            .next (addReply true r .ok [] ((handed dt s rest).setMem
              { s.mem with
                autoEnable := enable, autoDelay := delay.getD s.mem.autoDelay, autoTimer := .stopped }))))) ∧
    (s.resetHeld = false →
      (∀ e, s.mem.autoTimer = .running e →
        (e + dt < s.mem.autoDelay * 4000000 →
          exec (.autoStandbyDelayExpiry dt) s = .next (settle (elapse dt s))) ∧
        (s.mem.autoDelay * 4000000 ≤ e + dt → s.mem.reentry = true →
          exec (.autoStandbyDelayExpiry dt) s =
            .next (settle ((elapse dt s).setMem { s.mem with autoTimer := .expired }))) ∧
        (s.mem.autoDelay * 4000000 ≤ e + dt → s.mem.reentry = false →
          exec (.autoStandbyDelayExpiry dt) s =
            .next (settle ((elapse dt s).setMem
              { s.mem with state := .entering .auto, autoTimer := .running (e + dt) })))) ∧
      (s.mem.autoTimer = .stopped ∨ s.mem.autoTimer = .expired →
        exec (.autoStandbyDelayExpiry dt) s = .next (settle (elapse dt s))))

/-- MEMORY_GRANT: no grant while the memory is not RUNNING or a refresh is granted; otherwise the first class of Table
6.2 that waits, with the round robin among writers. That a burst request held back by four granted bursts keeps the due
and pull-in refreshes behind it waiting is the model's (log 11). -/
def Obligations.GrantsFollowClassOrder : Prop :=
  ∀ (dt : Nat) (s e : State), s.resetHeld = false → e = elapse dt s →
    (s.mem.state ≠ .running ∨ s.mem.refresh ≠ .none → exec (.memoryGrant dt) s = .next (settle e)) ∧
    (s.mem.state = .running → s.mem.refresh = .none →
      (s.mem.balance = 8 →
        exec (.memoryGrant dt) s = .next (settle (e.setMem { e.mem with refresh := .waiting }))) ∧
      (s.mem.balance ≠ 8 →
        (4 ≤ s.mem.granted.length → (∃ t, writerRequests e t = true) ∨ engineBlock e ≠ none →
          exec (.memoryGrant dt) s = .next (settle e)) ∧
        (s.mem.granted.length < 4 →
          (∀ t, writerUrgent e t = true →
            (∀ k : Track, (k - s.mem.urgentPointer).val < (t - s.mem.urgentPointer).val → writerUrgent e k = false) →
            exec (.memoryGrant dt) s =
              .next (settle ((grantWriter t e).setMem { (grantWriter t e).mem with urgentPointer := t + 1 }))) ∧
          ((∀ t, writerUrgent e t = false) →
            (engineBlock e ≠ none → exec (.memoryGrant dt) s = .next (settle (grantRead e))) ∧
            (engineBlock e = none →
              ∀ t, writerRequests e t = true →
                (∀ k : Track, (k - s.mem.normalPointer).val < (t - s.mem.normalPointer).val →
                  writerRequests e k = false) →
                exec (.memoryGrant dt) s =
                  .next (settle
                    ((grantWriter t e).setMem { (grantWriter t e).mem with normalPointer := t + 1 }))))) ∧
        ((∀ t, writerRequests e t = false) → engineBlock e = none →
          (-8 < s.mem.balance →
            exec (.memoryGrant dt) s = .next (settle (e.setMem { e.mem with refresh := .waiting }))) ∧
          (s.mem.balance ≤ -8 → exec (.memoryGrant dt) s = .next (settle e)))))

/-- When a writer asks for a burst, and what its burst takes: 32 positions from the write cursor on, each with its staged
value or, where it was lost, is never strobed or lies past the sweep's end, the fill value; the taken entries leave the
FIFO. The cursor 32 positions on after a shorter last burst is the model's choice (log 21), as is its reading that only an
attached burst counts as the writer's (log 12). -/
def Obligations.WriterBurstTakesStagedSamples : Prop :=
  ∀ (s : State) (t : Track),
    (writerRequests s t = true ↔
      (∀ b ∈ s.mem.granted, b.isRead = false → b.attached = true → b.track ≠ t) ∧
      (32 ≤ (s.track t).fifo.length ∨
        ∃ f, oldestIncomplete s t = some f ∧ f.state = .draining ∧ (s.track t).writeNext f.seq < f.length)) ∧
    (writerUrgent s t = true ↔ writerRequests s t = true ∧ 192 ≤ (s.track t).fifo.length) ∧
    (∀ (f : SweepRecord) (e : MapEntry) (q : Nat),
      oldestIncomplete s t = some f → q = (s.track t).writeNext f.seq →
      tget (s.map t) (f.firstPage + q / 512) = some e →
      (s.track t).fifo.Pairwise (fun a b => a.seq < b.seq ∨ a.seq = b.seq ∧ a.pos < b.pos) →
      (∀ x ∈ (s.track t).fifo, f.seq < x.seq ∨ x.seq = f.seq ∧ q ≤ x.pos ∧ x.pos < f.length) →
      ∃ (samples : List Int) (inject : Option InjectKind),
        (grantWriter t s).mem.granted = s.mem.granted ++
          [{ page := e.page, offset := q % 512 / 4, track := t, seq := f.seq, first := q, heeded := true,
             attached := true, job := .write samples inject }] ∧
        samples.length = 32 ∧
        (∀ i, i < 32 →
          (∀ x ∈ (s.track t).fifo, x.seq = f.seq → x.pos = q + i → samples[i]? = some x.value) ∧
          ((∀ x ∈ (s.track t).fifo, ¬ (x.seq = f.seq ∧ x.pos = q + i)) → samples[i]? = some (-32768))) ∧
        ((grantWriter t s).track t).fifo =
          (s.track t).fifo.filter (fun x => !(x.seq = f.seq && x.pos < q + 32)) ∧
        ((grantWriter t s).track t).cursor = some { seq := f.seq, next := q + 32 } ∧
        (∀ k, s.check.inject = some (t, k) →
          inject = some k ∧ (grantWriter t s).check = { s.check with inject := none }) ∧
        ((∀ k, s.check.inject ≠ some (t, k)) → inject = none ∧ (grantWriter t s).check = s.check))

/-- The readout engine asks for the next block of an active READ_SWEEP while that block holds a position of one of the
read's two oldest unsent frames; at the grant the burst goes to the page its map names, with the word offsets that hold a
position the read asks for, and the read goes on to its next block. That a page absent from the map, which no run reaches,
grants nothing is the model's choice (log 19). -/
def Obligations.ReadBurstsFetchTheReadsBlocks : Prop :=
  ∀ s : State, WithinLimits s →
    (s.readout.queue = [] → engineBlock s = none) ∧
    (∀ (y : Read) (rest : List Read), s.readout.queue = y :: rest →
      (y.kind = .mean → engineBlock s = none) ∧
      (∀ seq firstPage b, y.kind = .sweep seq firstPage → b = y.nextFetch →
        ((∃ p, 32 * b ≤ p ∧ p < 32 * b + 32 ∧ y.firstPos ≤ p ∧ p < y.firstPos + y.count ∧
            p < y.firstPos + 256 * (y.delivered / 256 + 2)) →
          engineBlock s = some (y, seq, firstPage, b) ∧
          (tget (s.map y.track) (firstPage + 32 * b / 512) = none → grantRead s = s) ∧
          ∀ e, tget (s.map y.track) (firstPage + 32 * b / 512) = some e →
            ∃ asked : List Nat, asked.Pairwise (· < ·) ∧
              (∀ w, w ∈ asked ↔ w < 8 ∧
                ∃ p, 32 * b + 4 * w ≤ p ∧ p < 32 * b + 4 * w + 4 ∧ y.firstPos ≤ p ∧ p < y.firstPos + y.count) ∧
              grantRead s =
                (s.setReadout { s.readout with queue := { y with nextFetch := b + 1 } :: rest }).setMem
                  { s.mem with
                    granted := s.mem.granted ++
                      [{ page := e.page, offset := 32 * b % 512 / 4, track := y.track, seq := seq, first := 32 * b,
                         heeded := true, attached := true, job := .read asked }] }) ∧
        ((∀ p, 32 * b ≤ p → p < 32 * b + 32 → y.firstPos ≤ p → p < y.firstPos + y.count →
            y.firstPos + 256 * (y.delivered / 256 + 2) ≤ p) →
          engineBlock s = none)))

/-- The step of a bank that completes, in every memory state and with or without a refresh granted: after a close the bank opens the row of the
burst at the head of its list, after an open the row stands in the bank table and a free data path is taken by the ready
head burst of the earliest grant. The last close that a refresh waits for lets it begin. That a completion with no such
step in progress only settles is the model's choice (log 2). -/
def Obligations.BankStepsServeHeadBurst : Prop :=
  ∀ (dt : Nat) (b : BankId) (s : State), s.resetHeld = false →
    (s.mem.banks[b].step ≠ .closing → exec (.closeStepComplete dt b) s = .next (settle (elapse dt s))) ∧
    ((∀ row, s.mem.banks[b].step ≠ .opening row) →
      exec (.openStepComplete dt b) s = .next (settle (elapse dt s))) ∧
    (s.mem.banks[b] = { row := none, step := .closing } →
      (∀ h, s.mem.dataPath ≠ some b →
        s.mem.granted.find? (fun x => x.page.toNat % 8 = b.val) = some h →
        ∃ x, exec (.closeStepComplete dt b) s = .next x ∧
          x.mem.banks[b] = { row := none, step := .opening (h.page.toNat / 8) }) ∧
      ((∀ h ∈ s.mem.granted, h.page.toNat % 8 ≠ b.val) →
        ∃ x, exec (.closeStepComplete dt b) s = .next x ∧ x.mem.banks[b] = { row := none, step := .none }) ∧
      (s.mem.refresh = .closing → s.mem.granted = [] → (∀ c : BankId, c ≠ b → s.mem.banks[c].step = .none) →
        ∃ x, exec (.closeStepComplete dt b) s = .next x ∧ x.mem.refresh = .inFlight) ∧
      (s.mem.refresh = .closing → (∃ c : BankId, c ≠ b ∧ s.mem.banks[c].step ≠ .none) →
        ∃ x, exec (.closeStepComplete dt b) s = .next x ∧ x.mem.refresh = .closing)) ∧
    (∀ row, s.mem.banks[b].step = .opening row →
      (∀ h, s.mem.granted.find? (fun x => x.page.toNat % 8 = b.val) = some h → h.page.toNat / 8 = row →
        ∃ x, exec (.openStepComplete dt b) s = .next x ∧ x.mem.banks[b] = { row := some row, step := .none } ∧
          x.mem.granted = s.mem.granted ∧ (∀ c, s.mem.dataPath = some c → x.mem.dataPath = some c) ∧
          (s.mem.dataPath = none →
            x.mem.dataPath = (s.mem.granted.find? (fun y =>
              s.mem.granted.find? (fun z => z.page.toNat % 8 = y.page.toNat % 8) = some y &&
                x.mem.banks[y.bank] = { row := some (y.page.toNat / 8), step := .none })).map Burst.bank)) ∧
      (∀ h more, s.mem.granted = h :: more → h.page.toNat % 8 = b.val → h.page.toNat / 8 = row →
        ∃ x, exec (.openStepComplete dt b) s = .next x ∧ x.mem.banks[b] = { row := some row, step := .none } ∧
          x.mem.granted = s.mem.granted ∧
          (s.mem.dataPath = none → x.mem.dataPath = some b) ∧
          (∀ c, s.mem.dataPath = some c → x.mem.dataPath = some c)))

/-- TRANSFER_COMPLETE of a write burst: its 8 words and their check bits are stored, with the injected fault in its first
word alone and the check bits of the true data; every other byte stays. The last burst of a DRAINING sweep makes its
record COMPLETE and posts SWEEP_DONE. The burst leaves the lists and the data path in every memory state; the reactions
that follow are `settle` (log 17). That a completion with no transfer in progress only settles is the model's choice
(log 2). -/
def Obligations.WriteTransferStoresItsWords : Prop :=
  (∀ (dt : Nat) (s : State), s.resetHeld = false → s.mem.dataPath = none →
    exec (.transferComplete dt) s = .next (settle (elapse dt s))) ∧
  ∀ (dt : Nat) (s : State) (b : BankId) (h : Burst) (samples : List Int) (inject : Option InjectKind),
    s.resetHeld = false → s.mem.dataPath = some b →
    s.mem.granted.find? (fun x => x.page.toNat % 8 = b.val) = some h → h.job = .write samples inject →
    samples.length = 32 →
    ∃ z, exec (.transferComplete dt) s = .next (settle z) ∧
      z.mem =
        { s.mem with
          granted := s.mem.granted.eraseP (fun y => y.page.toNat % 8 = b.val), dataPath := none,
          autoTimer := s.mem.autoTimer.advance dt } ∧
      (∀ a, (a < 1024 * h.page.toNat + 8 * h.offset ∨ 1024 * h.page.toNat + 8 * h.offset + 64 ≤ a) →
        z.dramByte a = s.dramByte a) ∧
      (∀ i v, i < 32 → samples[i]? = some v →
        z.dramByte (1024 * h.page.toNat + 8 * h.offset + 2 * i) =
          BitVec.ofInt 8 v ^^^
            (if i = 0 then (match inject with
              | none => 0
              | some .single => 1
              | some .double => 3) else 0) ∧
        z.dramByte (1024 * h.page.toNat + 8 * h.offset + 2 * i + 1) = BitVec.ofInt 8 (v / 256)) ∧
      (∀ a, (a < 128 * h.page.toNat + h.offset ∨ 128 * h.page.toNat + h.offset + 8 ≤ a) →
        z.dramCheckByte a = s.dramCheckByte a) ∧
      (∀ w, w < 8 →
        z.dramCheckByte (128 * h.page.toNat + h.offset + w) =
          BitVec.ofNat 8 (checkBits (leNat (((samples.drop (4 * w)).take 4).flatMap (fun v => leInt 2 v))))) ∧
      (∀ f, (s.records h.track).find? (fun y => y.seq = h.seq) = some f → h.heeded = true → f.state = .draining →
        f.length ≤ h.first + 32 →
        z.records h.track = (s.records h.track).map (fun y =>
          if y.seq = h.seq ∧ y.state = .draining then { y with state := .complete } else y) ∧
        (z.track h.track).cursor = none ∧ (z.track h.track).fifo = (s.track h.track).fifo ∧
        z.notices = s.notices.post (Source.sweepDone h.track) (.sweepDone h.seq f.flags)) ∧
      ((∀ f, (s.records h.track).find? (fun y => y.seq = h.seq) = some f →
          h.heeded = false ∨ f.state ≠ .draining ∨ h.first + 32 < f.length) →
        z.index = s.index ∧ z.tracks = s.tracks ∧ z.notices = s.notices) ∧
      (∀ k, k ≠ h.track → z.records k = s.records k ∧ z.track k = s.track k) ∧
      z.owners = s.owners ∧ z.maps = s.maps ∧ z.check = s.check ∧ z.readout = s.readout ∧ z.link = s.link ∧
      z.markerA = s.markerA ∧ z.markerB = s.markerB ∧ z.lanes = s.lanes ∧ z.writePos = s.writePos ∧
      z.averagers = s.averagers ∧ z.averagerRam = s.averagerRam

/-- TRANSFER_COMPLETE of a read burst: memory stays, the samples of its span reach the active read, corrected where the
word was asked for and checked, and the asked-for words act in ascending offset on the records, the DAMAGED flag and the
notices by their codes and the checking mode: the last corrected and the first uncorrectable word are recorded, and a
further uncorrectable one sets the more flag. It does so in every memory state; the reactions that follow are `settle`
(log 17). -/
def Obligations.ReadTransferChecksItsWords : Prop :=
  ∀ (dt : Nat) (s : State) (b : BankId) (h : Burst) (asked : List Nat),
    s.resetHeld = false → s.mem.dataPath = some b →
    s.mem.granted.find? (fun x => x.page.toNat % 8 = b.val) = some h → h.job = .read asked →
    ∃ z, exec (.transferComplete dt) s = .next (settle z) ∧ z.dram = s.dram ∧ z.dramCheck = s.dramCheck ∧
      z.mem =
        { s.mem with
          granted := s.mem.granted.eraseP (fun y => y.page.toNat % 8 = b.val), dataPath := none,
          autoTimer := s.mem.autoTimer.advance dt } ∧
      z.readout.ended = s.readout.ended ∧ z.tracks = s.tracks ∧ z.lanes = s.lanes ∧ z.maps = s.maps ∧
      z.owners = s.owners ∧ z.markerA = s.markerA ∧ z.markerB = s.markerB ∧ z.averagers = s.averagers ∧
      z.averagerRam = s.averagerRam ∧ z.link = s.link ∧ z.writePos = s.writePos ∧
      (h.heeded = false ∨ s.readout.queue = [] → z.readout = s.readout) ∧
      (∀ r rest, h.heeded = true → s.readout.queue = r :: rest →
        ∃ m, z.readout.queue = { r with samples := m } :: rest ∧
          (∀ p, (p < h.first ∨ h.first + 32 ≤ p ∨ p < r.firstPos ∨ r.firstPos + r.count ≤ p) →
            tget m p = tget r.samples p) ∧
          (∀ w i, w < 8 → i < 4 → r.firstPos ≤ h.first + 4 * w + i → h.first + 4 * w + i < r.firstPos + r.count →
            (w ∈ asked → s.check.mode ≠ .off →
              tget m (h.first + 4 * w + i) = some
                { value := signed16
                    (deliveredWord (decodeWord (storedWord s h.page (h.offset + w)) (storedCheck s h.page (h.offset + w)))
                      (storedWord s h.page (h.offset + w)) / 65536 ^ i % 65536),
                  damaged :=
                    (decodeWord (storedWord s h.page (h.offset + w))
                      (storedCheck s h.page (h.offset + w))).uncorrectable }) ∧
            (w ∉ asked ∨ s.check.mode = .off →
              tget m (h.first + 4 * w + i) = some
                { value := signed16 (storedWord s h.page (h.offset + w) / 65536 ^ i % 65536), damaged := false }))) ∧
      (s.check.mode = .off → z.check = s.check ∧ z.notices = s.notices ∧ z.index = s.index) ∧
      (∀ (code : Nat → ReadCode) (fault : Nat → WordFault), s.check.mode ≠ .off → asked.Pairwise (· < ·) →
        (∀ w, code w = decodeWord (storedWord s h.page (h.offset + w)) (storedCheck s h.page (h.offset + w))) →
        (∀ w, fault w =
          { page := h.page, offset := h.offset + w, code := code w, track := h.track, seq := h.seq }) →
        z.check.mode = s.check.mode ∧ z.check.inject = s.check.inject ∧
        -- the last-corrected record
        ((∀ w ∈ asked, (code w).corrected = false) → z.check.lastCorrected = s.check.lastCorrected) ∧
        (∀ w ∈ asked, (code w).corrected = true → (∀ v ∈ asked, (code v).corrected = true → v ≤ w) →
          z.check.lastCorrected = some (fault w)) ∧
        -- the first-uncorrectable record, the more flag and the DAMAGED claim
        ((∀ w ∈ asked, (code w).uncorrectable = false) →
          z.check.firstUncorrectable = s.check.firstUncorrectable ∧ z.check.more = s.check.more ∧ z.index = s.index) ∧
        (∀ w ∈ asked, (code w).uncorrectable = true → (∀ v ∈ asked, (code v).uncorrectable = true → w ≤ v) →
          (s.check.firstUncorrectable = none →
            z.check.firstUncorrectable = some (.uncorrectable (fault w)) ∧
            (z.check.more = true ↔
              s.check.more = true ∨ ∃ v ∈ asked, v ≠ w ∧ (code v).uncorrectable = true)) ∧
          (∀ old, s.check.firstUncorrectable = some old →
            z.check.firstUncorrectable = some old ∧ z.check.more = true) ∧
          z.records h.track =
            (s.records h.track).map (fun y => if y.seq = h.seq then { y with damaged := true } else y) ∧
          (∀ k, k ≠ h.track → z.records k = s.records k)) ∧
        -- the notices
        (s.check.mode ≠ .notify → z.notices = s.notices) ∧
        (s.check.mode = .notify →
          z.notices = asked.foldl (fun n w =>
            if (code w).corrected then n.post Source.corrected (.corrected (fault w))
            else if (code w).uncorrectable then n.post Source.memoryFault (.memoryFault (.uncorrectable (fault w)))
            else n) s.notices))

/-- The refresh interval timer, the completion of a refresh and the end of waking: what each does to B, the re-entry flag,
the held wake, the fault record and the replies. A refresh granted with no burst to wait for makes every open bank begin
its close step and show CLOSED at once, and begins when none was open. That an expiry before the interval is over, a completion with no
refresh in flight and one with no waking only settle is the model's choice (log 2), as are the instant an overdue expiry
keeps and the counts it leaves over (log 5). A refresh that waits for bursts is in ControllerReactsAtStepEnd. -/
def Obligations.RefreshTimerServiceAndWaking : Prop :=
  (∀ (dt : Nat) (s e : State), s.resetHeld = false → e = elapse dt s →
    (s.refreshElapsed + dt < 312 → exec (.refreshIntervalExpiry dt) s = .next (settle e)) ∧
    (∀ left, s.refreshElapsed + dt = 312 + left →
      ((s.mem.state = .standby ∨ ∃ c, s.mem.state = .waking c) →
        exec (.refreshIntervalExpiry dt) s = .next (settle (e.setRefreshElapsed left))) ∧
      ((s.mem.state = .running ∨ ∃ c, s.mem.state = .entering c) →
        (s.mem.balance < 8 →
          exec (.refreshIntervalExpiry dt) s =
            .next (settle ((e.setRefreshElapsed left).setMem { e.mem with balance := s.mem.balance + 1 }))) ∧
        (8 ≤ s.mem.balance →
          ∀ at', at' = s.time + BitVec.ofNat 48 dt - BitVec.ofNat 48 left →
          exec (.refreshIntervalExpiry dt) s =
            .next (settle (post Source.memoryFault (.memoryFault (.refreshOverrun at'))
              ((e.setRefreshElapsed left).setCheck
                (match s.check.firstUncorrectable with
                 | none => { s.check with firstUncorrectable := some (.refreshOverrun at') }
                 | some _ => { s.check with more := true }))))))) ∧
    (s.mem.refresh ≠ .inFlight → exec (.refreshComplete dt) s = .next (settle e)) ∧
    (s.mem.refresh = .inFlight → s.mem.autoTimer ≠ .expired →
      exec (.refreshComplete dt) s =
        .next (settle (e.setMem { e.mem with refresh := .none, balance := s.mem.balance - 1, reentry := false }))) ∧
    (s.mem.refresh = .inFlight → s.mem.autoTimer = .expired → s.mem.autoEnable = true → s.mem.reentry = true →
      s.mem.state = .running → s.markerA.state = .noSignal → s.markerB.state = .noSignal →
      (∀ t, (s.track t).state ≠ .sweeping ∧ (s.track t).state ≠ .awaiting ∧ (s.track t).state ≠ .stopping) →
      s.readout.queue = [] →
      exec (.refreshComplete dt) s =
        .next (settle (e.setMem
          { e.mem with
            refresh := .none, balance := s.mem.balance - 1, reentry := false, state := .entering .auto }))) ∧
    ((∀ c, s.mem.state ≠ .waking c) → exec (.wakingExitComplete dt) s = .next (settle e)) ∧
    (∀ cause y, s.mem.state = .waking cause →
      y = post Source.standbyChange (.standbyChange (.running cause) (s.time + BitVec.ofNat 48 dt) 0)
        (e.setMem { e.mem with balance := 0, state := .running, reentry := true, heldWake := false }) →
      (s.link.inHand = none → exec (.wakingExitComplete dt) s = .next (settle y)) ∧
      (∀ r, s.link.inHand = some r → r.code = 0x41 →
        exec (.wakingExitComplete dt) s =
          .next (settle (addReply true r .ok [] (y.setLink { s.link with inHand := none })))))) ∧
  (∀ (dt : Nat) (s : State), s.resetHeld = false → s.mem.state = .running → s.mem.refresh = .none → s.mem.balance = 8 →
    s.mem.granted = [] →
    (∀ b : BankId, s.mem.banks[b].step = .none) →
    ∃ x, exec (.memoryGrant dt) s = .next x ∧ x.mem.balance = 8 ∧ x.mem.granted = [] ∧
      (∀ b : BankId, (s.mem.banks[b].row = none → x.mem.banks[b] = { row := none, step := .none }) ∧
        (∀ row, s.mem.banks[b].row = some row → x.mem.banks[b] = { row := none, step := .closing })) ∧
      ((∀ b : BankId, s.mem.banks[b].row = none) → x.mem.refresh = .inFlight) ∧
      ((∃ (b : BankId) (row : Nat), s.mem.banks[b].row = some row) → x.mem.refresh = .closing))

/-! ## Check codes -/

/-- SET_CHECKING, INJECT_FAULT and CLEAR_FAULT: their refusals and the one thing each changes. -/
def Obligations.CheckingRequestsChangeTheirOwn : Prop :=
  ∀ (dt : Nat) (s : State) (r : RawRequest) (rest : List RawRequest),
    (∀ n, Serves s r rest (.setChecking n) →
      (3 ≤ n → exec (.setChecking dt) s = .next (addReply true r .badField [] (handed dt s rest))) ∧
      (∀ m : CheckMode, n = m.code.toNat →
        exec (.setChecking dt) s =
          .next (addReply true r .ok [] ((handed dt s rest).setCheck { s.check with mode := m })))) ∧
    (∀ (t : Track) (n : Nat), Serves s r rest (.injectFault t.val n) →
      (2 ≤ n → exec (.injectFault dt) s = .next (addReply true r .badField [] (handed dt s rest))) ∧
      (∀ k : InjectKind, n = k.code.toNat →
        (s.check.inject ≠ none →
          exec (.injectFault dt) s = .next (addReply true r .busy [] (handed dt s rest))) ∧
        (s.check.inject = none →
          exec (.injectFault dt) s =
            .next (addReply true r .ok [] ((handed dt s rest).setCheck { s.check with inject := some (t, k) }))))) ∧
    (Serves s r rest .clearFault →
      exec (.clearFault dt) s =
        .next (addReply true r .ok []
          ((handed dt s rest).setCheck
            { s.check with lastCorrected := none, firstUncorrectable := none, more := false })))

/-- The code: a stored word reads CLEAN as it was stored; with one of its 72 bits inverted it is delivered as stored
before, under the code that names the bit; with two inverted it is uncorrectable, never taken for another word. -/
def Obligations.CodeCorrectsOneDetectsTwo : Prop :=
  ∀ w : Nat, w < 2 ^ 64 →
    checkBits w < 256 ∧
    decodeWord w (checkBits w) = .clean ∧
    (∀ k, k < 64 →
      decodeWord (Nat.xor w (2 ^ k)) (checkBits w) = .data k ∧
      deliveredWord (.data k) (Nat.xor w (2 ^ k)) = w) ∧
    (∀ j, j < 8 →
      decodeWord w (Nat.xor (checkBits w) (2 ^ j)) = .check j ∧ deliveredWord (.check j) w = w) ∧
    (∀ k l, k < 64 → l < 64 → k ≠ l →
      (decodeWord (Nat.xor w (Nat.xor (2 ^ k) (2 ^ l))) (checkBits w)).uncorrectable = true) ∧
    (∀ k j, k < 64 → j < 8 →
      (decodeWord (Nat.xor w (2 ^ k)) (Nat.xor (checkBits w) (2 ^ j))).uncorrectable = true) ∧
    (∀ i j, i < 8 → j < 8 → i ≠ j →
      (decodeWord w (Nat.xor (checkBits w) (Nat.xor (2 ^ i) (2 ^ j)))).uncorrectable = true)

/-! ## Readout -/

/-- READ_SWEEP, READ_MEAN and ABORT_READ: the checks in their order, the read that joins the queue, and the final frame
of an aborted one. A read of a sweep wakes the memory from STANDBY; a read of a mean does not. -/
def Obligations.ReadRequestsAreCheckedInOrder : Prop :=
  ∀ (dt : Nat) (s : State) (r : RawRequest) (rest : List RawRequest) (t : Track),
    (∀ seq first count n, Serves s r rest (.readSweep t.val seq first count n) →
      (count = 0 ∨ 2 ≤ n → exec (.readSweep dt) s = .next (addReply true r .badField [] (handed dt s rest))) ∧
      (∀ o : ByteOrder, 1 ≤ count → (n = 0 ∧ o = .lowFirst ∨ n = 1 ∧ o = .highFirst) →
        (4 ≤ s.readout.queue.length + s.readout.ended.length →
          exec (.readSweep dt) s = .next (addReply true r .full [] (handed dt s rest))) ∧
        (s.readout.queue.length + s.readout.ended.length < 4 →
          ((∃ x ∈ s.readout.queue, x.tag = r.tag) ∨ (∃ x ∈ s.readout.ended, x.tag = r.tag) →
            exec (.readSweep dt) s = .next (addReply true r .busy [] (handed dt s rest))) ∧
          ((∀ x ∈ s.readout.queue, x.tag ≠ r.tag) → (∀ x ∈ s.readout.ended, x.tag ≠ r.tag) →
            ((∀ y ∈ s.records t, y.seq ≠ seq) →
              exec (.readSweep dt) s = .next (addReply true r .noSuch [] (handed dt s rest))) ∧
            (∀ f, (s.records t).find? (fun y => y.seq = seq) = some f →
              (f.state ≠ .complete →
                exec (.readSweep dt) s = .next (addReply true r .notReady [] (handed dt s rest))) ∧
              (f.state = .complete → f.length < first + count →
                exec (.readSweep dt) s = .next (addReply true r .badField [] (handed dt s rest))) ∧
              (f.state = .complete → first + count ≤ f.length →
                exec (.readSweep dt) s =
                  .next (follow (addReply true r .ok []
                    ((handed dt s rest).setReadout { s.readout with
                      queue := s.readout.queue ++
                        [{ tag := r.tag, kind := .sweep f.seq f.firstPage, track := t, firstPos := first,
                           count := count, order := o, delivered := 0, nextFetch := first / 32, samples := [] }] }))) ∧
                (s.readout.queue = [] → s.mem.state = .standby →
                  ∃ x, exec (.readSweep dt) s = .next x ∧ x.mem.state = .waking .burst))))))) ∧
    (∀ n, Serves s r rest (.readMean t.val n) →
      (2 ≤ n → exec (.readMean dt) s = .next (addReply true r .badField [] (handed dt s rest))) ∧
      (∀ o : ByteOrder, (n = 0 ∧ o = .lowFirst ∨ n = 1 ∧ o = .highFirst) →
        (4 ≤ s.readout.queue.length + s.readout.ended.length →
          exec (.readMean dt) s = .next (addReply true r .full [] (handed dt s rest))) ∧
        (s.readout.queue.length + s.readout.ended.length < 4 →
          ((∃ x ∈ s.readout.queue, x.tag = r.tag) ∨ (∃ x ∈ s.readout.ended, x.tag = r.tag) →
            exec (.readMean dt) s = .next (addReply true r .busy [] (handed dt s rest))) ∧
          ((∀ x ∈ s.readout.queue, x.tag ≠ r.tag) → (∀ x ∈ s.readout.ended, x.tag ≠ r.tag) →
            ((s.averager t).region = none ∨ (s.averager t).published = false ∧ (s.averager t).publication = none →
              exec (.readMean dt) s = .next (addReply true r .noSuch [] (handed dt s rest))) ∧
            (∀ g, (s.averager t).region = some g →
              (s.averager t).published = true ∨ (s.averager t).publication ≠ none →
              exec (.readMean dt) s =
                .next (follow (addReply true r .ok []
                  ((handed dt s rest).setReadout { s.readout with
                    queue := s.readout.queue ++
                      [{ tag := r.tag, kind := .mean, track := t, firstPos := 0, count := g.length, order := o,
                         delivered := 0, nextFetch := 0, samples := [] }] }))) ∧
              (s.readout.queue = [] → s.mem.state = .standby → burstRequested s = false →
                ∃ x, exec (.readMean dt) s = .next x ∧ x.mem.state = .standby)))))) ∧
    (∀ tag, Serves s r rest (.abortRead tag) →
      ((∀ x ∈ s.readout.queue, x.tag ≠ tag) → (∀ x ∈ s.readout.ended, x.tag ≠ tag) →
        exec (.abortRead dt) s = .next (addReply true r .noSuch [] (handed dt s rest))) ∧
      ((∀ x ∈ s.readout.queue, x.tag ≠ tag) → (∃ x ∈ s.readout.ended, x.tag = tag) →
        exec (.abortRead dt) s = .next (addReply true r .ok [] (handed dt s rest))) ∧
      ((∃ x ∈ s.readout.queue, x.tag = tag) →
        ∃ x, exec (.abortRead dt) s = .next x ∧
          x.readout =
            { queue := s.readout.queue.filter (fun y => y.tag ≠ tag),
              ended := s.readout.ended ++ (s.readout.queue.filter (fun y => y.tag = tag)).map (fun y =>
                { tag := y.tag, mean := y.kind.isMean, position := y.firstPos + y.delivered, status := .aborted,
                  delivered := y.delivered }) } ∧
          x.link.replies = s.link.replies ++ [{ own := true, code := r.code, tag := r.tag, payload := [0] }] ∧
          x.index = s.index ∧ x.dram = s.dram ∧ x.averagers = s.averagers ∧ x.notices = s.notices ∧
          x.tracks = s.tracks ∧ x.lanes = s.lanes ∧ x.maps = s.maps ∧ x.owners = s.owners ∧ x.check = s.check ∧
          x.markerA = s.markerA ∧ x.markerB = s.markerB))

/-! ## Averaging -/

/-- What a sweep does to the averager. At its start it becomes the current sweep when the averager is enabled, no
publication is in flight and it is not coasted or coasted ones are included. At its end the current sweep counts, with an
AVERAGED claim, or restarts the block with GAP or SHORT; the K-th begins the publication, which overtakes an active
READ_MEAN of the track. Its removal restarts the block. A restart clears the sums unless a publication is in flight. That
the block last sequence stays and the published last sequence keeps its old value while a publication is in flight is the
model's reading (log 10). -/
def Obligations.AveragerQualifiesCountsAndPublishes : Prop :=
  ∀ (t : Track) (seq : Nat) (s : State) (a : Averager), a = s.averager t →
    (∀ coasted,
      (a.region ≠ none → a.publication = none → coasted = false ∨ a.includeCoasted = true →
        averagerSweepStart t seq coasted s = s.putAverager t { a with current := some seq }) ∧
      (a.region = none ∨ a.publication ≠ none ∨ coasted = true ∧ a.includeCoasted = false →
        averagerSweepStart t seq coasted s = s.putAverager t { a with current := none })) ∧
    (a.current ≠ some seq →
      averagerSweepRemoved t seq s = s ∧ ∀ spoiled, averagerSweepEnd t seq spoiled s = s) ∧
    (a.current = some seq →
      -- removed, or ended with GAP or SHORT
      averagerSweepEnd t seq true s = averagerSweepRemoved t seq s ∧
      (a.region = none → averagerSweepRemoved t seq s = s) ∧
      (∀ g, a.region = some g →
        (averagerSweepRemoved t seq s).averager t = { a with blockCount := 0, blockLast := none, current := none } ∧
        (∀ w, (averagerSweepRemoved t seq s).ramWord w =
          if a.publication = none ∧ g.base ≤ w ∧ w < g.base + g.length then 0 else s.ramWord w) ∧
        averagerSweepRemoved t seq s =
          (s.setAveragers (averagerSweepRemoved t seq s).averagers).setAveragerRam
            (averagerSweepRemoved t seq s).averagerRam ∧
        ∀ k, k ≠ t → (averagerSweepRemoved t seq s).averager k = s.averager k) ∧
      -- counted
      (∀ y, y = (s.putAverager t
            { a with current := none, blockCount := a.blockCount + 1, blockLast := some seq }).putRecords t
          ((s.records t).map (fun rec => if rec.seq = seq then { rec with averaged := true } else rec)) →
        (a.blockCount + 1 ≠ a.k → averagerSweepEnd t seq false s = y) ∧
        (a.blockCount + 1 = a.k → ∀ z, z = y.putAverager t
            { a with
              current := none, blockCount := 0, blockLast := some seq, publication := some { next := 0, last := seq },
              published := false } →
          ((∀ q rest, s.readout.queue = q :: rest → q.kind ≠ .mean ∨ q.track ≠ t) →
            averagerSweepEnd t seq false s = z) ∧
          (∀ q rest, s.readout.queue = q :: rest → q.kind = .mean → q.track = t →
            averagerSweepEnd t seq false s = z.setReadout
              { queue := rest,
                ended := s.readout.ended ++
                  [{ tag := q.tag, mean := true, position := q.firstPos + q.delivered, status := .overtaken,
                     delivered := q.delivered }] }))))

/-- MEAN_WRITTEN writes the mean of one position, its sum over K to nearest with ties away from zero; the last position
completes the publication: the sums are cleared, the mean is published under the next number, and MEAN_READY is posted.
MEAN_FRAME_BUILT takes the means of the next frame of the active READ_MEAN while it holds fewer than two. That either
only passes time with nothing to write or build is the model's choice (log 2). -/
def Obligations.MeansAreWrittenThenBuilt : Prop :=
  (∀ (dt : Nat) (t : Track) (s : State), s.resetHeld = false →
    ((s.averager t).region = none ∨ (s.averager t).publication = none →
      exec (.meanWritten dt t) s = .next (elapse dt s)) ∧
    (∀ (g : Region) (p : Publication) (z : Int),
      (s.averager t).region = some g → (s.averager t).publication = some p → 2 ≤ (s.averager t).k → p.next < g.length →
      -- z is the mean of position p.next
      (2 * ((s.averager t).k * z - (s.ramWord (g.base + p.next)).toInt)).natAbs ≤ (s.averager t).k →
      ((2 * ((s.averager t).k * z - (s.ramWord (g.base + p.next)).toInt)).natAbs = (s.averager t).k →
        (s.ramWord (g.base + p.next)).toInt.natAbs < ((s.averager t).k * z).natAbs) →
      ∃ x, exec (.meanWritten dt t) s = .next x ∧
        (p.next + 1 < g.length →
          (∀ a, x.ramWord a =
            if a = g.base + g.length + p.next then BitVec.ofInt 32 z else s.ramWord a) ∧
          x.averager t = { s.averager t with publication := some { p with next := p.next + 1 } } ∧
          x.notices = s.notices) ∧
        (p.next + 1 = g.length →
          (∀ a, x.ramWord a =
            if g.base ≤ a ∧ a < g.base + g.length then 0
            else if a = g.base + g.length + p.next then BitVec.ofInt 32 z
            else s.ramWord a) ∧
          x.averager t =
            { s.averager t with
              publication := none, published := true, pubLast := some p.last, blockLast := none,
              pubNumber := (s.averager t).pubNumber + 1 } ∧
          x.notices = s.notices.post (Source.meanReady t)
            (.meanReady t ((s.averager t).pubNumber + 1) p.last (s.averager t).k)) ∧
        (∀ k, k ≠ t → x.averager k = s.averager k) ∧ x.index = s.index ∧ x.dram = s.dram ∧ x.readout = s.readout)) ∧
  (∀ (dt : Nat) (s : State) (y : Read) (rest : List Read) (g : Region),
    s.resetHeld = false → s.readout.queue = y :: rest → y.kind = .mean → y.firstPos = 0 →
    (s.averager y.track).region = some g →
    ((s.averager y.track).publication ≠ none ∨ (s.averager y.track).published = false ∨
        y.count ≤ 256 * y.nextFetch ∨ y.delivered / 256 + 2 ≤ y.nextFetch →
      exec (.meanFrameBuilt dt) s = .next (elapse dt s)) ∧
    ((s.averager y.track).publication = none → (s.averager y.track).published = true →
      256 * y.nextFetch < y.count → y.nextFetch < y.delivered / 256 + 2 →
      ∃ m, exec (.meanFrameBuilt dt) s =
          .next ((elapse dt s).setReadout { s.readout with
            queue := { y with nextFetch := y.nextFetch + 1, samples := m } :: rest }) ∧
        ∀ p, tget m p =
          if 256 * y.nextFetch ≤ p ∧ p < 256 * y.nextFetch + 256 ∧ p < y.count then
            some { value := (s.ramWord (g.base + g.length + p)).toInt, damaged := false }
          else tget y.samples p))

/-- SET_AVERAGER with the enable set makes its checks in order and then a fresh start; with it clear it disables. -/
def Obligations.AveragerRequestsStartAndStop : Prop :=
  ∀ (dt : Nat) (s : State) (r : RawRequest) (rest : List RawRequest) (t : Track),
    (∀ coasted, Serves s r rest (.setAverager t.val true none coasted) →
      exec (.setAveragerEnable dt) s = .next (addReply true r .badField [] (handed dt s rest))) ∧
    (∀ base k coasted n, n = (s.track t).active.length →
      Serves s r rest (.setAverager t.val true (some (base, k)) coasted) →
      (k < 2 ∨ 1024 < k ∨ 16383 < base ∨ 16384 < base + 2 * n →
        exec (.setAveragerEnable dt) s = .next (addReply true r .badField [] (handed dt s rest))) ∧
      (2 ≤ k → k ≤ 1024 → base ≤ 16383 → base + 2 * n ≤ 16384 →
        ((∃ u g, u ≠ t ∧ (s.averager u).region = some g ∧ base < g.base + 2 * g.length ∧ g.base < base + 2 * n) →
          exec (.setAveragerEnable dt) s = .next (addReply true r .conflict [] (handed dt s rest))) ∧
        ((∀ u g, u ≠ t → (s.averager u).region = some g →
            g.base + 2 * g.length ≤ base ∨ base + 2 * n ≤ g.base) →
          ∃ x, exec (.setAveragerEnable dt) s = .next x ∧
            x.averager t =
              { s.averager t with
                region := some { base := base, length := n }, k := k, includeCoasted := coasted.getD false,
                reason := .none, current := none, blockCount := 0, blockLast := none, publication := none,
                published := false, pubLast := none } ∧
            (∀ u, u ≠ t → x.averager u = s.averager u) ∧
            (∀ a, x.ramWord a = if base ≤ a ∧ a < base + n then 0 else s.ramWord a) ∧
            x.readout.queue = s.readout.queue.filter (fun y => !(y.ofMean t)) ∧
            x.readout.ended = s.readout.ended ++ (s.readout.queue.filter (fun y => y.ofMean t)).map (fun y =>
              { tag := y.tag, mean := true, position := y.firstPos + y.delivered, status := .overtaken,
                delivered := y.delivered }) ∧
            x.link.replies = s.link.replies ++ [{ own := true, code := r.code, tag := r.tag, payload := [0] }] ∧
            x.index = s.index ∧ x.tracks = s.tracks ∧ x.notices = s.notices))) ∧
    (∀ region coasted, Serves s r rest (.setAverager t.val false region coasted) →
      ((s.averager t).region = none →
        exec (.setAveragerDisable dt) s = .next (follow (addReply true r .ok [] (handed dt s rest)))) ∧
      ((s.averager t).region ≠ none →
        ∃ x, exec (.setAveragerDisable dt) s = .next x ∧
          x.averager t =
            { s.averager t with
              region := none, reason := .request, current := none, blockCount := 0, blockLast := none,
              publication := none, published := false, pubLast := none } ∧
          (∀ u, u ≠ t → x.averager u = s.averager u) ∧ x.averagerRam = s.averagerRam ∧
          x.readout.queue = s.readout.queue.filter (fun y => !(y.ofMean t)) ∧
          x.link.replies = s.link.replies ++ [{ own := true, code := r.code, tag := r.tag, payload := [0] }] ∧
          x.index = s.index ∧ x.tracks = s.tracks ∧ x.notices = s.notices))

/-- RESTART_AVERAGE: a track outside 0..7 is refused; a disabled averager stays as it is; an enabled one restarts its block,
with no current sweep, no counted sweep and cleared sums, but a publication in flight and the sums it reads stay, as does
the published mean. -/
def Obligations.RestartAverageRestartsTheBlock : Prop :=
  ∀ (dt : Nat) (s : State) (r : RawRequest) (rest : List RawRequest),
    (∀ n, 8 ≤ n → Serves s r rest (.restartAverage n) →
      exec (.restartAverage dt) s = .next (addReply true r .badField [] (handed dt s rest))) ∧
    (∀ (t : Track) (a : Averager), a = s.averager t → Serves s r rest (.restartAverage t.val) →
      (a.region = none → exec (.restartAverage dt) s = .next (addReply true r .ok [] (handed dt s rest))) ∧
      (∀ g, a.region = some g →
        ∃ x, exec (.restartAverage dt) s = .next x ∧
          x = addReply true r .ok []
            (((handed dt s rest).putAverager t { a with current := none, blockCount := 0, blockLast := none }
              ).setAveragerRam x.averagerRam) ∧
          (a.publication ≠ none → x.averagerRam = s.averagerRam) ∧
          (a.publication = none →
            ∀ w, x.ramWord w = if g.base ≤ w ∧ w < g.base + g.length then 0 else s.ramWord w)))

/-! ## Notices -/

/-- A posting by the source's level and its entry; SET_NOTICE_LEVEL, SET_NOTICE_THRESHOLD and CLEAR_NOTICES. A list in
order stays in order: higher levels first, then earlier postings. The number that stands for the posting order is the
model's (log 15). -/
def Obligations.NoticesArePostedAndOrdered : Prop :=
  (∀ (n : NoticeUnit) (src : Source) (occ : Occurrence),
    (n.level src = 0 → n.post src occ = n) ∧
    (n.level src ≠ 0 → (∃ e ∈ n.entries, e.source = src) →
      n.post src occ =
        { n with entries := n.entries.map (fun e => if e.source = src then { e with again := true } else e) }) ∧
    (n.level src ≠ 0 → (∀ e ∈ n.entries, e.source ≠ src) →
      ∃ l, n.post src occ = { n with entries := l, nextOrder := n.nextOrder + 1 } ∧
        l.Perm ({ source := src, occurrence := occ, again := false, order := n.nextOrder } :: n.entries) ∧
        (n.entries.Pairwise (fun a b => n.before a b = true) → (∀ e ∈ n.entries, e.order < n.nextOrder) →
          l.Pairwise (fun a b => n.before a b = true)))) ∧
  (∀ (dt : Nat) (s : State) (r : RawRequest) (rest : List RawRequest),
    (∀ src level, Serves s r rest (.setNoticeLevel src level) → (30 ≤ src ∨ 8 ≤ level) →
      exec (.setNoticeLevel dt) s = .next (addReply true r .badField [] (handed dt s rest))) ∧
    (∀ (src : Source) (level : Nat), Serves s r rest (.setNoticeLevel src.val level) → level ≤ 7 →
      (s.notices.level src = level →
        exec (.setNoticeLevel dt) s = .next (addReply true r .ok [] (handed dt s rest))) ∧
      (s.notices.level src ≠ level →
        ∃ n : NoticeUnit, exec (.setNoticeLevel dt) s =
            .next (addReply true r .ok [] ((handed dt s rest).setNotices n)) ∧
          n.threshold = s.notices.threshold ∧ n.nextOrder = s.notices.nextOrder ∧ n.level src = level ∧
          (∀ k, k ≠ src → n.level k = s.notices.level k) ∧
          (level = 0 → n.entries = s.notices.entries.filter (fun e => e.source ≠ src)) ∧
          (level ≠ 0 → n.entries.Perm s.notices.entries ∧
            (s.notices.entries.Pairwise (fun a b => s.notices.before a b = true) →
              (s.notices.entries.map (fun e => e.order)).Nodup →
              n.entries.Pairwise (fun a b => n.before a b = true))))) ∧
    (∀ level, Serves s r rest (.setNoticeThreshold level) →
      (level = 0 ∨ 8 ≤ level →
        exec (.setNoticeThreshold dt) s = .next (addReply true r .badField [] (handed dt s rest))) ∧
      (1 ≤ level → level ≤ 7 →
        exec (.setNoticeThreshold dt) s =
          .next (addReply true r .ok [] ((handed dt s rest).setNotices { s.notices with threshold := level })))) ∧
    (∀ sources, Serves s r rest (.clearNotices sources) →
      (sources = [] ∨ 30 < sources.length ∨ (∃ c ∈ sources, 30 ≤ c) →
        exec (.clearNotices dt) s = .next (addReply true r .badField [] (handed dt s rest))) ∧
      (sources ≠ [] → sources.length ≤ 30 → (∀ c ∈ sources, c < 30) →
        exec (.clearNotices dt) s =
          .next (addReply true r .ok [] ((handed dt s rest).setNotices { s.notices with
            entries := s.notices.entries.filter (fun e => decide (e.source.val ∉ sources)) })))))

/-! ## What every step keeps -/

/-- The memories stay canonical, and the maps and the ownership entries of pages stay each other's mirror. -/
def Obligations.MemoriesMapsAndOwnersStayInOrder : Prop := Kept MemoriesInOrder

/-- Within their limits stay: the refresh balance, the granted bursts, the request queue, the command unit's replies, the
reads with the final frames, the staging FIFOs, the delay, the notice levels and entries, sweeps done, the arm counts, the
interval counts, the receive buffer, the block counts and the averager regions. The reply list is not among them: R173
bounds it by symbol rates that the model leaves out (log 16). -/
def Obligations.EveryStepStaysWithinLimits : Prop := Kept WithinLimits

/-- The parameter sets stay within the ranges of Table 2.1 and the limits of R25, a pending set keeps the structure of the
active one, the offset in use stays in its range and the write position in the window. -/
def Obligations.ParameterSetsStayInOrder : Prop := Kept SetsInOrder

/-- The sweep indexes stay in rising sequence and within their limits. -/
def Obligations.SweepIndexesStayInOrder : Prop := Kept IndexInOrder

/-- Sweeps of a track never share a page, and the keep marks are those of the kept sweeps' pages. -/
def Obligations.KeepMarksFollowKeptSweeps : Prop := Kept KeepMarksInOrder

/-- The marker units' counts, estimates and windows stay those of their states. -/
def Obligations.MarkerUnitsStayInOrder : Prop := Kept MarkersInOrder

/-- Each property that every step keeps holds after power-on reset. -/
def Obligations.PropertiesHoldAtReset : Prop :=
  MemoriesInOrder State.reset ∧ WithinLimits State.reset ∧ SetsInOrder State.reset ∧ IndexInOrder State.reset ∧
    KeepMarksInOrder State.reset ∧ MarkersInOrder State.reset
end

