-- ==== Sys2Proof/Laws/State.lean ====
section
/-!
SUPPORT. One lemma per field per setter of State, so that no proof unfolds a record update.
-/

namespace Sys2Proof.Machine

section
variable (s : State)

@[simp] theorem State.setTime_time (v : Time) : (s.setTime v).time = v := rfl
@[simp] theorem State.setTime_resetHeld (v : Time) : (s.setTime v).resetHeld = s.resetHeld := rfl
@[simp] theorem State.setTime_epoch (v : Time) : (s.setTime v).epoch = s.epoch := rfl
@[simp] theorem State.setTime_refreshElapsed (v : Time) : (s.setTime v).refreshElapsed = s.refreshElapsed := rfl
@[simp] theorem State.setTime_markerA (v : Time) : (s.setTime v).markerA = s.markerA := rfl
@[simp] theorem State.setTime_markerB (v : Time) : (s.setTime v).markerB = s.markerB := rfl
@[simp] theorem State.setTime_lanes (v : Time) : (s.setTime v).lanes = s.lanes := rfl
@[simp] theorem State.setTime_tracks (v : Time) : (s.setTime v).tracks = s.tracks := rfl
@[simp] theorem State.setTime_maps (v : Time) : (s.setTime v).maps = s.maps := rfl
@[simp] theorem State.setTime_owners (v : Time) : (s.setTime v).owners = s.owners := rfl
@[simp] theorem State.setTime_index (v : Time) : (s.setTime v).index = s.index := rfl
@[simp] theorem State.setTime_writePos (v : Time) : (s.setTime v).writePos = s.writePos := rfl
@[simp] theorem State.setTime_dram (v : Time) : (s.setTime v).dram = s.dram := rfl
@[simp] theorem State.setTime_dramCheck (v : Time) : (s.setTime v).dramCheck = s.dramCheck := rfl
@[simp] theorem State.setTime_mem (v : Time) : (s.setTime v).mem = s.mem := rfl
@[simp] theorem State.setTime_check (v : Time) : (s.setTime v).check = s.check := rfl
@[simp] theorem State.setTime_readout (v : Time) : (s.setTime v).readout = s.readout := rfl
@[simp] theorem State.setTime_averagers (v : Time) : (s.setTime v).averagers = s.averagers := rfl
@[simp] theorem State.setTime_averagerRam (v : Time) : (s.setTime v).averagerRam = s.averagerRam := rfl
@[simp] theorem State.setTime_link (v : Time) : (s.setTime v).link = s.link := rfl
@[simp] theorem State.setTime_notices (v : Time) : (s.setTime v).notices = s.notices := rfl
@[simp] theorem State.setTime_pending (v : Time) : (s.setTime v).pending = s.pending := rfl
@[simp] theorem State.setResetHeld_time (v : Bool) : (s.setResetHeld v).time = s.time := rfl
@[simp] theorem State.setResetHeld_resetHeld (v : Bool) : (s.setResetHeld v).resetHeld = v := rfl
@[simp] theorem State.setResetHeld_epoch (v : Bool) : (s.setResetHeld v).epoch = s.epoch := rfl
@[simp] theorem State.setResetHeld_refreshElapsed (v : Bool) : (s.setResetHeld v).refreshElapsed = s.refreshElapsed := rfl
@[simp] theorem State.setResetHeld_markerA (v : Bool) : (s.setResetHeld v).markerA = s.markerA := rfl
@[simp] theorem State.setResetHeld_markerB (v : Bool) : (s.setResetHeld v).markerB = s.markerB := rfl
@[simp] theorem State.setResetHeld_lanes (v : Bool) : (s.setResetHeld v).lanes = s.lanes := rfl
@[simp] theorem State.setResetHeld_tracks (v : Bool) : (s.setResetHeld v).tracks = s.tracks := rfl
@[simp] theorem State.setResetHeld_maps (v : Bool) : (s.setResetHeld v).maps = s.maps := rfl
@[simp] theorem State.setResetHeld_owners (v : Bool) : (s.setResetHeld v).owners = s.owners := rfl
@[simp] theorem State.setResetHeld_index (v : Bool) : (s.setResetHeld v).index = s.index := rfl
@[simp] theorem State.setResetHeld_writePos (v : Bool) : (s.setResetHeld v).writePos = s.writePos := rfl
@[simp] theorem State.setResetHeld_dram (v : Bool) : (s.setResetHeld v).dram = s.dram := rfl
@[simp] theorem State.setResetHeld_dramCheck (v : Bool) : (s.setResetHeld v).dramCheck = s.dramCheck := rfl
@[simp] theorem State.setResetHeld_mem (v : Bool) : (s.setResetHeld v).mem = s.mem := rfl
@[simp] theorem State.setResetHeld_check (v : Bool) : (s.setResetHeld v).check = s.check := rfl
@[simp] theorem State.setResetHeld_readout (v : Bool) : (s.setResetHeld v).readout = s.readout := rfl
@[simp] theorem State.setResetHeld_averagers (v : Bool) : (s.setResetHeld v).averagers = s.averagers := rfl
@[simp] theorem State.setResetHeld_averagerRam (v : Bool) : (s.setResetHeld v).averagerRam = s.averagerRam := rfl
@[simp] theorem State.setResetHeld_link (v : Bool) : (s.setResetHeld v).link = s.link := rfl
@[simp] theorem State.setResetHeld_notices (v : Bool) : (s.setResetHeld v).notices = s.notices := rfl
@[simp] theorem State.setResetHeld_pending (v : Bool) : (s.setResetHeld v).pending = s.pending := rfl
@[simp] theorem State.setEpoch_time (v : Nat) : (s.setEpoch v).time = s.time := rfl
@[simp] theorem State.setEpoch_resetHeld (v : Nat) : (s.setEpoch v).resetHeld = s.resetHeld := rfl
@[simp] theorem State.setEpoch_epoch (v : Nat) : (s.setEpoch v).epoch = v := rfl
@[simp] theorem State.setEpoch_refreshElapsed (v : Nat) : (s.setEpoch v).refreshElapsed = s.refreshElapsed := rfl
@[simp] theorem State.setEpoch_markerA (v : Nat) : (s.setEpoch v).markerA = s.markerA := rfl
@[simp] theorem State.setEpoch_markerB (v : Nat) : (s.setEpoch v).markerB = s.markerB := rfl
@[simp] theorem State.setEpoch_lanes (v : Nat) : (s.setEpoch v).lanes = s.lanes := rfl
@[simp] theorem State.setEpoch_tracks (v : Nat) : (s.setEpoch v).tracks = s.tracks := rfl
@[simp] theorem State.setEpoch_maps (v : Nat) : (s.setEpoch v).maps = s.maps := rfl
@[simp] theorem State.setEpoch_owners (v : Nat) : (s.setEpoch v).owners = s.owners := rfl
@[simp] theorem State.setEpoch_index (v : Nat) : (s.setEpoch v).index = s.index := rfl
@[simp] theorem State.setEpoch_writePos (v : Nat) : (s.setEpoch v).writePos = s.writePos := rfl
@[simp] theorem State.setEpoch_dram (v : Nat) : (s.setEpoch v).dram = s.dram := rfl
@[simp] theorem State.setEpoch_dramCheck (v : Nat) : (s.setEpoch v).dramCheck = s.dramCheck := rfl
@[simp] theorem State.setEpoch_mem (v : Nat) : (s.setEpoch v).mem = s.mem := rfl
@[simp] theorem State.setEpoch_check (v : Nat) : (s.setEpoch v).check = s.check := rfl
@[simp] theorem State.setEpoch_readout (v : Nat) : (s.setEpoch v).readout = s.readout := rfl
@[simp] theorem State.setEpoch_averagers (v : Nat) : (s.setEpoch v).averagers = s.averagers := rfl
@[simp] theorem State.setEpoch_averagerRam (v : Nat) : (s.setEpoch v).averagerRam = s.averagerRam := rfl
@[simp] theorem State.setEpoch_link (v : Nat) : (s.setEpoch v).link = s.link := rfl
@[simp] theorem State.setEpoch_notices (v : Nat) : (s.setEpoch v).notices = s.notices := rfl
@[simp] theorem State.setEpoch_pending (v : Nat) : (s.setEpoch v).pending = s.pending := rfl
@[simp] theorem State.setRefreshElapsed_time (v : Nat) : (s.setRefreshElapsed v).time = s.time := rfl
@[simp] theorem State.setRefreshElapsed_resetHeld (v : Nat) : (s.setRefreshElapsed v).resetHeld = s.resetHeld := rfl
@[simp] theorem State.setRefreshElapsed_epoch (v : Nat) : (s.setRefreshElapsed v).epoch = s.epoch := rfl
@[simp] theorem State.setRefreshElapsed_refreshElapsed (v : Nat) : (s.setRefreshElapsed v).refreshElapsed = v := rfl
@[simp] theorem State.setRefreshElapsed_markerA (v : Nat) : (s.setRefreshElapsed v).markerA = s.markerA := rfl
@[simp] theorem State.setRefreshElapsed_markerB (v : Nat) : (s.setRefreshElapsed v).markerB = s.markerB := rfl
@[simp] theorem State.setRefreshElapsed_lanes (v : Nat) : (s.setRefreshElapsed v).lanes = s.lanes := rfl
@[simp] theorem State.setRefreshElapsed_tracks (v : Nat) : (s.setRefreshElapsed v).tracks = s.tracks := rfl
@[simp] theorem State.setRefreshElapsed_maps (v : Nat) : (s.setRefreshElapsed v).maps = s.maps := rfl
@[simp] theorem State.setRefreshElapsed_owners (v : Nat) : (s.setRefreshElapsed v).owners = s.owners := rfl
@[simp] theorem State.setRefreshElapsed_index (v : Nat) : (s.setRefreshElapsed v).index = s.index := rfl
@[simp] theorem State.setRefreshElapsed_writePos (v : Nat) : (s.setRefreshElapsed v).writePos = s.writePos := rfl
@[simp] theorem State.setRefreshElapsed_dram (v : Nat) : (s.setRefreshElapsed v).dram = s.dram := rfl
@[simp] theorem State.setRefreshElapsed_dramCheck (v : Nat) : (s.setRefreshElapsed v).dramCheck = s.dramCheck := rfl
@[simp] theorem State.setRefreshElapsed_mem (v : Nat) : (s.setRefreshElapsed v).mem = s.mem := rfl
@[simp] theorem State.setRefreshElapsed_check (v : Nat) : (s.setRefreshElapsed v).check = s.check := rfl
@[simp] theorem State.setRefreshElapsed_readout (v : Nat) : (s.setRefreshElapsed v).readout = s.readout := rfl
@[simp] theorem State.setRefreshElapsed_averagers (v : Nat) : (s.setRefreshElapsed v).averagers = s.averagers := rfl
@[simp] theorem State.setRefreshElapsed_averagerRam (v : Nat) : (s.setRefreshElapsed v).averagerRam = s.averagerRam := rfl
@[simp] theorem State.setRefreshElapsed_link (v : Nat) : (s.setRefreshElapsed v).link = s.link := rfl
@[simp] theorem State.setRefreshElapsed_notices (v : Nat) : (s.setRefreshElapsed v).notices = s.notices := rfl
@[simp] theorem State.setRefreshElapsed_pending (v : Nat) : (s.setRefreshElapsed v).pending = s.pending := rfl
@[simp] theorem State.setMarkerA_time (v : MarkerUnit) : (s.setMarkerA v).time = s.time := rfl
@[simp] theorem State.setMarkerA_resetHeld (v : MarkerUnit) : (s.setMarkerA v).resetHeld = s.resetHeld := rfl
@[simp] theorem State.setMarkerA_epoch (v : MarkerUnit) : (s.setMarkerA v).epoch = s.epoch := rfl
@[simp] theorem State.setMarkerA_refreshElapsed (v : MarkerUnit) : (s.setMarkerA v).refreshElapsed = s.refreshElapsed := rfl
@[simp] theorem State.setMarkerA_markerA (v : MarkerUnit) : (s.setMarkerA v).markerA = v := rfl
@[simp] theorem State.setMarkerA_markerB (v : MarkerUnit) : (s.setMarkerA v).markerB = s.markerB := rfl
@[simp] theorem State.setMarkerA_lanes (v : MarkerUnit) : (s.setMarkerA v).lanes = s.lanes := rfl
@[simp] theorem State.setMarkerA_tracks (v : MarkerUnit) : (s.setMarkerA v).tracks = s.tracks := rfl
@[simp] theorem State.setMarkerA_maps (v : MarkerUnit) : (s.setMarkerA v).maps = s.maps := rfl
@[simp] theorem State.setMarkerA_owners (v : MarkerUnit) : (s.setMarkerA v).owners = s.owners := rfl
@[simp] theorem State.setMarkerA_index (v : MarkerUnit) : (s.setMarkerA v).index = s.index := rfl
@[simp] theorem State.setMarkerA_writePos (v : MarkerUnit) : (s.setMarkerA v).writePos = s.writePos := rfl
@[simp] theorem State.setMarkerA_dram (v : MarkerUnit) : (s.setMarkerA v).dram = s.dram := rfl
@[simp] theorem State.setMarkerA_dramCheck (v : MarkerUnit) : (s.setMarkerA v).dramCheck = s.dramCheck := rfl
@[simp] theorem State.setMarkerA_mem (v : MarkerUnit) : (s.setMarkerA v).mem = s.mem := rfl
@[simp] theorem State.setMarkerA_check (v : MarkerUnit) : (s.setMarkerA v).check = s.check := rfl
@[simp] theorem State.setMarkerA_readout (v : MarkerUnit) : (s.setMarkerA v).readout = s.readout := rfl
@[simp] theorem State.setMarkerA_averagers (v : MarkerUnit) : (s.setMarkerA v).averagers = s.averagers := rfl
@[simp] theorem State.setMarkerA_averagerRam (v : MarkerUnit) : (s.setMarkerA v).averagerRam = s.averagerRam := rfl
@[simp] theorem State.setMarkerA_link (v : MarkerUnit) : (s.setMarkerA v).link = s.link := rfl
@[simp] theorem State.setMarkerA_notices (v : MarkerUnit) : (s.setMarkerA v).notices = s.notices := rfl
@[simp] theorem State.setMarkerA_pending (v : MarkerUnit) : (s.setMarkerA v).pending = s.pending := rfl
@[simp] theorem State.setMarkerB_time (v : MarkerUnit) : (s.setMarkerB v).time = s.time := rfl
@[simp] theorem State.setMarkerB_resetHeld (v : MarkerUnit) : (s.setMarkerB v).resetHeld = s.resetHeld := rfl
@[simp] theorem State.setMarkerB_epoch (v : MarkerUnit) : (s.setMarkerB v).epoch = s.epoch := rfl
@[simp] theorem State.setMarkerB_refreshElapsed (v : MarkerUnit) : (s.setMarkerB v).refreshElapsed = s.refreshElapsed := rfl
@[simp] theorem State.setMarkerB_markerA (v : MarkerUnit) : (s.setMarkerB v).markerA = s.markerA := rfl
@[simp] theorem State.setMarkerB_markerB (v : MarkerUnit) : (s.setMarkerB v).markerB = v := rfl
@[simp] theorem State.setMarkerB_lanes (v : MarkerUnit) : (s.setMarkerB v).lanes = s.lanes := rfl
@[simp] theorem State.setMarkerB_tracks (v : MarkerUnit) : (s.setMarkerB v).tracks = s.tracks := rfl
@[simp] theorem State.setMarkerB_maps (v : MarkerUnit) : (s.setMarkerB v).maps = s.maps := rfl
@[simp] theorem State.setMarkerB_owners (v : MarkerUnit) : (s.setMarkerB v).owners = s.owners := rfl
@[simp] theorem State.setMarkerB_index (v : MarkerUnit) : (s.setMarkerB v).index = s.index := rfl
@[simp] theorem State.setMarkerB_writePos (v : MarkerUnit) : (s.setMarkerB v).writePos = s.writePos := rfl
@[simp] theorem State.setMarkerB_dram (v : MarkerUnit) : (s.setMarkerB v).dram = s.dram := rfl
@[simp] theorem State.setMarkerB_dramCheck (v : MarkerUnit) : (s.setMarkerB v).dramCheck = s.dramCheck := rfl
@[simp] theorem State.setMarkerB_mem (v : MarkerUnit) : (s.setMarkerB v).mem = s.mem := rfl
@[simp] theorem State.setMarkerB_check (v : MarkerUnit) : (s.setMarkerB v).check = s.check := rfl
@[simp] theorem State.setMarkerB_readout (v : MarkerUnit) : (s.setMarkerB v).readout = s.readout := rfl
@[simp] theorem State.setMarkerB_averagers (v : MarkerUnit) : (s.setMarkerB v).averagers = s.averagers := rfl
@[simp] theorem State.setMarkerB_averagerRam (v : MarkerUnit) : (s.setMarkerB v).averagerRam = s.averagerRam := rfl
@[simp] theorem State.setMarkerB_link (v : MarkerUnit) : (s.setMarkerB v).link = s.link := rfl
@[simp] theorem State.setMarkerB_notices (v : MarkerUnit) : (s.setMarkerB v).notices = s.notices := rfl
@[simp] theorem State.setMarkerB_pending (v : MarkerUnit) : (s.setMarkerB v).pending = s.pending := rfl
@[simp] theorem State.setLanes_time (v : Vector Lane 8) : (s.setLanes v).time = s.time := rfl
@[simp] theorem State.setLanes_resetHeld (v : Vector Lane 8) : (s.setLanes v).resetHeld = s.resetHeld := rfl
@[simp] theorem State.setLanes_epoch (v : Vector Lane 8) : (s.setLanes v).epoch = s.epoch := rfl
@[simp] theorem State.setLanes_refreshElapsed (v : Vector Lane 8) : (s.setLanes v).refreshElapsed = s.refreshElapsed := rfl
@[simp] theorem State.setLanes_markerA (v : Vector Lane 8) : (s.setLanes v).markerA = s.markerA := rfl
@[simp] theorem State.setLanes_markerB (v : Vector Lane 8) : (s.setLanes v).markerB = s.markerB := rfl
@[simp] theorem State.setLanes_lanes (v : Vector Lane 8) : (s.setLanes v).lanes = v := rfl
@[simp] theorem State.setLanes_tracks (v : Vector Lane 8) : (s.setLanes v).tracks = s.tracks := rfl
@[simp] theorem State.setLanes_maps (v : Vector Lane 8) : (s.setLanes v).maps = s.maps := rfl
@[simp] theorem State.setLanes_owners (v : Vector Lane 8) : (s.setLanes v).owners = s.owners := rfl
@[simp] theorem State.setLanes_index (v : Vector Lane 8) : (s.setLanes v).index = s.index := rfl
@[simp] theorem State.setLanes_writePos (v : Vector Lane 8) : (s.setLanes v).writePos = s.writePos := rfl
@[simp] theorem State.setLanes_dram (v : Vector Lane 8) : (s.setLanes v).dram = s.dram := rfl
@[simp] theorem State.setLanes_dramCheck (v : Vector Lane 8) : (s.setLanes v).dramCheck = s.dramCheck := rfl
@[simp] theorem State.setLanes_mem (v : Vector Lane 8) : (s.setLanes v).mem = s.mem := rfl
@[simp] theorem State.setLanes_check (v : Vector Lane 8) : (s.setLanes v).check = s.check := rfl
@[simp] theorem State.setLanes_readout (v : Vector Lane 8) : (s.setLanes v).readout = s.readout := rfl
@[simp] theorem State.setLanes_averagers (v : Vector Lane 8) : (s.setLanes v).averagers = s.averagers := rfl
@[simp] theorem State.setLanes_averagerRam (v : Vector Lane 8) : (s.setLanes v).averagerRam = s.averagerRam := rfl
@[simp] theorem State.setLanes_link (v : Vector Lane 8) : (s.setLanes v).link = s.link := rfl
@[simp] theorem State.setLanes_notices (v : Vector Lane 8) : (s.setLanes v).notices = s.notices := rfl
@[simp] theorem State.setLanes_pending (v : Vector Lane 8) : (s.setLanes v).pending = s.pending := rfl
@[simp] theorem State.setTracks_time (v : Vector TrackUnit 8) : (s.setTracks v).time = s.time := rfl
@[simp] theorem State.setTracks_resetHeld (v : Vector TrackUnit 8) : (s.setTracks v).resetHeld = s.resetHeld := rfl
@[simp] theorem State.setTracks_epoch (v : Vector TrackUnit 8) : (s.setTracks v).epoch = s.epoch := rfl
@[simp] theorem State.setTracks_refreshElapsed (v : Vector TrackUnit 8) : (s.setTracks v).refreshElapsed = s.refreshElapsed := rfl
@[simp] theorem State.setTracks_markerA (v : Vector TrackUnit 8) : (s.setTracks v).markerA = s.markerA := rfl
@[simp] theorem State.setTracks_markerB (v : Vector TrackUnit 8) : (s.setTracks v).markerB = s.markerB := rfl
@[simp] theorem State.setTracks_lanes (v : Vector TrackUnit 8) : (s.setTracks v).lanes = s.lanes := rfl
@[simp] theorem State.setTracks_tracks (v : Vector TrackUnit 8) : (s.setTracks v).tracks = v := rfl
@[simp] theorem State.setTracks_maps (v : Vector TrackUnit 8) : (s.setTracks v).maps = s.maps := rfl
@[simp] theorem State.setTracks_owners (v : Vector TrackUnit 8) : (s.setTracks v).owners = s.owners := rfl
@[simp] theorem State.setTracks_index (v : Vector TrackUnit 8) : (s.setTracks v).index = s.index := rfl
@[simp] theorem State.setTracks_writePos (v : Vector TrackUnit 8) : (s.setTracks v).writePos = s.writePos := rfl
@[simp] theorem State.setTracks_dram (v : Vector TrackUnit 8) : (s.setTracks v).dram = s.dram := rfl
@[simp] theorem State.setTracks_dramCheck (v : Vector TrackUnit 8) : (s.setTracks v).dramCheck = s.dramCheck := rfl
@[simp] theorem State.setTracks_mem (v : Vector TrackUnit 8) : (s.setTracks v).mem = s.mem := rfl
@[simp] theorem State.setTracks_check (v : Vector TrackUnit 8) : (s.setTracks v).check = s.check := rfl
@[simp] theorem State.setTracks_readout (v : Vector TrackUnit 8) : (s.setTracks v).readout = s.readout := rfl
@[simp] theorem State.setTracks_averagers (v : Vector TrackUnit 8) : (s.setTracks v).averagers = s.averagers := rfl
@[simp] theorem State.setTracks_averagerRam (v : Vector TrackUnit 8) : (s.setTracks v).averagerRam = s.averagerRam := rfl
@[simp] theorem State.setTracks_link (v : Vector TrackUnit 8) : (s.setTracks v).link = s.link := rfl
@[simp] theorem State.setTracks_notices (v : Vector TrackUnit 8) : (s.setTracks v).notices = s.notices := rfl
@[simp] theorem State.setTracks_pending (v : Vector TrackUnit 8) : (s.setTracks v).pending = s.pending := rfl
@[simp] theorem State.setMaps_time (v : Vector (Table MapEntry) 8) : (s.setMaps v).time = s.time := rfl
@[simp] theorem State.setMaps_resetHeld (v : Vector (Table MapEntry) 8) : (s.setMaps v).resetHeld = s.resetHeld := rfl
@[simp] theorem State.setMaps_epoch (v : Vector (Table MapEntry) 8) : (s.setMaps v).epoch = s.epoch := rfl
@[simp] theorem State.setMaps_refreshElapsed (v : Vector (Table MapEntry) 8) : (s.setMaps v).refreshElapsed = s.refreshElapsed := rfl
@[simp] theorem State.setMaps_markerA (v : Vector (Table MapEntry) 8) : (s.setMaps v).markerA = s.markerA := rfl
@[simp] theorem State.setMaps_markerB (v : Vector (Table MapEntry) 8) : (s.setMaps v).markerB = s.markerB := rfl
@[simp] theorem State.setMaps_lanes (v : Vector (Table MapEntry) 8) : (s.setMaps v).lanes = s.lanes := rfl
@[simp] theorem State.setMaps_tracks (v : Vector (Table MapEntry) 8) : (s.setMaps v).tracks = s.tracks := rfl
@[simp] theorem State.setMaps_maps (v : Vector (Table MapEntry) 8) : (s.setMaps v).maps = v := rfl
@[simp] theorem State.setMaps_owners (v : Vector (Table MapEntry) 8) : (s.setMaps v).owners = s.owners := rfl
@[simp] theorem State.setMaps_index (v : Vector (Table MapEntry) 8) : (s.setMaps v).index = s.index := rfl
@[simp] theorem State.setMaps_writePos (v : Vector (Table MapEntry) 8) : (s.setMaps v).writePos = s.writePos := rfl
@[simp] theorem State.setMaps_dram (v : Vector (Table MapEntry) 8) : (s.setMaps v).dram = s.dram := rfl
@[simp] theorem State.setMaps_dramCheck (v : Vector (Table MapEntry) 8) : (s.setMaps v).dramCheck = s.dramCheck := rfl
@[simp] theorem State.setMaps_mem (v : Vector (Table MapEntry) 8) : (s.setMaps v).mem = s.mem := rfl
@[simp] theorem State.setMaps_check (v : Vector (Table MapEntry) 8) : (s.setMaps v).check = s.check := rfl
@[simp] theorem State.setMaps_readout (v : Vector (Table MapEntry) 8) : (s.setMaps v).readout = s.readout := rfl
@[simp] theorem State.setMaps_averagers (v : Vector (Table MapEntry) 8) : (s.setMaps v).averagers = s.averagers := rfl
@[simp] theorem State.setMaps_averagerRam (v : Vector (Table MapEntry) 8) : (s.setMaps v).averagerRam = s.averagerRam := rfl
@[simp] theorem State.setMaps_link (v : Vector (Table MapEntry) 8) : (s.setMaps v).link = s.link := rfl
@[simp] theorem State.setMaps_notices (v : Vector (Table MapEntry) 8) : (s.setMaps v).notices = s.notices := rfl
@[simp] theorem State.setMaps_pending (v : Vector (Table MapEntry) 8) : (s.setMaps v).pending = s.pending := rfl
@[simp] theorem State.setOwners_time (v : Table Owner) : (s.setOwners v).time = s.time := rfl
@[simp] theorem State.setOwners_resetHeld (v : Table Owner) : (s.setOwners v).resetHeld = s.resetHeld := rfl
@[simp] theorem State.setOwners_epoch (v : Table Owner) : (s.setOwners v).epoch = s.epoch := rfl
@[simp] theorem State.setOwners_refreshElapsed (v : Table Owner) : (s.setOwners v).refreshElapsed = s.refreshElapsed := rfl
@[simp] theorem State.setOwners_markerA (v : Table Owner) : (s.setOwners v).markerA = s.markerA := rfl
@[simp] theorem State.setOwners_markerB (v : Table Owner) : (s.setOwners v).markerB = s.markerB := rfl
@[simp] theorem State.setOwners_lanes (v : Table Owner) : (s.setOwners v).lanes = s.lanes := rfl
@[simp] theorem State.setOwners_tracks (v : Table Owner) : (s.setOwners v).tracks = s.tracks := rfl
@[simp] theorem State.setOwners_maps (v : Table Owner) : (s.setOwners v).maps = s.maps := rfl
@[simp] theorem State.setOwners_owners (v : Table Owner) : (s.setOwners v).owners = v := rfl
@[simp] theorem State.setOwners_index (v : Table Owner) : (s.setOwners v).index = s.index := rfl
@[simp] theorem State.setOwners_writePos (v : Table Owner) : (s.setOwners v).writePos = s.writePos := rfl
@[simp] theorem State.setOwners_dram (v : Table Owner) : (s.setOwners v).dram = s.dram := rfl
@[simp] theorem State.setOwners_dramCheck (v : Table Owner) : (s.setOwners v).dramCheck = s.dramCheck := rfl
@[simp] theorem State.setOwners_mem (v : Table Owner) : (s.setOwners v).mem = s.mem := rfl
@[simp] theorem State.setOwners_check (v : Table Owner) : (s.setOwners v).check = s.check := rfl
@[simp] theorem State.setOwners_readout (v : Table Owner) : (s.setOwners v).readout = s.readout := rfl
@[simp] theorem State.setOwners_averagers (v : Table Owner) : (s.setOwners v).averagers = s.averagers := rfl
@[simp] theorem State.setOwners_averagerRam (v : Table Owner) : (s.setOwners v).averagerRam = s.averagerRam := rfl
@[simp] theorem State.setOwners_link (v : Table Owner) : (s.setOwners v).link = s.link := rfl
@[simp] theorem State.setOwners_notices (v : Table Owner) : (s.setOwners v).notices = s.notices := rfl
@[simp] theorem State.setOwners_pending (v : Table Owner) : (s.setOwners v).pending = s.pending := rfl
@[simp] theorem State.setIndex_time (v : Vector (List SweepRecord) 8) : (s.setIndex v).time = s.time := rfl
@[simp] theorem State.setIndex_resetHeld (v : Vector (List SweepRecord) 8) : (s.setIndex v).resetHeld = s.resetHeld := rfl
@[simp] theorem State.setIndex_epoch (v : Vector (List SweepRecord) 8) : (s.setIndex v).epoch = s.epoch := rfl
@[simp] theorem State.setIndex_refreshElapsed (v : Vector (List SweepRecord) 8) : (s.setIndex v).refreshElapsed = s.refreshElapsed := rfl
@[simp] theorem State.setIndex_markerA (v : Vector (List SweepRecord) 8) : (s.setIndex v).markerA = s.markerA := rfl
@[simp] theorem State.setIndex_markerB (v : Vector (List SweepRecord) 8) : (s.setIndex v).markerB = s.markerB := rfl
@[simp] theorem State.setIndex_lanes (v : Vector (List SweepRecord) 8) : (s.setIndex v).lanes = s.lanes := rfl
@[simp] theorem State.setIndex_tracks (v : Vector (List SweepRecord) 8) : (s.setIndex v).tracks = s.tracks := rfl
@[simp] theorem State.setIndex_maps (v : Vector (List SweepRecord) 8) : (s.setIndex v).maps = s.maps := rfl
@[simp] theorem State.setIndex_owners (v : Vector (List SweepRecord) 8) : (s.setIndex v).owners = s.owners := rfl
@[simp] theorem State.setIndex_index (v : Vector (List SweepRecord) 8) : (s.setIndex v).index = v := rfl
@[simp] theorem State.setIndex_writePos (v : Vector (List SweepRecord) 8) : (s.setIndex v).writePos = s.writePos := rfl
@[simp] theorem State.setIndex_dram (v : Vector (List SweepRecord) 8) : (s.setIndex v).dram = s.dram := rfl
@[simp] theorem State.setIndex_dramCheck (v : Vector (List SweepRecord) 8) : (s.setIndex v).dramCheck = s.dramCheck := rfl
@[simp] theorem State.setIndex_mem (v : Vector (List SweepRecord) 8) : (s.setIndex v).mem = s.mem := rfl
@[simp] theorem State.setIndex_check (v : Vector (List SweepRecord) 8) : (s.setIndex v).check = s.check := rfl
@[simp] theorem State.setIndex_readout (v : Vector (List SweepRecord) 8) : (s.setIndex v).readout = s.readout := rfl
@[simp] theorem State.setIndex_averagers (v : Vector (List SweepRecord) 8) : (s.setIndex v).averagers = s.averagers := rfl
@[simp] theorem State.setIndex_averagerRam (v : Vector (List SweepRecord) 8) : (s.setIndex v).averagerRam = s.averagerRam := rfl
@[simp] theorem State.setIndex_link (v : Vector (List SweepRecord) 8) : (s.setIndex v).link = s.link := rfl
@[simp] theorem State.setIndex_notices (v : Vector (List SweepRecord) 8) : (s.setIndex v).notices = s.notices := rfl
@[simp] theorem State.setIndex_pending (v : Vector (List SweepRecord) 8) : (s.setIndex v).pending = s.pending := rfl
@[simp] theorem State.setWritePos_time (v : Vector Nat 8) : (s.setWritePos v).time = s.time := rfl
@[simp] theorem State.setWritePos_resetHeld (v : Vector Nat 8) : (s.setWritePos v).resetHeld = s.resetHeld := rfl
@[simp] theorem State.setWritePos_epoch (v : Vector Nat 8) : (s.setWritePos v).epoch = s.epoch := rfl
@[simp] theorem State.setWritePos_refreshElapsed (v : Vector Nat 8) : (s.setWritePos v).refreshElapsed = s.refreshElapsed := rfl
@[simp] theorem State.setWritePos_markerA (v : Vector Nat 8) : (s.setWritePos v).markerA = s.markerA := rfl
@[simp] theorem State.setWritePos_markerB (v : Vector Nat 8) : (s.setWritePos v).markerB = s.markerB := rfl
@[simp] theorem State.setWritePos_lanes (v : Vector Nat 8) : (s.setWritePos v).lanes = s.lanes := rfl
@[simp] theorem State.setWritePos_tracks (v : Vector Nat 8) : (s.setWritePos v).tracks = s.tracks := rfl
@[simp] theorem State.setWritePos_maps (v : Vector Nat 8) : (s.setWritePos v).maps = s.maps := rfl
@[simp] theorem State.setWritePos_owners (v : Vector Nat 8) : (s.setWritePos v).owners = s.owners := rfl
@[simp] theorem State.setWritePos_index (v : Vector Nat 8) : (s.setWritePos v).index = s.index := rfl
@[simp] theorem State.setWritePos_writePos (v : Vector Nat 8) : (s.setWritePos v).writePos = v := rfl
@[simp] theorem State.setWritePos_dram (v : Vector Nat 8) : (s.setWritePos v).dram = s.dram := rfl
@[simp] theorem State.setWritePos_dramCheck (v : Vector Nat 8) : (s.setWritePos v).dramCheck = s.dramCheck := rfl
@[simp] theorem State.setWritePos_mem (v : Vector Nat 8) : (s.setWritePos v).mem = s.mem := rfl
@[simp] theorem State.setWritePos_check (v : Vector Nat 8) : (s.setWritePos v).check = s.check := rfl
@[simp] theorem State.setWritePos_readout (v : Vector Nat 8) : (s.setWritePos v).readout = s.readout := rfl
@[simp] theorem State.setWritePos_averagers (v : Vector Nat 8) : (s.setWritePos v).averagers = s.averagers := rfl
@[simp] theorem State.setWritePos_averagerRam (v : Vector Nat 8) : (s.setWritePos v).averagerRam = s.averagerRam := rfl
@[simp] theorem State.setWritePos_link (v : Vector Nat 8) : (s.setWritePos v).link = s.link := rfl
@[simp] theorem State.setWritePos_notices (v : Vector Nat 8) : (s.setWritePos v).notices = s.notices := rfl
@[simp] theorem State.setWritePos_pending (v : Vector Nat 8) : (s.setWritePos v).pending = s.pending := rfl
@[simp] theorem State.setDram_time (v : Memory) : (s.setDram v).time = s.time := rfl
@[simp] theorem State.setDram_resetHeld (v : Memory) : (s.setDram v).resetHeld = s.resetHeld := rfl
@[simp] theorem State.setDram_epoch (v : Memory) : (s.setDram v).epoch = s.epoch := rfl
@[simp] theorem State.setDram_refreshElapsed (v : Memory) : (s.setDram v).refreshElapsed = s.refreshElapsed := rfl
@[simp] theorem State.setDram_markerA (v : Memory) : (s.setDram v).markerA = s.markerA := rfl
@[simp] theorem State.setDram_markerB (v : Memory) : (s.setDram v).markerB = s.markerB := rfl
@[simp] theorem State.setDram_lanes (v : Memory) : (s.setDram v).lanes = s.lanes := rfl
@[simp] theorem State.setDram_tracks (v : Memory) : (s.setDram v).tracks = s.tracks := rfl
@[simp] theorem State.setDram_maps (v : Memory) : (s.setDram v).maps = s.maps := rfl
@[simp] theorem State.setDram_owners (v : Memory) : (s.setDram v).owners = s.owners := rfl
@[simp] theorem State.setDram_index (v : Memory) : (s.setDram v).index = s.index := rfl
@[simp] theorem State.setDram_writePos (v : Memory) : (s.setDram v).writePos = s.writePos := rfl
@[simp] theorem State.setDram_dram (v : Memory) : (s.setDram v).dram = v := rfl
@[simp] theorem State.setDram_dramCheck (v : Memory) : (s.setDram v).dramCheck = s.dramCheck := rfl
@[simp] theorem State.setDram_mem (v : Memory) : (s.setDram v).mem = s.mem := rfl
@[simp] theorem State.setDram_check (v : Memory) : (s.setDram v).check = s.check := rfl
@[simp] theorem State.setDram_readout (v : Memory) : (s.setDram v).readout = s.readout := rfl
@[simp] theorem State.setDram_averagers (v : Memory) : (s.setDram v).averagers = s.averagers := rfl
@[simp] theorem State.setDram_averagerRam (v : Memory) : (s.setDram v).averagerRam = s.averagerRam := rfl
@[simp] theorem State.setDram_link (v : Memory) : (s.setDram v).link = s.link := rfl
@[simp] theorem State.setDram_notices (v : Memory) : (s.setDram v).notices = s.notices := rfl
@[simp] theorem State.setDram_pending (v : Memory) : (s.setDram v).pending = s.pending := rfl
@[simp] theorem State.setDramCheck_time (v : Memory) : (s.setDramCheck v).time = s.time := rfl
@[simp] theorem State.setDramCheck_resetHeld (v : Memory) : (s.setDramCheck v).resetHeld = s.resetHeld := rfl
@[simp] theorem State.setDramCheck_epoch (v : Memory) : (s.setDramCheck v).epoch = s.epoch := rfl
@[simp] theorem State.setDramCheck_refreshElapsed (v : Memory) : (s.setDramCheck v).refreshElapsed = s.refreshElapsed := rfl
@[simp] theorem State.setDramCheck_markerA (v : Memory) : (s.setDramCheck v).markerA = s.markerA := rfl
@[simp] theorem State.setDramCheck_markerB (v : Memory) : (s.setDramCheck v).markerB = s.markerB := rfl
@[simp] theorem State.setDramCheck_lanes (v : Memory) : (s.setDramCheck v).lanes = s.lanes := rfl
@[simp] theorem State.setDramCheck_tracks (v : Memory) : (s.setDramCheck v).tracks = s.tracks := rfl
@[simp] theorem State.setDramCheck_maps (v : Memory) : (s.setDramCheck v).maps = s.maps := rfl
@[simp] theorem State.setDramCheck_owners (v : Memory) : (s.setDramCheck v).owners = s.owners := rfl
@[simp] theorem State.setDramCheck_index (v : Memory) : (s.setDramCheck v).index = s.index := rfl
@[simp] theorem State.setDramCheck_writePos (v : Memory) : (s.setDramCheck v).writePos = s.writePos := rfl
@[simp] theorem State.setDramCheck_dram (v : Memory) : (s.setDramCheck v).dram = s.dram := rfl
@[simp] theorem State.setDramCheck_dramCheck (v : Memory) : (s.setDramCheck v).dramCheck = v := rfl
@[simp] theorem State.setDramCheck_mem (v : Memory) : (s.setDramCheck v).mem = s.mem := rfl
@[simp] theorem State.setDramCheck_check (v : Memory) : (s.setDramCheck v).check = s.check := rfl
@[simp] theorem State.setDramCheck_readout (v : Memory) : (s.setDramCheck v).readout = s.readout := rfl
@[simp] theorem State.setDramCheck_averagers (v : Memory) : (s.setDramCheck v).averagers = s.averagers := rfl
@[simp] theorem State.setDramCheck_averagerRam (v : Memory) : (s.setDramCheck v).averagerRam = s.averagerRam := rfl
@[simp] theorem State.setDramCheck_link (v : Memory) : (s.setDramCheck v).link = s.link := rfl
@[simp] theorem State.setDramCheck_notices (v : Memory) : (s.setDramCheck v).notices = s.notices := rfl
@[simp] theorem State.setDramCheck_pending (v : Memory) : (s.setDramCheck v).pending = s.pending := rfl
@[simp] theorem State.setMem_time (v : MemControl) : (s.setMem v).time = s.time := rfl
@[simp] theorem State.setMem_resetHeld (v : MemControl) : (s.setMem v).resetHeld = s.resetHeld := rfl
@[simp] theorem State.setMem_epoch (v : MemControl) : (s.setMem v).epoch = s.epoch := rfl
@[simp] theorem State.setMem_refreshElapsed (v : MemControl) : (s.setMem v).refreshElapsed = s.refreshElapsed := rfl
@[simp] theorem State.setMem_markerA (v : MemControl) : (s.setMem v).markerA = s.markerA := rfl
@[simp] theorem State.setMem_markerB (v : MemControl) : (s.setMem v).markerB = s.markerB := rfl
@[simp] theorem State.setMem_lanes (v : MemControl) : (s.setMem v).lanes = s.lanes := rfl
@[simp] theorem State.setMem_tracks (v : MemControl) : (s.setMem v).tracks = s.tracks := rfl
@[simp] theorem State.setMem_maps (v : MemControl) : (s.setMem v).maps = s.maps := rfl
@[simp] theorem State.setMem_owners (v : MemControl) : (s.setMem v).owners = s.owners := rfl
@[simp] theorem State.setMem_index (v : MemControl) : (s.setMem v).index = s.index := rfl
@[simp] theorem State.setMem_writePos (v : MemControl) : (s.setMem v).writePos = s.writePos := rfl
@[simp] theorem State.setMem_dram (v : MemControl) : (s.setMem v).dram = s.dram := rfl
@[simp] theorem State.setMem_dramCheck (v : MemControl) : (s.setMem v).dramCheck = s.dramCheck := rfl
@[simp] theorem State.setMem_mem (v : MemControl) : (s.setMem v).mem = v := rfl
@[simp] theorem State.setMem_check (v : MemControl) : (s.setMem v).check = s.check := rfl
@[simp] theorem State.setMem_readout (v : MemControl) : (s.setMem v).readout = s.readout := rfl
@[simp] theorem State.setMem_averagers (v : MemControl) : (s.setMem v).averagers = s.averagers := rfl
@[simp] theorem State.setMem_averagerRam (v : MemControl) : (s.setMem v).averagerRam = s.averagerRam := rfl
@[simp] theorem State.setMem_link (v : MemControl) : (s.setMem v).link = s.link := rfl
@[simp] theorem State.setMem_notices (v : MemControl) : (s.setMem v).notices = s.notices := rfl
@[simp] theorem State.setMem_pending (v : MemControl) : (s.setMem v).pending = s.pending := rfl
@[simp] theorem State.setCheck_time (v : CheckUnit) : (s.setCheck v).time = s.time := rfl
@[simp] theorem State.setCheck_resetHeld (v : CheckUnit) : (s.setCheck v).resetHeld = s.resetHeld := rfl
@[simp] theorem State.setCheck_epoch (v : CheckUnit) : (s.setCheck v).epoch = s.epoch := rfl
@[simp] theorem State.setCheck_refreshElapsed (v : CheckUnit) : (s.setCheck v).refreshElapsed = s.refreshElapsed := rfl
@[simp] theorem State.setCheck_markerA (v : CheckUnit) : (s.setCheck v).markerA = s.markerA := rfl
@[simp] theorem State.setCheck_markerB (v : CheckUnit) : (s.setCheck v).markerB = s.markerB := rfl
@[simp] theorem State.setCheck_lanes (v : CheckUnit) : (s.setCheck v).lanes = s.lanes := rfl
@[simp] theorem State.setCheck_tracks (v : CheckUnit) : (s.setCheck v).tracks = s.tracks := rfl
@[simp] theorem State.setCheck_maps (v : CheckUnit) : (s.setCheck v).maps = s.maps := rfl
@[simp] theorem State.setCheck_owners (v : CheckUnit) : (s.setCheck v).owners = s.owners := rfl
@[simp] theorem State.setCheck_index (v : CheckUnit) : (s.setCheck v).index = s.index := rfl
@[simp] theorem State.setCheck_writePos (v : CheckUnit) : (s.setCheck v).writePos = s.writePos := rfl
@[simp] theorem State.setCheck_dram (v : CheckUnit) : (s.setCheck v).dram = s.dram := rfl
@[simp] theorem State.setCheck_dramCheck (v : CheckUnit) : (s.setCheck v).dramCheck = s.dramCheck := rfl
@[simp] theorem State.setCheck_mem (v : CheckUnit) : (s.setCheck v).mem = s.mem := rfl
@[simp] theorem State.setCheck_check (v : CheckUnit) : (s.setCheck v).check = v := rfl
@[simp] theorem State.setCheck_readout (v : CheckUnit) : (s.setCheck v).readout = s.readout := rfl
@[simp] theorem State.setCheck_averagers (v : CheckUnit) : (s.setCheck v).averagers = s.averagers := rfl
@[simp] theorem State.setCheck_averagerRam (v : CheckUnit) : (s.setCheck v).averagerRam = s.averagerRam := rfl
@[simp] theorem State.setCheck_link (v : CheckUnit) : (s.setCheck v).link = s.link := rfl
@[simp] theorem State.setCheck_notices (v : CheckUnit) : (s.setCheck v).notices = s.notices := rfl
@[simp] theorem State.setCheck_pending (v : CheckUnit) : (s.setCheck v).pending = s.pending := rfl
@[simp] theorem State.setReadout_time (v : Readout) : (s.setReadout v).time = s.time := rfl
@[simp] theorem State.setReadout_resetHeld (v : Readout) : (s.setReadout v).resetHeld = s.resetHeld := rfl
@[simp] theorem State.setReadout_epoch (v : Readout) : (s.setReadout v).epoch = s.epoch := rfl
@[simp] theorem State.setReadout_refreshElapsed (v : Readout) : (s.setReadout v).refreshElapsed = s.refreshElapsed := rfl
@[simp] theorem State.setReadout_markerA (v : Readout) : (s.setReadout v).markerA = s.markerA := rfl
@[simp] theorem State.setReadout_markerB (v : Readout) : (s.setReadout v).markerB = s.markerB := rfl
@[simp] theorem State.setReadout_lanes (v : Readout) : (s.setReadout v).lanes = s.lanes := rfl
@[simp] theorem State.setReadout_tracks (v : Readout) : (s.setReadout v).tracks = s.tracks := rfl
@[simp] theorem State.setReadout_maps (v : Readout) : (s.setReadout v).maps = s.maps := rfl
@[simp] theorem State.setReadout_owners (v : Readout) : (s.setReadout v).owners = s.owners := rfl
@[simp] theorem State.setReadout_index (v : Readout) : (s.setReadout v).index = s.index := rfl
@[simp] theorem State.setReadout_writePos (v : Readout) : (s.setReadout v).writePos = s.writePos := rfl
@[simp] theorem State.setReadout_dram (v : Readout) : (s.setReadout v).dram = s.dram := rfl
@[simp] theorem State.setReadout_dramCheck (v : Readout) : (s.setReadout v).dramCheck = s.dramCheck := rfl
@[simp] theorem State.setReadout_mem (v : Readout) : (s.setReadout v).mem = s.mem := rfl
@[simp] theorem State.setReadout_check (v : Readout) : (s.setReadout v).check = s.check := rfl
@[simp] theorem State.setReadout_readout (v : Readout) : (s.setReadout v).readout = v := rfl
@[simp] theorem State.setReadout_averagers (v : Readout) : (s.setReadout v).averagers = s.averagers := rfl
@[simp] theorem State.setReadout_averagerRam (v : Readout) : (s.setReadout v).averagerRam = s.averagerRam := rfl
@[simp] theorem State.setReadout_link (v : Readout) : (s.setReadout v).link = s.link := rfl
@[simp] theorem State.setReadout_notices (v : Readout) : (s.setReadout v).notices = s.notices := rfl
@[simp] theorem State.setReadout_pending (v : Readout) : (s.setReadout v).pending = s.pending := rfl
@[simp] theorem State.setAveragers_time (v : Vector Averager 8) : (s.setAveragers v).time = s.time := rfl
@[simp] theorem State.setAveragers_resetHeld (v : Vector Averager 8) : (s.setAveragers v).resetHeld = s.resetHeld := rfl
@[simp] theorem State.setAveragers_epoch (v : Vector Averager 8) : (s.setAveragers v).epoch = s.epoch := rfl
@[simp] theorem State.setAveragers_refreshElapsed (v : Vector Averager 8) : (s.setAveragers v).refreshElapsed = s.refreshElapsed := rfl
@[simp] theorem State.setAveragers_markerA (v : Vector Averager 8) : (s.setAveragers v).markerA = s.markerA := rfl
@[simp] theorem State.setAveragers_markerB (v : Vector Averager 8) : (s.setAveragers v).markerB = s.markerB := rfl
@[simp] theorem State.setAveragers_lanes (v : Vector Averager 8) : (s.setAveragers v).lanes = s.lanes := rfl
@[simp] theorem State.setAveragers_tracks (v : Vector Averager 8) : (s.setAveragers v).tracks = s.tracks := rfl
@[simp] theorem State.setAveragers_maps (v : Vector Averager 8) : (s.setAveragers v).maps = s.maps := rfl
@[simp] theorem State.setAveragers_owners (v : Vector Averager 8) : (s.setAveragers v).owners = s.owners := rfl
@[simp] theorem State.setAveragers_index (v : Vector Averager 8) : (s.setAveragers v).index = s.index := rfl
@[simp] theorem State.setAveragers_writePos (v : Vector Averager 8) : (s.setAveragers v).writePos = s.writePos := rfl
@[simp] theorem State.setAveragers_dram (v : Vector Averager 8) : (s.setAveragers v).dram = s.dram := rfl
@[simp] theorem State.setAveragers_dramCheck (v : Vector Averager 8) : (s.setAveragers v).dramCheck = s.dramCheck := rfl
@[simp] theorem State.setAveragers_mem (v : Vector Averager 8) : (s.setAveragers v).mem = s.mem := rfl
@[simp] theorem State.setAveragers_check (v : Vector Averager 8) : (s.setAveragers v).check = s.check := rfl
@[simp] theorem State.setAveragers_readout (v : Vector Averager 8) : (s.setAveragers v).readout = s.readout := rfl
@[simp] theorem State.setAveragers_averagers (v : Vector Averager 8) : (s.setAveragers v).averagers = v := rfl
@[simp] theorem State.setAveragers_averagerRam (v : Vector Averager 8) : (s.setAveragers v).averagerRam = s.averagerRam := rfl
@[simp] theorem State.setAveragers_link (v : Vector Averager 8) : (s.setAveragers v).link = s.link := rfl
@[simp] theorem State.setAveragers_notices (v : Vector Averager 8) : (s.setAveragers v).notices = s.notices := rfl
@[simp] theorem State.setAveragers_pending (v : Vector Averager 8) : (s.setAveragers v).pending = s.pending := rfl
@[simp] theorem State.setAveragerRam_time (v : Table (BitVec 32)) : (s.setAveragerRam v).time = s.time := rfl
@[simp] theorem State.setAveragerRam_resetHeld (v : Table (BitVec 32)) : (s.setAveragerRam v).resetHeld = s.resetHeld := rfl
@[simp] theorem State.setAveragerRam_epoch (v : Table (BitVec 32)) : (s.setAveragerRam v).epoch = s.epoch := rfl
@[simp] theorem State.setAveragerRam_refreshElapsed (v : Table (BitVec 32)) : (s.setAveragerRam v).refreshElapsed = s.refreshElapsed := rfl
@[simp] theorem State.setAveragerRam_markerA (v : Table (BitVec 32)) : (s.setAveragerRam v).markerA = s.markerA := rfl
@[simp] theorem State.setAveragerRam_markerB (v : Table (BitVec 32)) : (s.setAveragerRam v).markerB = s.markerB := rfl
@[simp] theorem State.setAveragerRam_lanes (v : Table (BitVec 32)) : (s.setAveragerRam v).lanes = s.lanes := rfl
@[simp] theorem State.setAveragerRam_tracks (v : Table (BitVec 32)) : (s.setAveragerRam v).tracks = s.tracks := rfl
@[simp] theorem State.setAveragerRam_maps (v : Table (BitVec 32)) : (s.setAveragerRam v).maps = s.maps := rfl
@[simp] theorem State.setAveragerRam_owners (v : Table (BitVec 32)) : (s.setAveragerRam v).owners = s.owners := rfl
@[simp] theorem State.setAveragerRam_index (v : Table (BitVec 32)) : (s.setAveragerRam v).index = s.index := rfl
@[simp] theorem State.setAveragerRam_writePos (v : Table (BitVec 32)) : (s.setAveragerRam v).writePos = s.writePos := rfl
@[simp] theorem State.setAveragerRam_dram (v : Table (BitVec 32)) : (s.setAveragerRam v).dram = s.dram := rfl
@[simp] theorem State.setAveragerRam_dramCheck (v : Table (BitVec 32)) : (s.setAveragerRam v).dramCheck = s.dramCheck := rfl
@[simp] theorem State.setAveragerRam_mem (v : Table (BitVec 32)) : (s.setAveragerRam v).mem = s.mem := rfl
@[simp] theorem State.setAveragerRam_check (v : Table (BitVec 32)) : (s.setAveragerRam v).check = s.check := rfl
@[simp] theorem State.setAveragerRam_readout (v : Table (BitVec 32)) : (s.setAveragerRam v).readout = s.readout := rfl
@[simp] theorem State.setAveragerRam_averagers (v : Table (BitVec 32)) : (s.setAveragerRam v).averagers = s.averagers := rfl
@[simp] theorem State.setAveragerRam_averagerRam (v : Table (BitVec 32)) : (s.setAveragerRam v).averagerRam = v := rfl
@[simp] theorem State.setAveragerRam_link (v : Table (BitVec 32)) : (s.setAveragerRam v).link = s.link := rfl
@[simp] theorem State.setAveragerRam_notices (v : Table (BitVec 32)) : (s.setAveragerRam v).notices = s.notices := rfl
@[simp] theorem State.setAveragerRam_pending (v : Table (BitVec 32)) : (s.setAveragerRam v).pending = s.pending := rfl
@[simp] theorem State.setLink_time (v : Link) : (s.setLink v).time = s.time := rfl
@[simp] theorem State.setLink_resetHeld (v : Link) : (s.setLink v).resetHeld = s.resetHeld := rfl
@[simp] theorem State.setLink_epoch (v : Link) : (s.setLink v).epoch = s.epoch := rfl
@[simp] theorem State.setLink_refreshElapsed (v : Link) : (s.setLink v).refreshElapsed = s.refreshElapsed := rfl
@[simp] theorem State.setLink_markerA (v : Link) : (s.setLink v).markerA = s.markerA := rfl
@[simp] theorem State.setLink_markerB (v : Link) : (s.setLink v).markerB = s.markerB := rfl
@[simp] theorem State.setLink_lanes (v : Link) : (s.setLink v).lanes = s.lanes := rfl
@[simp] theorem State.setLink_tracks (v : Link) : (s.setLink v).tracks = s.tracks := rfl
@[simp] theorem State.setLink_maps (v : Link) : (s.setLink v).maps = s.maps := rfl
@[simp] theorem State.setLink_owners (v : Link) : (s.setLink v).owners = s.owners := rfl
@[simp] theorem State.setLink_index (v : Link) : (s.setLink v).index = s.index := rfl
@[simp] theorem State.setLink_writePos (v : Link) : (s.setLink v).writePos = s.writePos := rfl
@[simp] theorem State.setLink_dram (v : Link) : (s.setLink v).dram = s.dram := rfl
@[simp] theorem State.setLink_dramCheck (v : Link) : (s.setLink v).dramCheck = s.dramCheck := rfl
@[simp] theorem State.setLink_mem (v : Link) : (s.setLink v).mem = s.mem := rfl
@[simp] theorem State.setLink_check (v : Link) : (s.setLink v).check = s.check := rfl
@[simp] theorem State.setLink_readout (v : Link) : (s.setLink v).readout = s.readout := rfl
@[simp] theorem State.setLink_averagers (v : Link) : (s.setLink v).averagers = s.averagers := rfl
@[simp] theorem State.setLink_averagerRam (v : Link) : (s.setLink v).averagerRam = s.averagerRam := rfl
@[simp] theorem State.setLink_link (v : Link) : (s.setLink v).link = v := rfl
@[simp] theorem State.setLink_notices (v : Link) : (s.setLink v).notices = s.notices := rfl
@[simp] theorem State.setLink_pending (v : Link) : (s.setLink v).pending = s.pending := rfl
@[simp] theorem State.setNotices_time (v : NoticeUnit) : (s.setNotices v).time = s.time := rfl
@[simp] theorem State.setNotices_resetHeld (v : NoticeUnit) : (s.setNotices v).resetHeld = s.resetHeld := rfl
@[simp] theorem State.setNotices_epoch (v : NoticeUnit) : (s.setNotices v).epoch = s.epoch := rfl
@[simp] theorem State.setNotices_refreshElapsed (v : NoticeUnit) : (s.setNotices v).refreshElapsed = s.refreshElapsed := rfl
@[simp] theorem State.setNotices_markerA (v : NoticeUnit) : (s.setNotices v).markerA = s.markerA := rfl
@[simp] theorem State.setNotices_markerB (v : NoticeUnit) : (s.setNotices v).markerB = s.markerB := rfl
@[simp] theorem State.setNotices_lanes (v : NoticeUnit) : (s.setNotices v).lanes = s.lanes := rfl
@[simp] theorem State.setNotices_tracks (v : NoticeUnit) : (s.setNotices v).tracks = s.tracks := rfl
@[simp] theorem State.setNotices_maps (v : NoticeUnit) : (s.setNotices v).maps = s.maps := rfl
@[simp] theorem State.setNotices_owners (v : NoticeUnit) : (s.setNotices v).owners = s.owners := rfl
@[simp] theorem State.setNotices_index (v : NoticeUnit) : (s.setNotices v).index = s.index := rfl
@[simp] theorem State.setNotices_writePos (v : NoticeUnit) : (s.setNotices v).writePos = s.writePos := rfl
@[simp] theorem State.setNotices_dram (v : NoticeUnit) : (s.setNotices v).dram = s.dram := rfl
@[simp] theorem State.setNotices_dramCheck (v : NoticeUnit) : (s.setNotices v).dramCheck = s.dramCheck := rfl
@[simp] theorem State.setNotices_mem (v : NoticeUnit) : (s.setNotices v).mem = s.mem := rfl
@[simp] theorem State.setNotices_check (v : NoticeUnit) : (s.setNotices v).check = s.check := rfl
@[simp] theorem State.setNotices_readout (v : NoticeUnit) : (s.setNotices v).readout = s.readout := rfl
@[simp] theorem State.setNotices_averagers (v : NoticeUnit) : (s.setNotices v).averagers = s.averagers := rfl
@[simp] theorem State.setNotices_averagerRam (v : NoticeUnit) : (s.setNotices v).averagerRam = s.averagerRam := rfl
@[simp] theorem State.setNotices_link (v : NoticeUnit) : (s.setNotices v).link = s.link := rfl
@[simp] theorem State.setNotices_notices (v : NoticeUnit) : (s.setNotices v).notices = v := rfl
@[simp] theorem State.setNotices_pending (v : NoticeUnit) : (s.setNotices v).pending = s.pending := rfl
@[simp] theorem State.setPending_time (v : List Instr) : (s.setPending v).time = s.time := rfl
@[simp] theorem State.setPending_resetHeld (v : List Instr) : (s.setPending v).resetHeld = s.resetHeld := rfl
@[simp] theorem State.setPending_epoch (v : List Instr) : (s.setPending v).epoch = s.epoch := rfl
@[simp] theorem State.setPending_refreshElapsed (v : List Instr) : (s.setPending v).refreshElapsed = s.refreshElapsed := rfl
@[simp] theorem State.setPending_markerA (v : List Instr) : (s.setPending v).markerA = s.markerA := rfl
@[simp] theorem State.setPending_markerB (v : List Instr) : (s.setPending v).markerB = s.markerB := rfl
@[simp] theorem State.setPending_lanes (v : List Instr) : (s.setPending v).lanes = s.lanes := rfl
@[simp] theorem State.setPending_tracks (v : List Instr) : (s.setPending v).tracks = s.tracks := rfl
@[simp] theorem State.setPending_maps (v : List Instr) : (s.setPending v).maps = s.maps := rfl
@[simp] theorem State.setPending_owners (v : List Instr) : (s.setPending v).owners = s.owners := rfl
@[simp] theorem State.setPending_index (v : List Instr) : (s.setPending v).index = s.index := rfl
@[simp] theorem State.setPending_writePos (v : List Instr) : (s.setPending v).writePos = s.writePos := rfl
@[simp] theorem State.setPending_dram (v : List Instr) : (s.setPending v).dram = s.dram := rfl
@[simp] theorem State.setPending_dramCheck (v : List Instr) : (s.setPending v).dramCheck = s.dramCheck := rfl
@[simp] theorem State.setPending_mem (v : List Instr) : (s.setPending v).mem = s.mem := rfl
@[simp] theorem State.setPending_check (v : List Instr) : (s.setPending v).check = s.check := rfl
@[simp] theorem State.setPending_readout (v : List Instr) : (s.setPending v).readout = s.readout := rfl
@[simp] theorem State.setPending_averagers (v : List Instr) : (s.setPending v).averagers = s.averagers := rfl
@[simp] theorem State.setPending_averagerRam (v : List Instr) : (s.setPending v).averagerRam = s.averagerRam := rfl
@[simp] theorem State.setPending_link (v : List Instr) : (s.setPending v).link = s.link := rfl
@[simp] theorem State.setPending_notices (v : List Instr) : (s.setPending v).notices = s.notices := rfl
@[simp] theorem State.setPending_pending (v : List Instr) : (s.setPending v).pending = v := rfl

end

end Sys2Proof.Machine
end

