-- ==== Sys2Proof/Laws/Tables.lean ====
section
/-!
SUPPORT. Keyed data: what is listed after each operation, and that each keeps the canonical form.
-/

namespace Sys2Proof.Machine

section
variable {α : Type}

theorem tget_eq_none_of_forall_ne (m : Table α) (k : Nat) (h : ∀ c ∈ m, c.1 ≠ k) : tget m k = none := by
  induction m with
  | nil => rfl
  | cons c m ih =>
    obtain ⟨a, v⟩ := c
    have ha : a ≠ k := h (a, v) (by simp)
    simp only [tget, if_neg ha]
    exact ih (fun c hc => h c (by simp [hc]))

theorem tget_append (m n : Table α) (k : Nat) : tget (m ++ n) k = (tget m k).or (tget n k) := by
  induction m with
  | nil => simp [tget]
  | cons c m ih =>
    obtain ⟨a, v⟩ := c
    simp only [List.cons_append, tget]
    split
    · simp
    · exact ih

/-- What is listed in the part of a table whose keys satisfy p. -/
theorem tget_filter_key (p : Nat → Bool) (m : Table α) (k : Nat) :
    tget (m.filter (fun c => p c.1)) k = if p k then tget m k else none := by
  induction m with
  | nil => simp [tget]
  | cons c m ih =>
    obtain ⟨a, v⟩ := c
    by_cases hp : p a
    · rw [List.filter_cons_of_pos (by simpa using hp)]
      simp only [tget]
      by_cases ha : a = k
      · subst ha; simp [hp]
      · simp [ha, ih]
    · rw [List.filter_cons_of_neg (by simpa using hp), ih]
      by_cases ha : a = k
      · subst ha; simp [hp]
      · simp [tget, ha]

theorem tget_map_value (f : Nat → α → α) (m : Table α) (k : Nat) :
    tget (m.map (fun c => (c.1, f c.1 c.2))) k = (tget m k).map (f k) := by
  induction m with
  | nil => rfl
  | cons c m ih =>
    obtain ⟨a, v⟩ := c
    simp only [List.map_cons, tget]
    by_cases ha : a = k
    · subst ha; simp
    · simp only [ha, if_false]; exact ih

/-- What is listed at k after cells base vs. -/
theorem tget_cells (base : Nat) (vs : List α) (k : Nat) :
    tget (cells base vs) k = if base ≤ k then vs[k - base]? else none := by
  induction vs generalizing base with
  | nil => simp [cells, tget]
  | cons v vs ih =>
    simp only [cells, tget]
    by_cases hk : base = k
    · subst hk; simp
    · rw [if_neg hk, ih]
      by_cases hle : base ≤ k
      · have h1 : base + 1 ≤ k := by omega
        have h2 : k - base = (k - (base + 1)) + 1 := by omega
        simp [hle, h1, h2]
      · have h1 : ¬ base + 1 ≤ k := by omega
        simp [hle, h1]

/-- What is listed at k after vs are stored from base on. -/
theorem tget_tfill (m : Table α) (base : Nat) (vs : List α) (k : Nat) :
    tget (tfill m base vs) k = if base ≤ k ∧ k < base + vs.length then vs[k - base]? else tget m k := by
  have hl := tget_filter_key (fun a => decide (a < base)) m k
  have hr := tget_filter_key (fun a => decide (base + vs.length ≤ a)) m k
  unfold tfill
  rw [tget_append, tget_append, hl, hr, tget_cells]
  by_cases h1 : k < base
  · have h2 : ¬ base ≤ k := by omega
    have h3 : ¬ base + vs.length ≤ k := by omega
    simp [h1, h2, h3]
  · have h2 : base ≤ k := by omega
    by_cases h3 : k < base + vs.length
    · have h4 : ¬ base + vs.length ≤ k := by omega
      have h5 : k - base < vs.length := by omega
      simp [h1, h2, h3, h4, h5]
    · have h4 : base + vs.length ≤ k := by omega
      have h5 : vs.length ≤ k - base := by omega
      simp [h1, h3, h4, h5]

/-- What is listed at k after v is stored at j. -/
theorem tget_tput (m : Table α) (j : Nat) (v : α) (k : Nat) :
    tget (tput m j v) k = if k = j then some v else tget m k := by
  unfold tput
  rw [tget_tfill]
  by_cases h : k = j
  · subst h; simp
  · have : ¬ (j ≤ k ∧ k < j + [v].length) := by simp; omega
    simp only [this, h, if_false]

/-- What is listed at k after j is unlisted. -/
theorem tget_terase (m : Table α) (j k : Nat) :
    tget (terase m j) k = if k = j then none else tget m k := by
  have h := tget_filter_key (fun a => decide (a ≠ j)) m k
  unfold terase
  rw [h]
  by_cases hk : k = j <;> simp [hk]

theorem tget_mem {m : Table α} {k : Nat} {v : α} (h : tget m k = some v) : (k, v) ∈ m := by
  induction m with
  | nil => simp [tget] at h
  | cons c m ih =>
    obtain ⟨a, w⟩ := c
    simp only [tget] at h
    by_cases ha : a = k
    · subst ha; simp only [if_true, Option.some.injEq] at h; subst h; simp
    · simp only [ha, if_false] at h; simp [ih h]

/-- In canonical form a listed pair is what its key reads as. -/
theorem tget_of_mem {m : Table α} (hw : Memory.wf m) {k : Nat} {v : α} (h : (k, v) ∈ m) : tget m k = some v := by
  induction m with
  | nil => simp at h
  | cons c m ih =>
    obtain ⟨a, w⟩ := c
    rw [Memory.wf, List.pairwise_cons] at hw
    simp only [tget]
    rcases List.mem_cons.mp h with he | he
    · injection he with h1 h2; subst h1; subst h2; simp
    · have : a < k := hw.1 (k, v) he
      have hne : a ≠ k := by omega
      simp only [hne, if_false]
      exact ih hw.2 he

/-! ## The canonical form -/

theorem Memory.wf_nil : Memory.wf ([] : Table α) := List.Pairwise.nil

theorem Memory.wf_filter {m : Table α} (h : Memory.wf m) (p : Nat × α → Bool) : Memory.wf (m.filter p) :=
  List.Pairwise.filter p h

theorem mem_cells {base : Nat} {vs : List α} {c : Nat × α} (h : c ∈ cells base vs) :
    base ≤ c.1 ∧ c.1 < base + vs.length := by
  induction vs generalizing base with
  | nil => simp [cells] at h
  | cons v vs ih =>
    rcases List.mem_cons.mp h with he | he
    · subst he; simp
    · have := ih he; simp; omega

theorem Memory.wf_cells (base : Nat) (vs : List α) : Memory.wf (cells base vs) := by
  induction vs generalizing base with
  | nil => exact List.Pairwise.nil
  | cons v vs ih =>
    refine List.pairwise_cons.mpr ⟨fun c hc => ?_, ih (base + 1)⟩
    have := mem_cells hc
    simp; omega

/-- Storing keeps the canonical form. -/
theorem Memory.wf_tfill {m : Table α} (h : Memory.wf m) (base : Nat) (vs : List α) :
    Memory.wf (tfill m base vs) := by
  unfold tfill Memory.wf
  rw [List.pairwise_append, List.pairwise_append]
  refine ⟨⟨Memory.wf_filter h _, Memory.wf_cells base vs, ?_⟩, Memory.wf_filter h _, ?_⟩
  · intro a ha b hb
    have h1 := (List.mem_filter.mp ha).2
    have h2 := mem_cells hb
    simp at h1; omega
  · intro a ha b hb
    have h2 := (List.mem_filter.mp hb).2
    simp at h2
    rcases List.mem_append.mp ha with h1 | h1
    · have h3 := (List.mem_filter.mp h1).2
      simp at h3; omega
    · have h3 := mem_cells h1; omega

theorem Memory.wf_tput {m : Table α} (h : Memory.wf m) (k : Nat) (v : α) : Memory.wf (tput m k v) :=
  Memory.wf_tfill h k [v]

/-- Unlisting keeps the canonical form. -/
theorem Memory.wf_terase {m : Table α} (h : Memory.wf m) (k : Nat) : Memory.wf (terase m k) :=
  Memory.wf_filter h _

/-- Changing values in place keeps the canonical form. -/
theorem Memory.wf_map {m : Table α} (h : Memory.wf m) (f : Nat × α → Nat × α) (hf : ∀ c, (f c).1 = c.1) :
    Memory.wf (m.map f) := by
  unfold Memory.wf
  rw [List.pairwise_map]
  exact h.imp (fun hab => by rw [hf, hf]; exact hab)

end

/-- The memories have the canonical form at reset. -/
theorem State.reset_memories_wf :
    Memory.wf State.reset.dram ∧ Memory.wf State.reset.dramCheck ∧ Memory.wf State.reset.averagerRam :=
  ⟨Memory.wf_nil, Memory.wf_nil, Memory.wf_nil⟩

/-- A burst's stored words keep the canonical form of both DRAM memories. -/
theorem storeWords_wf (p : Page) (w : Nat) (bytes checks : List Byte) (s : State)
    (hd : Memory.wf s.dram) (hc : Memory.wf s.dramCheck) :
    Memory.wf (storeWords p w bytes checks s).dram ∧ Memory.wf (storeWords p w bytes checks s).dramCheck :=
  ⟨Memory.wf_tfill hd _ _, Memory.wf_tfill hc _ _⟩

/-- A DRAM byte after a burst's words are stored. -/
theorem dramByte_storeWords (p : Page) (w : Nat) (bytes checks : List Byte) (s : State) (a : Nat) :
    (storeWords p w bytes checks s).dramByte a =
      if byteAddress p w ≤ a ∧ a < byteAddress p w + bytes.length then
        (bytes[a - byteAddress p w]?).getD (Config.dramUndefined s.epoch a)
      else s.dramByte a := by
  unfold State.dramByte storeWords
  simp only [State.setDramCheck_dram, State.setDram_dram, State.setDramCheck_epoch, State.setDram_epoch]
  rw [tget_tfill]
  split <;> rfl

end Sys2Proof.Machine
end

