-- ==== Sys2Proof/Laws/Steps.lean ====
section
/-!
SUPPORT. Time, the taking of a request, and the shape of a step: what every proof about a command starts from.
-/

namespace Sys2Proof.Machine

@[simp] theorem setter_link_link (s : State) (a b : Link) : (s.setLink a).setLink b = s.setLink b := rfl
@[simp] theorem setter_mem_mem (s : State) (a b : MemControl) : (s.setMem a).setMem b = s.setMem b := rfl
@[simp] theorem setter_notices_notices (s : State) (a b : NoticeUnit) : (s.setNotices a).setNotices b = s.setNotices b := rfl

/-! ## Time -/

@[simp] theorem elapse_time (dt : Nat) (s : State) : (elapse dt s).time = s.time + BitVec.ofNat 48 dt := rfl
@[simp] theorem elapse_refreshElapsed (dt : Nat) (s : State) :
    (elapse dt s).refreshElapsed = s.refreshElapsed + dt := rfl
@[simp] theorem elapse_mem (dt : Nat) (s : State) :
    (elapse dt s).mem = { s.mem with autoTimer := s.mem.autoTimer.advance dt } := rfl
@[simp] theorem elapse_resetHeld (dt : Nat) (s : State) : (elapse dt s).resetHeld = s.resetHeld := rfl
@[simp] theorem elapse_epoch (dt : Nat) (s : State) : (elapse dt s).epoch = s.epoch := rfl
@[simp] theorem elapse_markerA (dt : Nat) (s : State) : (elapse dt s).markerA = s.markerA := rfl
@[simp] theorem elapse_markerB (dt : Nat) (s : State) : (elapse dt s).markerB = s.markerB := rfl
@[simp] theorem elapse_lanes (dt : Nat) (s : State) : (elapse dt s).lanes = s.lanes := rfl
@[simp] theorem elapse_tracks (dt : Nat) (s : State) : (elapse dt s).tracks = s.tracks := rfl
@[simp] theorem elapse_maps (dt : Nat) (s : State) : (elapse dt s).maps = s.maps := rfl
@[simp] theorem elapse_owners (dt : Nat) (s : State) : (elapse dt s).owners = s.owners := rfl
@[simp] theorem elapse_index (dt : Nat) (s : State) : (elapse dt s).index = s.index := rfl
@[simp] theorem elapse_writePos (dt : Nat) (s : State) : (elapse dt s).writePos = s.writePos := rfl
@[simp] theorem elapse_dram (dt : Nat) (s : State) : (elapse dt s).dram = s.dram := rfl
@[simp] theorem elapse_dramCheck (dt : Nat) (s : State) : (elapse dt s).dramCheck = s.dramCheck := rfl
@[simp] theorem elapse_check (dt : Nat) (s : State) : (elapse dt s).check = s.check := rfl
@[simp] theorem elapse_readout (dt : Nat) (s : State) : (elapse dt s).readout = s.readout := rfl
@[simp] theorem elapse_averagers (dt : Nat) (s : State) : (elapse dt s).averagers = s.averagers := rfl
@[simp] theorem elapse_averagerRam (dt : Nat) (s : State) : (elapse dt s).averagerRam = s.averagerRam := rfl
@[simp] theorem elapse_link (dt : Nat) (s : State) : (elapse dt s).link = s.link := rfl
@[simp] theorem elapse_notices (dt : Nat) (s : State) : (elapse dt s).notices = s.notices := rfl
@[simp] theorem elapse_pending (dt : Nat) (s : State) : (elapse dt s).pending = s.pending := rfl

@[simp] theorem elapse_marker (dt : Nat) (s : State) (u : MarkerId) : (elapse dt s).marker u = s.marker u := by
  cases u <;> rfl
@[simp] theorem elapse_track (dt : Nat) (s : State) (t : Track) : (elapse dt s).track t = s.track t := rfl
@[simp] theorem elapse_lane (dt : Nat) (s : State) (t : Track) : (elapse dt s).lane t = s.lane t := rfl
@[simp] theorem elapse_map (dt : Nat) (s : State) (t : Track) : (elapse dt s).map t = s.map t := rfl
@[simp] theorem elapse_records (dt : Nat) (s : State) (t : Track) : (elapse dt s).records t = s.records t := rfl
@[simp] theorem elapse_writePosition (dt : Nat) (s : State) (t : Track) :
    (elapse dt s).writePosition t = s.writePosition t := rfl
@[simp] theorem elapse_averager (dt : Nat) (s : State) (t : Track) : (elapse dt s).averager t = s.averager t := rfl

/-- An event while the RESET line is held changes nothing. -/
theorem live_held {dt : Nat} {s : State} {f : State → State} (h : s.resetHeld = true) : live dt s f = s := by
  unfold live; rw [h]; rfl

/-- An event while the RESET line is not held. -/
theorem live_free {dt : Nat} {s : State} {f : State → State} (h : s.resetHeld = false) :
    live dt s f = f (elapse dt s) := by
  unfold live; rw [h]; rfl

/-! ## One home for each of several like things -/

@[simp] theorem State.track_putTrack_same (s : State) (t : Track) (u : TrackUnit) : (s.putTrack t u).track t = u := by
  simp [State.track, State.putTrack]
theorem State.track_putTrack_other (s : State) {t t' : Track} (u : TrackUnit) (h : t ≠ t') :
    (s.putTrack t u).track t' = s.track t' := by
  have : t.val ≠ t'.val := fun e => h (Fin.ext e)
  simp [State.track, State.putTrack, this]
@[simp] theorem State.lane_putLane_same (s : State) (t : Track) (u : Lane) : (s.putLane t u).lane t = u := by
  simp [State.lane, State.putLane]
theorem State.lane_putLane_other (s : State) {t t' : Track} (u : Lane) (h : t ≠ t') :
    (s.putLane t u).lane t' = s.lane t' := by
  have : t.val ≠ t'.val := fun e => h (Fin.ext e)
  simp [State.lane, State.putLane, this]
@[simp] theorem State.map_putMap_same (s : State) (t : Track) (m : Table MapEntry) : (s.putMap t m).map t = m := by
  simp [State.map, State.putMap]
theorem State.map_putMap_other (s : State) {t t' : Track} (m : Table MapEntry) (h : t ≠ t') :
    (s.putMap t m).map t' = s.map t' := by
  have : t.val ≠ t'.val := fun e => h (Fin.ext e)
  simp [State.map, State.putMap, this]
@[simp] theorem State.records_putRecords_same (s : State) (t : Track) (l : List SweepRecord) :
    (s.putRecords t l).records t = l := by
  simp [State.records, State.putRecords]
theorem State.records_putRecords_other (s : State) {t t' : Track} (l : List SweepRecord) (h : t ≠ t') :
    (s.putRecords t l).records t' = s.records t' := by
  have : t.val ≠ t'.val := fun e => h (Fin.ext e)
  simp [State.records, State.putRecords, this]
@[simp] theorem State.writePosition_putWritePosition_same (s : State) (t : Track) (p : Nat) :
    (s.putWritePosition t p).writePosition t = p := by
  simp [State.writePosition, State.putWritePosition]
@[simp] theorem State.averager_putAverager_same (s : State) (t : Track) (a : Averager) :
    (s.putAverager t a).averager t = a := by
  simp [State.averager, State.putAverager]
theorem State.averager_putAverager_other (s : State) {t t' : Track} (a : Averager) (h : t ≠ t') :
    (s.putAverager t a).averager t' = s.averager t' := by
  have : t.val ≠ t'.val := fun e => h (Fin.ext e)
  simp [State.averager, State.putAverager, this]
@[simp] theorem State.marker_putMarker_same (s : State) (u : MarkerId) (m : MarkerUnit) :
    (s.putMarker u m).marker u = m := by
  cases u <;> rfl
@[simp] theorem State.putMarker_putMarker (s : State) (u : MarkerId) (a b : MarkerUnit) :
    (s.putMarker u a).putMarker u b = s.putMarker u b := by
  cases u <;> rfl
theorem State.marker_putMarker_other (s : State) {u u' : MarkerId} (m : MarkerUnit) (h : u ≠ u') :
    (s.putMarker u m).marker u' = s.marker u' := by
  cases u <;> cases u' <;> first | rfl | exact absurd rfl h

@[simp] theorem trackOf_val (t : Track) : trackOf t.val = some t := by simp [trackOf]
theorem trackOf_big {n : Nat} (h : 8 ≤ n) : trackOf n = none := by simp [trackOf]; omega

/-! ## The taking of a request -/

/-- What the owning block is given differs from the state before in the time and the request queue. -/
@[simp] theorem handed_marker (dt : Nat) (s : State) (rest : List RawRequest) (u : MarkerId) :
    (handed dt s rest).marker u = s.marker u := by
  cases u <;> rfl
@[simp] theorem handed_track (dt : Nat) (s : State) (rest : List RawRequest) (t : Track) :
    (handed dt s rest).track t = s.track t := rfl
@[simp] theorem handed_lane (dt : Nat) (s : State) (rest : List RawRequest) (t : Track) :
    (handed dt s rest).lane t = s.lane t := rfl
@[simp] theorem handed_map (dt : Nat) (s : State) (rest : List RawRequest) (t : Track) :
    (handed dt s rest).map t = s.map t := rfl
@[simp] theorem handed_records (dt : Nat) (s : State) (rest : List RawRequest) (t : Track) :
    (handed dt s rest).records t = s.records t := rfl
@[simp] theorem handed_writePosition (dt : Nat) (s : State) (rest : List RawRequest) (t : Track) :
    (handed dt s rest).writePosition t = s.writePosition t := rfl
@[simp] theorem handed_averager (dt : Nat) (s : State) (rest : List RawRequest) (t : Track) :
    (handed dt s rest).averager t = s.averager t := rfl
@[simp] theorem handed_link (dt : Nat) (s : State) (rest : List RawRequest) :
    (handed dt s rest).link = { s.link with queue := rest } := rfl
@[simp] theorem handed_fields (dt : Nat) (s : State) (rest : List RawRequest) :
    (handed dt s rest).time = s.time + BitVec.ofNat 48 dt ∧ (handed dt s rest).resetHeld = s.resetHeld ∧
    (handed dt s rest).epoch = s.epoch ∧ (handed dt s rest).markerA = s.markerA ∧
    (handed dt s rest).markerB = s.markerB ∧ (handed dt s rest).lanes = s.lanes ∧
    (handed dt s rest).tracks = s.tracks ∧ (handed dt s rest).maps = s.maps ∧ (handed dt s rest).owners = s.owners ∧
    (handed dt s rest).index = s.index ∧ (handed dt s rest).writePos = s.writePos ∧
    (handed dt s rest).dram = s.dram ∧ (handed dt s rest).dramCheck = s.dramCheck ∧
    (handed dt s rest).mem = { s.mem with autoTimer := s.mem.autoTimer.advance dt } ∧
    (handed dt s rest).check = s.check ∧ (handed dt s rest).readout = s.readout ∧
    (handed dt s rest).averagers = s.averagers ∧ (handed dt s rest).averagerRam = s.averagerRam ∧
    (handed dt s rest).notices = s.notices ∧ (handed dt s rest).pending = s.pending := by
  simp [handed]

/-- The command unit takes the head when it can. -/
theorem takeRequest_of_serves {s : State} {r : RawRequest} {rest : List RawRequest} {q : Request} (dt : Nat)
    (h : Serves s r rest q) : takeRequest (elapse dt s) = some (r, handed dt s rest) := by
  obtain ⟨_, h2, h3, h4, _⟩ := h
  have h3' : ownWaiting (elapse dt s) < 4 := h3
  simp [takeRequest, h4, h2, h3', Config.maxOwnReplies, handed]

/-- A served request: the meaning of its kind runs on what the block is given. -/
theorem onRequest_of_serves {s : State} {r : RawRequest} {rest : List RawRequest} {q : Request} (dt : Nat)
    (act : RawRequest → Request → State → Option State) (h : Serves s r rest q) :
    onRequest dt s act = (act r q (handed dt s rest)).getD (elapse dt s) := by
  unfold onRequest
  rw [live_free h.1, takeRequest_of_serves dt h]
  simp only [h.2.2.2.2]

/-- The same, when the meaning is known to be one state. -/
theorem onRequest_serves {s t : State} {r : RawRequest} {rest : List RawRequest} {q : Request} {dt : Nat}
    (h : Serves s r rest q) {act : RawRequest → Request → State → Option State}
    (ha : act r q (handed dt s rest) = some t) : onRequest dt s act = t := by
  rw [onRequest_of_serves dt act h, ha]; rfl

/-- With no request the command unit could take, only time passes. -/
theorem onRequest_of_none {s : State} (dt : Nat) (act : RawRequest → Request → State → Option State)
    (h : takeRequest (elapse dt s) = none) : onRequest dt s act = live dt s id := by
  unfold onRequest live
  split
  · rfl
  · simp only [h, id]

/-! ## The step -/

theorem step_front (c : Instr) (rest : List Instr) (s : State) (h : s.pending = c :: rest) :
    step s = exec c (s.setPending rest) := by
  unfold step; rw [h]

end Sys2Proof.Machine
end

