-- ==== Sys2Proof/Laws/Frames.lean ====
section
/-!
SUPPORT. What every shared operation leaves alone: one lemma each, the fields of State it does not touch.
-/

set_option linter.unusedTactic false
set_option linter.unnecessarySeqFocus false
set_option linter.unusedSimpArgs false

namespace Sys2Proof.Machine

/-! ## Single registers -/

@[simp] theorem putMarker_frame (s : State) (u : MarkerId) (m : MarkerUnit) :
    (s.putMarker u m).time = s.time ∧ (s.putMarker u m).resetHeld = s.resetHeld ∧ (s.putMarker u m).epoch = s.epoch ∧
    (s.putMarker u m).refreshElapsed = s.refreshElapsed ∧ (s.putMarker u m).lanes = s.lanes ∧
    (s.putMarker u m).tracks = s.tracks ∧ (s.putMarker u m).maps = s.maps ∧ (s.putMarker u m).owners = s.owners ∧
    (s.putMarker u m).index = s.index ∧ (s.putMarker u m).writePos = s.writePos ∧ (s.putMarker u m).dram = s.dram ∧
    (s.putMarker u m).dramCheck = s.dramCheck ∧ (s.putMarker u m).mem = s.mem ∧ (s.putMarker u m).check = s.check ∧
    (s.putMarker u m).readout = s.readout ∧ (s.putMarker u m).averagers = s.averagers ∧
    (s.putMarker u m).averagerRam = s.averagerRam ∧ (s.putMarker u m).link = s.link ∧
    (s.putMarker u m).notices = s.notices ∧
    (s.putMarker u m).pending = s.pending := by cases u <;> simp [State.putMarker]

@[simp] theorem putLane_frame (s : State) (t : Track) (v : Lane) :
    (s.putLane t v).time = s.time ∧ (s.putLane t v).resetHeld = s.resetHeld ∧ (s.putLane t v).epoch = s.epoch ∧
    (s.putLane t v).refreshElapsed = s.refreshElapsed ∧ (s.putLane t v).markerA = s.markerA ∧
    (s.putLane t v).markerB = s.markerB ∧ (s.putLane t v).tracks = s.tracks ∧ (s.putLane t v).maps = s.maps ∧
    (s.putLane t v).owners = s.owners ∧ (s.putLane t v).index = s.index ∧ (s.putLane t v).writePos = s.writePos ∧
    (s.putLane t v).dram = s.dram ∧ (s.putLane t v).dramCheck = s.dramCheck ∧ (s.putLane t v).mem = s.mem ∧
    (s.putLane t v).check = s.check ∧ (s.putLane t v).readout = s.readout ∧ (s.putLane t v).averagers = s.averagers ∧
    (s.putLane t v).averagerRam = s.averagerRam ∧ (s.putLane t v).link = s.link ∧
    (s.putLane t v).notices = s.notices ∧ (s.putLane t v).pending = s.pending := by simp [State.putLane]

@[simp] theorem putTrack_frame (s : State) (t : Track) (v : TrackUnit) :
    (s.putTrack t v).time = s.time ∧ (s.putTrack t v).resetHeld = s.resetHeld ∧ (s.putTrack t v).epoch = s.epoch ∧
    (s.putTrack t v).refreshElapsed = s.refreshElapsed ∧ (s.putTrack t v).markerA = s.markerA ∧
    (s.putTrack t v).markerB = s.markerB ∧ (s.putTrack t v).lanes = s.lanes ∧ (s.putTrack t v).maps = s.maps ∧
    (s.putTrack t v).owners = s.owners ∧ (s.putTrack t v).index = s.index ∧ (s.putTrack t v).writePos = s.writePos ∧
    (s.putTrack t v).dram = s.dram ∧ (s.putTrack t v).dramCheck = s.dramCheck ∧ (s.putTrack t v).mem = s.mem ∧
    (s.putTrack t v).check = s.check ∧ (s.putTrack t v).readout = s.readout ∧
    (s.putTrack t v).averagers = s.averagers ∧ (s.putTrack t v).averagerRam = s.averagerRam ∧
    (s.putTrack t v).link = s.link ∧ (s.putTrack t v).notices = s.notices ∧
    (s.putTrack t v).pending = s.pending := by simp [State.putTrack]

@[simp] theorem putMap_frame (s : State) (t : Track) (v : Table MapEntry) :
    (s.putMap t v).time = s.time ∧ (s.putMap t v).resetHeld = s.resetHeld ∧ (s.putMap t v).epoch = s.epoch ∧
    (s.putMap t v).refreshElapsed = s.refreshElapsed ∧ (s.putMap t v).markerA = s.markerA ∧
    (s.putMap t v).markerB = s.markerB ∧ (s.putMap t v).lanes = s.lanes ∧ (s.putMap t v).tracks = s.tracks ∧
    (s.putMap t v).owners = s.owners ∧ (s.putMap t v).index = s.index ∧ (s.putMap t v).writePos = s.writePos ∧
    (s.putMap t v).dram = s.dram ∧ (s.putMap t v).dramCheck = s.dramCheck ∧ (s.putMap t v).mem = s.mem ∧
    (s.putMap t v).check = s.check ∧ (s.putMap t v).readout = s.readout ∧ (s.putMap t v).averagers = s.averagers ∧
    (s.putMap t v).averagerRam = s.averagerRam ∧ (s.putMap t v).link = s.link ∧ (s.putMap t v).notices = s.notices ∧
    (s.putMap t v).pending = s.pending := by simp [State.putMap]

@[simp] theorem putRecords_frame (s : State) (t : Track) (v : List SweepRecord) :
    (s.putRecords t v).time = s.time ∧ (s.putRecords t v).resetHeld = s.resetHeld ∧
    (s.putRecords t v).epoch = s.epoch ∧ (s.putRecords t v).refreshElapsed = s.refreshElapsed ∧
    (s.putRecords t v).markerA = s.markerA ∧ (s.putRecords t v).markerB = s.markerB ∧
    (s.putRecords t v).lanes = s.lanes ∧ (s.putRecords t v).tracks = s.tracks ∧ (s.putRecords t v).maps = s.maps ∧
    (s.putRecords t v).owners = s.owners ∧ (s.putRecords t v).writePos = s.writePos ∧
    (s.putRecords t v).dram = s.dram ∧ (s.putRecords t v).dramCheck = s.dramCheck ∧ (s.putRecords t v).mem = s.mem ∧
    (s.putRecords t v).check = s.check ∧ (s.putRecords t v).readout = s.readout ∧
    (s.putRecords t v).averagers = s.averagers ∧ (s.putRecords t v).averagerRam = s.averagerRam ∧
    (s.putRecords t v).link = s.link ∧ (s.putRecords t v).notices = s.notices ∧
    (s.putRecords t v).pending = s.pending := by simp [State.putRecords]

@[simp] theorem putWritePosition_frame (s : State) (t : Track) (v : Nat) :
    (s.putWritePosition t v).time = s.time ∧ (s.putWritePosition t v).resetHeld = s.resetHeld ∧
    (s.putWritePosition t v).epoch = s.epoch ∧ (s.putWritePosition t v).refreshElapsed = s.refreshElapsed ∧
    (s.putWritePosition t v).markerA = s.markerA ∧ (s.putWritePosition t v).markerB = s.markerB ∧
    (s.putWritePosition t v).lanes = s.lanes ∧ (s.putWritePosition t v).tracks = s.tracks ∧
    (s.putWritePosition t v).maps = s.maps ∧ (s.putWritePosition t v).owners = s.owners ∧
    (s.putWritePosition t v).index = s.index ∧ (s.putWritePosition t v).dram = s.dram ∧
    (s.putWritePosition t v).dramCheck = s.dramCheck ∧ (s.putWritePosition t v).mem = s.mem ∧
    (s.putWritePosition t v).check = s.check ∧ (s.putWritePosition t v).readout = s.readout ∧
    (s.putWritePosition t v).averagers = s.averagers ∧ (s.putWritePosition t v).averagerRam = s.averagerRam ∧
    (s.putWritePosition t v).link = s.link ∧ (s.putWritePosition t v).notices = s.notices ∧
    (s.putWritePosition t v).pending = s.pending := by simp [State.putWritePosition]

@[simp] theorem putAverager_frame (s : State) (t : Track) (v : Averager) :
    (s.putAverager t v).time = s.time ∧ (s.putAverager t v).resetHeld = s.resetHeld ∧
    (s.putAverager t v).epoch = s.epoch ∧ (s.putAverager t v).refreshElapsed = s.refreshElapsed ∧
    (s.putAverager t v).markerA = s.markerA ∧ (s.putAverager t v).markerB = s.markerB ∧
    (s.putAverager t v).lanes = s.lanes ∧ (s.putAverager t v).tracks = s.tracks ∧ (s.putAverager t v).maps = s.maps ∧
    (s.putAverager t v).owners = s.owners ∧ (s.putAverager t v).index = s.index ∧
    (s.putAverager t v).writePos = s.writePos ∧ (s.putAverager t v).dram = s.dram ∧
    (s.putAverager t v).dramCheck = s.dramCheck ∧ (s.putAverager t v).mem = s.mem ∧
    (s.putAverager t v).check = s.check ∧ (s.putAverager t v).readout = s.readout ∧
    (s.putAverager t v).averagerRam = s.averagerRam ∧ (s.putAverager t v).link = s.link ∧
    (s.putAverager t v).notices = s.notices ∧ (s.putAverager t v).pending = s.pending := by simp [State.putAverager]

/-! ## Notices, replies, claims, marks -/

@[simp] theorem post_frame (src : Source) (occ : Occurrence) (s : State) :
    (post src occ s).time = s.time ∧ (post src occ s).resetHeld = s.resetHeld ∧ (post src occ s).epoch = s.epoch ∧
    (post src occ s).refreshElapsed = s.refreshElapsed ∧ (post src occ s).markerA = s.markerA ∧
    (post src occ s).markerB = s.markerB ∧ (post src occ s).lanes = s.lanes ∧ (post src occ s).tracks = s.tracks ∧
    (post src occ s).maps = s.maps ∧ (post src occ s).owners = s.owners ∧ (post src occ s).index = s.index ∧
    (post src occ s).writePos = s.writePos ∧ (post src occ s).dram = s.dram ∧
    (post src occ s).dramCheck = s.dramCheck ∧ (post src occ s).mem = s.mem ∧ (post src occ s).check = s.check ∧
    (post src occ s).readout = s.readout ∧ (post src occ s).averagers = s.averagers ∧
    (post src occ s).averagerRam = s.averagerRam ∧ (post src occ s).link = s.link ∧
    (post src occ s).pending = s.pending := by
  unfold post
  try dsimp only
  (repeat' split) <;> simp

@[simp] theorem addReply_frame (own : Bool) (r : RawRequest) (st : Status) (body : List Byte) (s : State) :
    (addReply own r st body s).time = s.time ∧ (addReply own r st body s).resetHeld = s.resetHeld ∧
    (addReply own r st body s).epoch = s.epoch ∧ (addReply own r st body s).refreshElapsed = s.refreshElapsed ∧
    (addReply own r st body s).markerA = s.markerA ∧ (addReply own r st body s).markerB = s.markerB ∧
    (addReply own r st body s).lanes = s.lanes ∧ (addReply own r st body s).tracks = s.tracks ∧
    (addReply own r st body s).maps = s.maps ∧ (addReply own r st body s).owners = s.owners ∧
    (addReply own r st body s).index = s.index ∧ (addReply own r st body s).writePos = s.writePos ∧
    (addReply own r st body s).dram = s.dram ∧ (addReply own r st body s).dramCheck = s.dramCheck ∧
    (addReply own r st body s).mem = s.mem ∧ (addReply own r st body s).check = s.check ∧
    (addReply own r st body s).readout = s.readout ∧ (addReply own r st body s).averagers = s.averagers ∧
    (addReply own r st body s).averagerRam = s.averagerRam ∧ (addReply own r st body s).notices = s.notices ∧
    (addReply own r st body s).pending = s.pending := by
  unfold addReply
  try dsimp only
  (repeat' split) <;> simp

@[simp] theorem answer_frame (r : RawRequest) (st : Status) (s : State) :
    (answer r st s).time = s.time ∧ (answer r st s).resetHeld = s.resetHeld ∧ (answer r st s).epoch = s.epoch ∧
    (answer r st s).refreshElapsed = s.refreshElapsed ∧ (answer r st s).markerA = s.markerA ∧
    (answer r st s).markerB = s.markerB ∧ (answer r st s).lanes = s.lanes ∧ (answer r st s).tracks = s.tracks ∧
    (answer r st s).maps = s.maps ∧ (answer r st s).owners = s.owners ∧ (answer r st s).index = s.index ∧
    (answer r st s).writePos = s.writePos ∧ (answer r st s).dram = s.dram ∧ (answer r st s).dramCheck = s.dramCheck ∧
    (answer r st s).mem = s.mem ∧ (answer r st s).check = s.check ∧ (answer r st s).readout = s.readout ∧
    (answer r st s).averagers = s.averagers ∧ (answer r st s).averagerRam = s.averagerRam ∧
    (answer r st s).notices = s.notices ∧ (answer r st s).pending = s.pending := by
  unfold answer
  try dsimp only
  (repeat' split) <;> simp

@[simp] theorem answerWith_frame (r : RawRequest) (body : List Byte) (s : State) :
    (answerWith r body s).time = s.time ∧ (answerWith r body s).resetHeld = s.resetHeld ∧
    (answerWith r body s).epoch = s.epoch ∧ (answerWith r body s).refreshElapsed = s.refreshElapsed ∧
    (answerWith r body s).markerA = s.markerA ∧ (answerWith r body s).markerB = s.markerB ∧
    (answerWith r body s).lanes = s.lanes ∧ (answerWith r body s).tracks = s.tracks ∧
    (answerWith r body s).maps = s.maps ∧ (answerWith r body s).owners = s.owners ∧
    (answerWith r body s).index = s.index ∧ (answerWith r body s).writePos = s.writePos ∧
    (answerWith r body s).dram = s.dram ∧ (answerWith r body s).dramCheck = s.dramCheck ∧
    (answerWith r body s).mem = s.mem ∧ (answerWith r body s).check = s.check ∧
    (answerWith r body s).readout = s.readout ∧ (answerWith r body s).averagers = s.averagers ∧
    (answerWith r body s).averagerRam = s.averagerRam ∧ (answerWith r body s).notices = s.notices ∧
    (answerWith r body s).pending = s.pending := by
  unfold answerWith
  try dsimp only
  (repeat' split) <;> simp

@[simp] theorem claim_frame (t : Track) (seq : Nat) (f : SweepRecord → SweepRecord) (s : State) :
    (claim t seq f s).time = s.time ∧ (claim t seq f s).resetHeld = s.resetHeld ∧ (claim t seq f s).epoch = s.epoch ∧
    (claim t seq f s).refreshElapsed = s.refreshElapsed ∧ (claim t seq f s).markerA = s.markerA ∧
    (claim t seq f s).markerB = s.markerB ∧ (claim t seq f s).lanes = s.lanes ∧ (claim t seq f s).tracks = s.tracks ∧
    (claim t seq f s).maps = s.maps ∧ (claim t seq f s).owners = s.owners ∧ (claim t seq f s).writePos = s.writePos ∧
    (claim t seq f s).dram = s.dram ∧ (claim t seq f s).dramCheck = s.dramCheck ∧ (claim t seq f s).mem = s.mem ∧
    (claim t seq f s).check = s.check ∧ (claim t seq f s).readout = s.readout ∧
    (claim t seq f s).averagers = s.averagers ∧ (claim t seq f s).averagerRam = s.averagerRam ∧
    (claim t seq f s).link = s.link ∧ (claim t seq f s).notices = s.notices ∧
    (claim t seq f s).pending = s.pending := by
  unfold claim
  try dsimp only
  (repeat' split) <;> simp

@[simp] theorem loseOne_frame (t : Track) (pos : Nat) (s : State) :
    (loseOne t pos s).time = s.time ∧ (loseOne t pos s).resetHeld = s.resetHeld ∧ (loseOne t pos s).epoch = s.epoch ∧
    (loseOne t pos s).refreshElapsed = s.refreshElapsed ∧ (loseOne t pos s).markerA = s.markerA ∧
    (loseOne t pos s).markerB = s.markerB ∧ (loseOne t pos s).lanes = s.lanes ∧ (loseOne t pos s).tracks = s.tracks ∧
    (loseOne t pos s).maps = s.maps ∧ (loseOne t pos s).owners = s.owners ∧ (loseOne t pos s).writePos = s.writePos ∧
    (loseOne t pos s).dram = s.dram ∧ (loseOne t pos s).dramCheck = s.dramCheck ∧ (loseOne t pos s).mem = s.mem ∧
    (loseOne t pos s).check = s.check ∧ (loseOne t pos s).readout = s.readout ∧
    (loseOne t pos s).averagers = s.averagers ∧ (loseOne t pos s).averagerRam = s.averagerRam ∧
    (loseOne t pos s).link = s.link ∧ (loseOne t pos s).notices = s.notices ∧
    (loseOne t pos s).pending = s.pending := by
  unfold loseOne
  try dsimp only
  (repeat' split) <;> simp

@[simp] theorem claimKeep_frame (t : Track) (v : Bool) (r : SweepRecord) (s : State) :
    (claimKeep t v r s).time = s.time ∧ (claimKeep t v r s).resetHeld = s.resetHeld ∧
    (claimKeep t v r s).epoch = s.epoch ∧ (claimKeep t v r s).refreshElapsed = s.refreshElapsed ∧
    (claimKeep t v r s).markerA = s.markerA ∧ (claimKeep t v r s).markerB = s.markerB ∧
    (claimKeep t v r s).lanes = s.lanes ∧ (claimKeep t v r s).tracks = s.tracks ∧
    (claimKeep t v r s).owners = s.owners ∧ (claimKeep t v r s).index = s.index ∧
    (claimKeep t v r s).writePos = s.writePos ∧ (claimKeep t v r s).dram = s.dram ∧
    (claimKeep t v r s).dramCheck = s.dramCheck ∧ (claimKeep t v r s).mem = s.mem ∧
    (claimKeep t v r s).check = s.check ∧ (claimKeep t v r s).readout = s.readout ∧
    (claimKeep t v r s).averagers = s.averagers ∧ (claimKeep t v r s).averagerRam = s.averagerRam ∧
    (claimKeep t v r s).link = s.link ∧ (claimKeep t v r s).notices = s.notices ∧
    (claimKeep t v r s).pending = s.pending := by
  unfold claimKeep
  try dsimp only
  (repeat' split) <;> simp

@[simp] theorem storeWords_frame (p : Page) (w : Nat) (bytes checks : List Byte) (s : State) :
    (storeWords p w bytes checks s).time = s.time ∧ (storeWords p w bytes checks s).resetHeld = s.resetHeld ∧
    (storeWords p w bytes checks s).epoch = s.epoch ∧
    (storeWords p w bytes checks s).refreshElapsed = s.refreshElapsed ∧
    (storeWords p w bytes checks s).markerA = s.markerA ∧ (storeWords p w bytes checks s).markerB = s.markerB ∧
    (storeWords p w bytes checks s).lanes = s.lanes ∧ (storeWords p w bytes checks s).tracks = s.tracks ∧
    (storeWords p w bytes checks s).maps = s.maps ∧ (storeWords p w bytes checks s).owners = s.owners ∧
    (storeWords p w bytes checks s).index = s.index ∧ (storeWords p w bytes checks s).writePos = s.writePos ∧
    (storeWords p w bytes checks s).mem = s.mem ∧ (storeWords p w bytes checks s).check = s.check ∧
    (storeWords p w bytes checks s).readout = s.readout ∧ (storeWords p w bytes checks s).averagers = s.averagers ∧
    (storeWords p w bytes checks s).averagerRam = s.averagerRam ∧ (storeWords p w bytes checks s).link = s.link ∧
    (storeWords p w bytes checks s).notices = s.notices ∧ (storeWords p w bytes checks s).pending = s.pending := by
  unfold storeWords
  try dsimp only
  (repeat' split) <;> simp

/-! ## Reads -/

@[simp] theorem endReads_frame (p : Read → Bool) (status : EndStatus) (s : State) :
    (endReads p status s).time = s.time ∧ (endReads p status s).resetHeld = s.resetHeld ∧
    (endReads p status s).epoch = s.epoch ∧ (endReads p status s).refreshElapsed = s.refreshElapsed ∧
    (endReads p status s).markerA = s.markerA ∧ (endReads p status s).markerB = s.markerB ∧
    (endReads p status s).lanes = s.lanes ∧ (endReads p status s).tracks = s.tracks ∧
    (endReads p status s).maps = s.maps ∧ (endReads p status s).owners = s.owners ∧
    (endReads p status s).index = s.index ∧ (endReads p status s).writePos = s.writePos ∧
    (endReads p status s).dram = s.dram ∧ (endReads p status s).dramCheck = s.dramCheck ∧
    (endReads p status s).check = s.check ∧ (endReads p status s).averagers = s.averagers ∧
    (endReads p status s).averagerRam = s.averagerRam ∧ (endReads p status s).link = s.link ∧
    (endReads p status s).notices = s.notices ∧ (endReads p status s).pending = s.pending := by
  unfold endReads
  try dsimp only
  (repeat' split) <;> simp

@[simp] theorem overtakeSweep_frame (t : Track) (seq : Nat) (s : State) :
    (overtakeSweep t seq s).time = s.time ∧ (overtakeSweep t seq s).resetHeld = s.resetHeld ∧
    (overtakeSweep t seq s).epoch = s.epoch ∧ (overtakeSweep t seq s).refreshElapsed = s.refreshElapsed ∧
    (overtakeSweep t seq s).markerA = s.markerA ∧ (overtakeSweep t seq s).markerB = s.markerB ∧
    (overtakeSweep t seq s).lanes = s.lanes ∧ (overtakeSweep t seq s).tracks = s.tracks ∧
    (overtakeSweep t seq s).maps = s.maps ∧ (overtakeSweep t seq s).owners = s.owners ∧
    (overtakeSweep t seq s).index = s.index ∧ (overtakeSweep t seq s).writePos = s.writePos ∧
    (overtakeSweep t seq s).dram = s.dram ∧ (overtakeSweep t seq s).dramCheck = s.dramCheck ∧
    (overtakeSweep t seq s).check = s.check ∧ (overtakeSweep t seq s).averagers = s.averagers ∧
    (overtakeSweep t seq s).averagerRam = s.averagerRam ∧ (overtakeSweep t seq s).link = s.link ∧
    (overtakeSweep t seq s).notices = s.notices ∧ (overtakeSweep t seq s).pending = s.pending := by
  unfold overtakeSweep
  try dsimp only
  (repeat' split) <;> simp

@[simp] theorem overtakeMeans_frame (t : Track) (s : State) :
    (overtakeMeans t s).time = s.time ∧ (overtakeMeans t s).resetHeld = s.resetHeld ∧
    (overtakeMeans t s).epoch = s.epoch ∧ (overtakeMeans t s).refreshElapsed = s.refreshElapsed ∧
    (overtakeMeans t s).markerA = s.markerA ∧ (overtakeMeans t s).markerB = s.markerB ∧
    (overtakeMeans t s).lanes = s.lanes ∧ (overtakeMeans t s).tracks = s.tracks ∧ (overtakeMeans t s).maps = s.maps ∧
    (overtakeMeans t s).owners = s.owners ∧ (overtakeMeans t s).index = s.index ∧
    (overtakeMeans t s).writePos = s.writePos ∧ (overtakeMeans t s).dram = s.dram ∧
    (overtakeMeans t s).dramCheck = s.dramCheck ∧ (overtakeMeans t s).check = s.check ∧
    (overtakeMeans t s).averagers = s.averagers ∧ (overtakeMeans t s).averagerRam = s.averagerRam ∧
    (overtakeMeans t s).link = s.link ∧ (overtakeMeans t s).notices = s.notices ∧
    (overtakeMeans t s).pending = s.pending := by
  unfold overtakeMeans
  try dsimp only
  (repeat' split) <;> simp

@[simp] theorem overtakeActiveMean_frame (t : Track) (s : State) :
    (overtakeActiveMean t s).time = s.time ∧ (overtakeActiveMean t s).resetHeld = s.resetHeld ∧
    (overtakeActiveMean t s).epoch = s.epoch ∧ (overtakeActiveMean t s).refreshElapsed = s.refreshElapsed ∧
    (overtakeActiveMean t s).markerA = s.markerA ∧ (overtakeActiveMean t s).markerB = s.markerB ∧
    (overtakeActiveMean t s).lanes = s.lanes ∧ (overtakeActiveMean t s).tracks = s.tracks ∧
    (overtakeActiveMean t s).maps = s.maps ∧ (overtakeActiveMean t s).owners = s.owners ∧
    (overtakeActiveMean t s).index = s.index ∧ (overtakeActiveMean t s).writePos = s.writePos ∧
    (overtakeActiveMean t s).dram = s.dram ∧ (overtakeActiveMean t s).dramCheck = s.dramCheck ∧
    (overtakeActiveMean t s).mem = s.mem ∧ (overtakeActiveMean t s).check = s.check ∧
    (overtakeActiveMean t s).averagers = s.averagers ∧ (overtakeActiveMean t s).averagerRam = s.averagerRam ∧
    (overtakeActiveMean t s).link = s.link ∧ (overtakeActiveMean t s).notices = s.notices ∧
    (overtakeActiveMean t s).pending = s.pending := by
  unfold overtakeActiveMean
  try dsimp only
  (repeat' split) <;> simp

@[simp] theorem setActive_frame (r : Read) (s : State) :
    (setActive r s).time = s.time ∧ (setActive r s).resetHeld = s.resetHeld ∧ (setActive r s).epoch = s.epoch ∧
    (setActive r s).refreshElapsed = s.refreshElapsed ∧ (setActive r s).markerA = s.markerA ∧
    (setActive r s).markerB = s.markerB ∧ (setActive r s).lanes = s.lanes ∧ (setActive r s).tracks = s.tracks ∧
    (setActive r s).maps = s.maps ∧ (setActive r s).owners = s.owners ∧ (setActive r s).index = s.index ∧
    (setActive r s).writePos = s.writePos ∧ (setActive r s).dram = s.dram ∧ (setActive r s).dramCheck = s.dramCheck ∧
    (setActive r s).mem = s.mem ∧ (setActive r s).check = s.check ∧ (setActive r s).averagers = s.averagers ∧
    (setActive r s).averagerRam = s.averagerRam ∧ (setActive r s).link = s.link ∧
    (setActive r s).notices = s.notices ∧ (setActive r s).pending = s.pending := by
  unfold setActive
  try dsimp only
  (repeat' split) <;> simp

/-! ## Records and pages -/

@[simp] theorem unheedWrites_frame (t : Track) (seq : Nat) (s : State) :
    (unheedWrites t seq s).time = s.time ∧ (unheedWrites t seq s).resetHeld = s.resetHeld ∧
    (unheedWrites t seq s).epoch = s.epoch ∧ (unheedWrites t seq s).refreshElapsed = s.refreshElapsed ∧
    (unheedWrites t seq s).markerA = s.markerA ∧ (unheedWrites t seq s).markerB = s.markerB ∧
    (unheedWrites t seq s).lanes = s.lanes ∧ (unheedWrites t seq s).tracks = s.tracks ∧
    (unheedWrites t seq s).maps = s.maps ∧ (unheedWrites t seq s).owners = s.owners ∧
    (unheedWrites t seq s).index = s.index ∧ (unheedWrites t seq s).writePos = s.writePos ∧
    (unheedWrites t seq s).dram = s.dram ∧ (unheedWrites t seq s).dramCheck = s.dramCheck ∧
    (unheedWrites t seq s).check = s.check ∧ (unheedWrites t seq s).readout = s.readout ∧
    (unheedWrites t seq s).averagers = s.averagers ∧ (unheedWrites t seq s).averagerRam = s.averagerRam ∧
    (unheedWrites t seq s).link = s.link ∧ (unheedWrites t seq s).notices = s.notices ∧
    (unheedWrites t seq s).pending = s.pending := by
  unfold unheedWrites
  try dsimp only
  (repeat' split) <;> simp

@[simp] theorem dropStaged_frame (t : Track) (seq : Nat) (s : State) :
    (dropStaged t seq s).time = s.time ∧ (dropStaged t seq s).resetHeld = s.resetHeld ∧
    (dropStaged t seq s).epoch = s.epoch ∧ (dropStaged t seq s).refreshElapsed = s.refreshElapsed ∧
    (dropStaged t seq s).markerA = s.markerA ∧ (dropStaged t seq s).markerB = s.markerB ∧
    (dropStaged t seq s).lanes = s.lanes ∧ (dropStaged t seq s).maps = s.maps ∧
    (dropStaged t seq s).owners = s.owners ∧ (dropStaged t seq s).index = s.index ∧
    (dropStaged t seq s).writePos = s.writePos ∧ (dropStaged t seq s).dram = s.dram ∧
    (dropStaged t seq s).dramCheck = s.dramCheck ∧ (dropStaged t seq s).check = s.check ∧
    (dropStaged t seq s).readout = s.readout ∧ (dropStaged t seq s).averagers = s.averagers ∧
    (dropStaged t seq s).averagerRam = s.averagerRam ∧ (dropStaged t seq s).link = s.link ∧
    (dropStaged t seq s).notices = s.notices ∧ (dropStaged t seq s).pending = s.pending := by
  unfold dropStaged
  try dsimp only
  (repeat' split) <;> simp

@[simp] theorem removeRecord_frame (t : Track) (r : SweepRecord) (s : State) :
    (removeRecord t r s).time = s.time ∧ (removeRecord t r s).resetHeld = s.resetHeld ∧
    (removeRecord t r s).epoch = s.epoch ∧ (removeRecord t r s).refreshElapsed = s.refreshElapsed ∧
    (removeRecord t r s).markerA = s.markerA ∧ (removeRecord t r s).markerB = s.markerB ∧
    (removeRecord t r s).lanes = s.lanes ∧ (removeRecord t r s).tracks = s.tracks ∧
    (removeRecord t r s).owners = s.owners ∧ (removeRecord t r s).writePos = s.writePos ∧
    (removeRecord t r s).dram = s.dram ∧ (removeRecord t r s).dramCheck = s.dramCheck ∧
    (removeRecord t r s).mem = s.mem ∧ (removeRecord t r s).check = s.check ∧
    (removeRecord t r s).readout = s.readout ∧ (removeRecord t r s).averagers = s.averagers ∧
    (removeRecord t r s).averagerRam = s.averagerRam ∧ (removeRecord t r s).link = s.link ∧
    (removeRecord t r s).notices = s.notices ∧ (removeRecord t r s).pending = s.pending := by
  unfold removeRecord
  try dsimp only
  (repeat' split) <;> simp

@[simp] theorem retire_frame (t : Track) (r : SweepRecord) (s : State) :
    (retire t r s).time = s.time ∧ (retire t r s).resetHeld = s.resetHeld ∧ (retire t r s).epoch = s.epoch ∧
    (retire t r s).refreshElapsed = s.refreshElapsed ∧ (retire t r s).markerA = s.markerA ∧
    (retire t r s).markerB = s.markerB ∧ (retire t r s).lanes = s.lanes ∧ (retire t r s).owners = s.owners ∧
    (retire t r s).writePos = s.writePos ∧ (retire t r s).dram = s.dram ∧ (retire t r s).dramCheck = s.dramCheck ∧
    (retire t r s).check = s.check ∧ (retire t r s).averagers = s.averagers ∧
    (retire t r s).averagerRam = s.averagerRam ∧ (retire t r s).link = s.link ∧ (retire t r s).notices = s.notices ∧
    (retire t r s).pending = s.pending := by
  unfold retire
  try dsimp only
  (repeat' split) <;> simp

@[simp] theorem retireAll_frame (t : Track) (rs : List SweepRecord) (s : State) :
    (retireAll t rs s).time = s.time ∧ (retireAll t rs s).resetHeld = s.resetHeld ∧
    (retireAll t rs s).epoch = s.epoch ∧ (retireAll t rs s).refreshElapsed = s.refreshElapsed ∧
    (retireAll t rs s).markerA = s.markerA ∧ (retireAll t rs s).markerB = s.markerB ∧
    (retireAll t rs s).lanes = s.lanes ∧ (retireAll t rs s).owners = s.owners ∧
    (retireAll t rs s).writePos = s.writePos ∧ (retireAll t rs s).dram = s.dram ∧
    (retireAll t rs s).dramCheck = s.dramCheck ∧ (retireAll t rs s).check = s.check ∧
    (retireAll t rs s).averagers = s.averagers ∧ (retireAll t rs s).averagerRam = s.averagerRam ∧
    (retireAll t rs s).link = s.link ∧ (retireAll t rs s).notices = s.notices ∧
    (retireAll t rs s).pending = s.pending := by
  induction rs generalizing s with
  | nil => simp [retireAll]
  | cons r rs ih =>
    have h := ih (retire t r s)
    simp only [retireAll, List.foldl_cons] at h ⊢
    simpa using h

@[simp] theorem placeAt_frame (t : Track) (c : Nat) (s : State) :
    (placeAt t c s).time = s.time ∧ (placeAt t c s).resetHeld = s.resetHeld ∧ (placeAt t c s).epoch = s.epoch ∧
    (placeAt t c s).refreshElapsed = s.refreshElapsed ∧ (placeAt t c s).markerA = s.markerA ∧
    (placeAt t c s).markerB = s.markerB ∧ (placeAt t c s).lanes = s.lanes ∧ (placeAt t c s).owners = s.owners ∧
    (placeAt t c s).dram = s.dram ∧ (placeAt t c s).dramCheck = s.dramCheck ∧ (placeAt t c s).check = s.check ∧
    (placeAt t c s).averagers = s.averagers ∧ (placeAt t c s).averagerRam = s.averagerRam ∧
    (placeAt t c s).link = s.link ∧ (placeAt t c s).notices = s.notices ∧ (placeAt t c s).pending = s.pending := by
  unfold placeAt
  try dsimp only
  (repeat' split) <;> simp

/-! ## Averager -/

@[simp] theorem clearSums_frame (g : Region) (s : State) :
    (clearSums g s).time = s.time ∧ (clearSums g s).resetHeld = s.resetHeld ∧ (clearSums g s).epoch = s.epoch ∧
    (clearSums g s).refreshElapsed = s.refreshElapsed ∧ (clearSums g s).markerA = s.markerA ∧
    (clearSums g s).markerB = s.markerB ∧ (clearSums g s).lanes = s.lanes ∧ (clearSums g s).tracks = s.tracks ∧
    (clearSums g s).maps = s.maps ∧ (clearSums g s).owners = s.owners ∧ (clearSums g s).index = s.index ∧
    (clearSums g s).writePos = s.writePos ∧ (clearSums g s).dram = s.dram ∧ (clearSums g s).dramCheck = s.dramCheck ∧
    (clearSums g s).mem = s.mem ∧ (clearSums g s).check = s.check ∧ (clearSums g s).readout = s.readout ∧
    (clearSums g s).averagers = s.averagers ∧ (clearSums g s).link = s.link ∧ (clearSums g s).notices = s.notices ∧
    (clearSums g s).pending = s.pending := by
  unfold clearSums
  try dsimp only
  (repeat' split) <;> simp

@[simp] theorem restartBlock_frame (t : Track) (s : State) :
    (restartBlock t s).time = s.time ∧ (restartBlock t s).resetHeld = s.resetHeld ∧
    (restartBlock t s).epoch = s.epoch ∧ (restartBlock t s).refreshElapsed = s.refreshElapsed ∧
    (restartBlock t s).markerA = s.markerA ∧ (restartBlock t s).markerB = s.markerB ∧
    (restartBlock t s).lanes = s.lanes ∧ (restartBlock t s).tracks = s.tracks ∧ (restartBlock t s).maps = s.maps ∧
    (restartBlock t s).owners = s.owners ∧ (restartBlock t s).index = s.index ∧
    (restartBlock t s).writePos = s.writePos ∧ (restartBlock t s).dram = s.dram ∧
    (restartBlock t s).dramCheck = s.dramCheck ∧ (restartBlock t s).mem = s.mem ∧ (restartBlock t s).check = s.check ∧
    (restartBlock t s).readout = s.readout ∧ (restartBlock t s).link = s.link ∧
    (restartBlock t s).notices = s.notices ∧ (restartBlock t s).pending = s.pending := by
  unfold restartBlock
  try dsimp only
  (repeat' split) <;> simp

@[simp] theorem discardMean_frame (t : Track) (s : State) :
    (discardMean t s).time = s.time ∧ (discardMean t s).resetHeld = s.resetHeld ∧ (discardMean t s).epoch = s.epoch ∧
    (discardMean t s).refreshElapsed = s.refreshElapsed ∧ (discardMean t s).markerA = s.markerA ∧
    (discardMean t s).markerB = s.markerB ∧ (discardMean t s).lanes = s.lanes ∧ (discardMean t s).tracks = s.tracks ∧
    (discardMean t s).maps = s.maps ∧ (discardMean t s).owners = s.owners ∧ (discardMean t s).index = s.index ∧
    (discardMean t s).writePos = s.writePos ∧ (discardMean t s).dram = s.dram ∧
    (discardMean t s).dramCheck = s.dramCheck ∧ (discardMean t s).check = s.check ∧
    (discardMean t s).averagerRam = s.averagerRam ∧ (discardMean t s).link = s.link ∧
    (discardMean t s).notices = s.notices ∧ (discardMean t s).pending = s.pending := by
  unfold discardMean
  try dsimp only
  (repeat' split) <;> simp

@[simp] theorem disableAverager_frame (t : Track) (reason : DisableReason) (s : State) :
    (disableAverager t reason s).time = s.time ∧ (disableAverager t reason s).resetHeld = s.resetHeld ∧
    (disableAverager t reason s).epoch = s.epoch ∧ (disableAverager t reason s).refreshElapsed = s.refreshElapsed ∧
    (disableAverager t reason s).markerA = s.markerA ∧ (disableAverager t reason s).markerB = s.markerB ∧
    (disableAverager t reason s).lanes = s.lanes ∧ (disableAverager t reason s).tracks = s.tracks ∧
    (disableAverager t reason s).maps = s.maps ∧ (disableAverager t reason s).owners = s.owners ∧
    (disableAverager t reason s).index = s.index ∧ (disableAverager t reason s).writePos = s.writePos ∧
    (disableAverager t reason s).dram = s.dram ∧ (disableAverager t reason s).dramCheck = s.dramCheck ∧
    (disableAverager t reason s).check = s.check ∧ (disableAverager t reason s).averagerRam = s.averagerRam ∧
    (disableAverager t reason s).link = s.link ∧ (disableAverager t reason s).notices = s.notices ∧
    (disableAverager t reason s).pending = s.pending := by
  unfold disableAverager
  try dsimp only
  (repeat' split) <;> simp

@[simp] theorem averagerSweepStart_frame (t : Track) (seq : Nat) (coasted : Bool) (s : State) :
    (averagerSweepStart t seq coasted s).time = s.time ∧
    (averagerSweepStart t seq coasted s).resetHeld = s.resetHeld ∧
    (averagerSweepStart t seq coasted s).epoch = s.epoch ∧
    (averagerSweepStart t seq coasted s).refreshElapsed = s.refreshElapsed ∧
    (averagerSweepStart t seq coasted s).markerA = s.markerA ∧
    (averagerSweepStart t seq coasted s).markerB = s.markerB ∧ (averagerSweepStart t seq coasted s).lanes = s.lanes ∧
    (averagerSweepStart t seq coasted s).tracks = s.tracks ∧ (averagerSweepStart t seq coasted s).maps = s.maps ∧
    (averagerSweepStart t seq coasted s).owners = s.owners ∧ (averagerSweepStart t seq coasted s).index = s.index ∧
    (averagerSweepStart t seq coasted s).writePos = s.writePos ∧ (averagerSweepStart t seq coasted s).dram = s.dram ∧
    (averagerSweepStart t seq coasted s).dramCheck = s.dramCheck ∧ (averagerSweepStart t seq coasted s).mem = s.mem ∧
    (averagerSweepStart t seq coasted s).check = s.check ∧ (averagerSweepStart t seq coasted s).readout = s.readout ∧
    (averagerSweepStart t seq coasted s).averagerRam = s.averagerRam ∧
    (averagerSweepStart t seq coasted s).link = s.link ∧ (averagerSweepStart t seq coasted s).notices = s.notices ∧
    (averagerSweepStart t seq coasted s).pending = s.pending := by
  unfold averagerSweepStart
  try dsimp only
  (repeat' split) <;> simp

@[simp] theorem averagerAdd_frame (t : Track) (pos : Nat) (v : Int) (s : State) :
    (averagerAdd t pos v s).time = s.time ∧ (averagerAdd t pos v s).resetHeld = s.resetHeld ∧
    (averagerAdd t pos v s).epoch = s.epoch ∧ (averagerAdd t pos v s).refreshElapsed = s.refreshElapsed ∧
    (averagerAdd t pos v s).markerA = s.markerA ∧ (averagerAdd t pos v s).markerB = s.markerB ∧
    (averagerAdd t pos v s).lanes = s.lanes ∧ (averagerAdd t pos v s).tracks = s.tracks ∧
    (averagerAdd t pos v s).maps = s.maps ∧ (averagerAdd t pos v s).owners = s.owners ∧
    (averagerAdd t pos v s).index = s.index ∧ (averagerAdd t pos v s).writePos = s.writePos ∧
    (averagerAdd t pos v s).dram = s.dram ∧ (averagerAdd t pos v s).dramCheck = s.dramCheck ∧
    (averagerAdd t pos v s).mem = s.mem ∧ (averagerAdd t pos v s).check = s.check ∧
    (averagerAdd t pos v s).readout = s.readout ∧ (averagerAdd t pos v s).averagers = s.averagers ∧
    (averagerAdd t pos v s).link = s.link ∧ (averagerAdd t pos v s).notices = s.notices ∧
    (averagerAdd t pos v s).pending = s.pending := by
  unfold averagerAdd
  try dsimp only
  (repeat' split) <;> simp

@[simp] theorem beginPublication_frame (t : Track) (last : Nat) (s : State) :
    (beginPublication t last s).time = s.time ∧ (beginPublication t last s).resetHeld = s.resetHeld ∧
    (beginPublication t last s).epoch = s.epoch ∧ (beginPublication t last s).refreshElapsed = s.refreshElapsed ∧
    (beginPublication t last s).markerA = s.markerA ∧ (beginPublication t last s).markerB = s.markerB ∧
    (beginPublication t last s).lanes = s.lanes ∧ (beginPublication t last s).tracks = s.tracks ∧
    (beginPublication t last s).maps = s.maps ∧ (beginPublication t last s).owners = s.owners ∧
    (beginPublication t last s).index = s.index ∧ (beginPublication t last s).writePos = s.writePos ∧
    (beginPublication t last s).dram = s.dram ∧ (beginPublication t last s).dramCheck = s.dramCheck ∧
    (beginPublication t last s).mem = s.mem ∧ (beginPublication t last s).check = s.check ∧
    (beginPublication t last s).averagerRam = s.averagerRam ∧ (beginPublication t last s).link = s.link ∧
    (beginPublication t last s).notices = s.notices ∧ (beginPublication t last s).pending = s.pending := by
  unfold beginPublication
  try dsimp only
  (repeat' split) <;> simp

@[simp] theorem averagerSweepEnd_frame (t : Track) (seq : Nat) (spoiled : Bool) (s : State) :
    (averagerSweepEnd t seq spoiled s).time = s.time ∧ (averagerSweepEnd t seq spoiled s).resetHeld = s.resetHeld ∧
    (averagerSweepEnd t seq spoiled s).epoch = s.epoch ∧
    (averagerSweepEnd t seq spoiled s).refreshElapsed = s.refreshElapsed ∧
    (averagerSweepEnd t seq spoiled s).markerA = s.markerA ∧ (averagerSweepEnd t seq spoiled s).markerB = s.markerB ∧
    (averagerSweepEnd t seq spoiled s).lanes = s.lanes ∧ (averagerSweepEnd t seq spoiled s).tracks = s.tracks ∧
    (averagerSweepEnd t seq spoiled s).maps = s.maps ∧ (averagerSweepEnd t seq spoiled s).owners = s.owners ∧
    (averagerSweepEnd t seq spoiled s).writePos = s.writePos ∧ (averagerSweepEnd t seq spoiled s).dram = s.dram ∧
    (averagerSweepEnd t seq spoiled s).dramCheck = s.dramCheck ∧ (averagerSweepEnd t seq spoiled s).mem = s.mem ∧
    (averagerSweepEnd t seq spoiled s).check = s.check ∧ (averagerSweepEnd t seq spoiled s).link = s.link ∧
    (averagerSweepEnd t seq spoiled s).notices = s.notices ∧
    (averagerSweepEnd t seq spoiled s).pending = s.pending := by
  unfold averagerSweepEnd
  try dsimp only
  (repeat' split) <;> simp

@[simp] theorem averagerSweepRemoved_frame (t : Track) (seq : Nat) (s : State) :
    (averagerSweepRemoved t seq s).time = s.time ∧ (averagerSweepRemoved t seq s).resetHeld = s.resetHeld ∧
    (averagerSweepRemoved t seq s).epoch = s.epoch ∧
    (averagerSweepRemoved t seq s).refreshElapsed = s.refreshElapsed ∧
    (averagerSweepRemoved t seq s).markerA = s.markerA ∧ (averagerSweepRemoved t seq s).markerB = s.markerB ∧
    (averagerSweepRemoved t seq s).lanes = s.lanes ∧ (averagerSweepRemoved t seq s).tracks = s.tracks ∧
    (averagerSweepRemoved t seq s).maps = s.maps ∧ (averagerSweepRemoved t seq s).owners = s.owners ∧
    (averagerSweepRemoved t seq s).index = s.index ∧ (averagerSweepRemoved t seq s).writePos = s.writePos ∧
    (averagerSweepRemoved t seq s).dram = s.dram ∧ (averagerSweepRemoved t seq s).dramCheck = s.dramCheck ∧
    (averagerSweepRemoved t seq s).mem = s.mem ∧ (averagerSweepRemoved t seq s).check = s.check ∧
    (averagerSweepRemoved t seq s).readout = s.readout ∧ (averagerSweepRemoved t seq s).link = s.link ∧
    (averagerSweepRemoved t seq s).notices = s.notices ∧ (averagerSweepRemoved t seq s).pending = s.pending := by
  unfold averagerSweepRemoved
  try dsimp only
  (repeat' split) <;> simp

@[simp] theorem resetAverager_frame (t : Track) (s : State) :
    (resetAverager t s).time = s.time ∧ (resetAverager t s).resetHeld = s.resetHeld ∧
    (resetAverager t s).epoch = s.epoch ∧ (resetAverager t s).refreshElapsed = s.refreshElapsed ∧
    (resetAverager t s).markerA = s.markerA ∧ (resetAverager t s).markerB = s.markerB ∧
    (resetAverager t s).lanes = s.lanes ∧ (resetAverager t s).tracks = s.tracks ∧ (resetAverager t s).maps = s.maps ∧
    (resetAverager t s).owners = s.owners ∧ (resetAverager t s).index = s.index ∧
    (resetAverager t s).writePos = s.writePos ∧ (resetAverager t s).dram = s.dram ∧
    (resetAverager t s).dramCheck = s.dramCheck ∧ (resetAverager t s).check = s.check ∧
    (resetAverager t s).link = s.link ∧ (resetAverager t s).notices = s.notices ∧
    (resetAverager t s).pending = s.pending := by
  unfold resetAverager
  try dsimp only
  (repeat' split) <;> simp

@[simp] theorem completePublication_frame (t : Track) (g : Region) (last : Nat) (s : State) :
    (completePublication t g last s).time = s.time ∧ (completePublication t g last s).resetHeld = s.resetHeld ∧
    (completePublication t g last s).epoch = s.epoch ∧
    (completePublication t g last s).refreshElapsed = s.refreshElapsed ∧
    (completePublication t g last s).markerA = s.markerA ∧ (completePublication t g last s).markerB = s.markerB ∧
    (completePublication t g last s).lanes = s.lanes ∧ (completePublication t g last s).tracks = s.tracks ∧
    (completePublication t g last s).maps = s.maps ∧ (completePublication t g last s).owners = s.owners ∧
    (completePublication t g last s).index = s.index ∧ (completePublication t g last s).writePos = s.writePos ∧
    (completePublication t g last s).dram = s.dram ∧ (completePublication t g last s).dramCheck = s.dramCheck ∧
    (completePublication t g last s).mem = s.mem ∧ (completePublication t g last s).check = s.check ∧
    (completePublication t g last s).readout = s.readout ∧ (completePublication t g last s).link = s.link ∧
    (completePublication t g last s).pending = s.pending := by
  unfold completePublication
  try dsimp only
  (repeat' split) <;> simp

@[simp] theorem writeMean_frame (t : Track) (s : State) :
    (writeMean t s).time = s.time ∧ (writeMean t s).resetHeld = s.resetHeld ∧ (writeMean t s).epoch = s.epoch ∧
    (writeMean t s).refreshElapsed = s.refreshElapsed ∧ (writeMean t s).markerA = s.markerA ∧
    (writeMean t s).markerB = s.markerB ∧ (writeMean t s).lanes = s.lanes ∧ (writeMean t s).tracks = s.tracks ∧
    (writeMean t s).maps = s.maps ∧ (writeMean t s).owners = s.owners ∧ (writeMean t s).index = s.index ∧
    (writeMean t s).writePos = s.writePos ∧ (writeMean t s).dram = s.dram ∧ (writeMean t s).dramCheck = s.dramCheck ∧
    (writeMean t s).mem = s.mem ∧ (writeMean t s).check = s.check ∧ (writeMean t s).readout = s.readout ∧
    (writeMean t s).link = s.link ∧ (writeMean t s).pending = s.pending := by
  unfold writeMean
  try dsimp only
  (repeat' split) <;> simp

/-! ## Memory controller -/

@[simp] theorem beginWaking_frame (cause : WakeCause) (s : State) :
    (beginWaking cause s).time = s.time ∧ (beginWaking cause s).resetHeld = s.resetHeld ∧
    (beginWaking cause s).epoch = s.epoch ∧ (beginWaking cause s).refreshElapsed = s.refreshElapsed ∧
    (beginWaking cause s).markerA = s.markerA ∧ (beginWaking cause s).markerB = s.markerB ∧
    (beginWaking cause s).lanes = s.lanes ∧ (beginWaking cause s).tracks = s.tracks ∧
    (beginWaking cause s).maps = s.maps ∧ (beginWaking cause s).owners = s.owners ∧
    (beginWaking cause s).index = s.index ∧ (beginWaking cause s).writePos = s.writePos ∧
    (beginWaking cause s).dram = s.dram ∧ (beginWaking cause s).dramCheck = s.dramCheck ∧
    (beginWaking cause s).check = s.check ∧ (beginWaking cause s).readout = s.readout ∧
    (beginWaking cause s).averagers = s.averagers ∧ (beginWaking cause s).averagerRam = s.averagerRam ∧
    (beginWaking cause s).link = s.link ∧ (beginWaking cause s).notices = s.notices ∧
    (beginWaking cause s).pending = s.pending := by
  unfold beginWaking
  try dsimp only
  (repeat' split) <;> simp

@[simp] theorem completeInHand_frame (code : Nat) (s : State) :
    (completeInHand code s).time = s.time ∧ (completeInHand code s).resetHeld = s.resetHeld ∧
    (completeInHand code s).epoch = s.epoch ∧ (completeInHand code s).refreshElapsed = s.refreshElapsed ∧
    (completeInHand code s).markerA = s.markerA ∧ (completeInHand code s).markerB = s.markerB ∧
    (completeInHand code s).lanes = s.lanes ∧ (completeInHand code s).tracks = s.tracks ∧
    (completeInHand code s).maps = s.maps ∧ (completeInHand code s).owners = s.owners ∧
    (completeInHand code s).index = s.index ∧ (completeInHand code s).writePos = s.writePos ∧
    (completeInHand code s).dram = s.dram ∧ (completeInHand code s).dramCheck = s.dramCheck ∧
    (completeInHand code s).mem = s.mem ∧ (completeInHand code s).check = s.check ∧
    (completeInHand code s).readout = s.readout ∧ (completeInHand code s).averagers = s.averagers ∧
    (completeInHand code s).averagerRam = s.averagerRam ∧ (completeInHand code s).notices = s.notices ∧
    (completeInHand code s).pending = s.pending := by
  unfold completeInHand
  try dsimp only
  (repeat' split) <;> simp

@[simp] theorem completeEntry_frame (cause : EntryCause) (s : State) :
    (completeEntry cause s).time = s.time ∧ (completeEntry cause s).resetHeld = s.resetHeld ∧
    (completeEntry cause s).epoch = s.epoch ∧ (completeEntry cause s).refreshElapsed = s.refreshElapsed ∧
    (completeEntry cause s).markerA = s.markerA ∧ (completeEntry cause s).markerB = s.markerB ∧
    (completeEntry cause s).lanes = s.lanes ∧ (completeEntry cause s).tracks = s.tracks ∧
    (completeEntry cause s).maps = s.maps ∧ (completeEntry cause s).owners = s.owners ∧
    (completeEntry cause s).index = s.index ∧ (completeEntry cause s).writePos = s.writePos ∧
    (completeEntry cause s).dram = s.dram ∧ (completeEntry cause s).dramCheck = s.dramCheck ∧
    (completeEntry cause s).check = s.check ∧ (completeEntry cause s).readout = s.readout ∧
    (completeEntry cause s).averagers = s.averagers ∧ (completeEntry cause s).averagerRam = s.averagerRam ∧
    (completeEntry cause s).pending = s.pending := by
  unfold completeEntry
  try dsimp only
  (repeat' split) <;> simp

@[simp] theorem driveEntry_frame (s : State) :
    (driveEntry s).time = s.time ∧ (driveEntry s).resetHeld = s.resetHeld ∧ (driveEntry s).epoch = s.epoch ∧
    (driveEntry s).refreshElapsed = s.refreshElapsed ∧ (driveEntry s).markerA = s.markerA ∧
    (driveEntry s).markerB = s.markerB ∧ (driveEntry s).lanes = s.lanes ∧ (driveEntry s).tracks = s.tracks ∧
    (driveEntry s).maps = s.maps ∧ (driveEntry s).owners = s.owners ∧ (driveEntry s).index = s.index ∧
    (driveEntry s).writePos = s.writePos ∧ (driveEntry s).dram = s.dram ∧ (driveEntry s).dramCheck = s.dramCheck ∧
    (driveEntry s).check = s.check ∧ (driveEntry s).readout = s.readout ∧ (driveEntry s).averagers = s.averagers ∧
    (driveEntry s).averagerRam = s.averagerRam ∧ (driveEntry s).pending = s.pending := by
  unfold driveEntry
  try dsimp only
  (repeat' split) <;> simp

@[simp] theorem drive_frame (s : State) :
    (drive s).time = s.time ∧ (drive s).resetHeld = s.resetHeld ∧ (drive s).epoch = s.epoch ∧
    (drive s).refreshElapsed = s.refreshElapsed ∧ (drive s).markerA = s.markerA ∧ (drive s).markerB = s.markerB ∧
    (drive s).lanes = s.lanes ∧ (drive s).tracks = s.tracks ∧ (drive s).maps = s.maps ∧ (drive s).owners = s.owners ∧
    (drive s).index = s.index ∧ (drive s).writePos = s.writePos ∧ (drive s).dram = s.dram ∧
    (drive s).dramCheck = s.dramCheck ∧ (drive s).check = s.check ∧ (drive s).readout = s.readout ∧
    (drive s).averagers = s.averagers ∧ (drive s).averagerRam = s.averagerRam ∧ (drive s).pending = s.pending := by
  unfold drive
  try dsimp only
  (repeat' split) <;> simp

@[simp] theorem wakeIfRequested_frame (s : State) :
    (wakeIfRequested s).time = s.time ∧ (wakeIfRequested s).resetHeld = s.resetHeld ∧
    (wakeIfRequested s).epoch = s.epoch ∧ (wakeIfRequested s).refreshElapsed = s.refreshElapsed ∧
    (wakeIfRequested s).markerA = s.markerA ∧ (wakeIfRequested s).markerB = s.markerB ∧
    (wakeIfRequested s).lanes = s.lanes ∧ (wakeIfRequested s).tracks = s.tracks ∧ (wakeIfRequested s).maps = s.maps ∧
    (wakeIfRequested s).owners = s.owners ∧ (wakeIfRequested s).index = s.index ∧
    (wakeIfRequested s).writePos = s.writePos ∧ (wakeIfRequested s).dram = s.dram ∧
    (wakeIfRequested s).dramCheck = s.dramCheck ∧ (wakeIfRequested s).check = s.check ∧
    (wakeIfRequested s).readout = s.readout ∧ (wakeIfRequested s).averagers = s.averagers ∧
    (wakeIfRequested s).averagerRam = s.averagerRam ∧ (wakeIfRequested s).link = s.link ∧
    (wakeIfRequested s).notices = s.notices ∧ (wakeIfRequested s).pending = s.pending := by
  unfold wakeIfRequested
  try dsimp only
  (repeat' split) <;> simp

@[simp] theorem followAuto_frame (s : State) :
    (followAuto s).time = s.time ∧ (followAuto s).resetHeld = s.resetHeld ∧ (followAuto s).epoch = s.epoch ∧
    (followAuto s).refreshElapsed = s.refreshElapsed ∧ (followAuto s).markerA = s.markerA ∧
    (followAuto s).markerB = s.markerB ∧ (followAuto s).lanes = s.lanes ∧ (followAuto s).tracks = s.tracks ∧
    (followAuto s).maps = s.maps ∧ (followAuto s).owners = s.owners ∧ (followAuto s).index = s.index ∧
    (followAuto s).writePos = s.writePos ∧ (followAuto s).dram = s.dram ∧ (followAuto s).dramCheck = s.dramCheck ∧
    (followAuto s).check = s.check ∧ (followAuto s).readout = s.readout ∧ (followAuto s).averagers = s.averagers ∧
    (followAuto s).averagerRam = s.averagerRam ∧ (followAuto s).link = s.link ∧ (followAuto s).notices = s.notices ∧
    (followAuto s).pending = s.pending := by simp [followAuto]

@[simp] theorem follow_frame (s : State) :
    (follow s).time = s.time ∧ (follow s).resetHeld = s.resetHeld ∧ (follow s).epoch = s.epoch ∧
    (follow s).refreshElapsed = s.refreshElapsed ∧ (follow s).markerA = s.markerA ∧ (follow s).markerB = s.markerB ∧
    (follow s).lanes = s.lanes ∧ (follow s).tracks = s.tracks ∧ (follow s).maps = s.maps ∧
    (follow s).owners = s.owners ∧ (follow s).index = s.index ∧ (follow s).writePos = s.writePos ∧
    (follow s).dram = s.dram ∧ (follow s).dramCheck = s.dramCheck ∧ (follow s).check = s.check ∧
    (follow s).readout = s.readout ∧ (follow s).averagers = s.averagers ∧ (follow s).averagerRam = s.averagerRam ∧
    (follow s).link = s.link ∧ (follow s).notices = s.notices ∧ (follow s).pending = s.pending := by
  unfold follow
  try dsimp only
  (repeat' split) <;> simp

@[simp] theorem settle_frame (s : State) :
    (settle s).time = s.time ∧ (settle s).resetHeld = s.resetHeld ∧ (settle s).epoch = s.epoch ∧
    (settle s).refreshElapsed = s.refreshElapsed ∧ (settle s).markerA = s.markerA ∧ (settle s).markerB = s.markerB ∧
    (settle s).lanes = s.lanes ∧ (settle s).tracks = s.tracks ∧ (settle s).maps = s.maps ∧
    (settle s).owners = s.owners ∧ (settle s).index = s.index ∧ (settle s).writePos = s.writePos ∧
    (settle s).dram = s.dram ∧ (settle s).dramCheck = s.dramCheck ∧ (settle s).check = s.check ∧
    (settle s).readout = s.readout ∧ (settle s).averagers = s.averagers ∧ (settle s).averagerRam = s.averagerRam ∧
    (settle s).pending = s.pending := by
  unfold settle
  try dsimp only
  (repeat' split) <;> simp

@[simp] theorem addBurst_frame (b : Burst) (s : State) :
    (addBurst b s).time = s.time ∧ (addBurst b s).resetHeld = s.resetHeld ∧ (addBurst b s).epoch = s.epoch ∧
    (addBurst b s).refreshElapsed = s.refreshElapsed ∧ (addBurst b s).markerA = s.markerA ∧
    (addBurst b s).markerB = s.markerB ∧ (addBurst b s).lanes = s.lanes ∧ (addBurst b s).tracks = s.tracks ∧
    (addBurst b s).maps = s.maps ∧ (addBurst b s).owners = s.owners ∧ (addBurst b s).index = s.index ∧
    (addBurst b s).writePos = s.writePos ∧ (addBurst b s).dram = s.dram ∧ (addBurst b s).dramCheck = s.dramCheck ∧
    (addBurst b s).check = s.check ∧ (addBurst b s).readout = s.readout ∧ (addBurst b s).averagers = s.averagers ∧
    (addBurst b s).averagerRam = s.averagerRam ∧ (addBurst b s).link = s.link ∧ (addBurst b s).notices = s.notices ∧
    (addBurst b s).pending = s.pending := by
  unfold addBurst
  try dsimp only
  (repeat' split) <;> simp

@[simp] theorem grantWriter_frame (t : Track) (s : State) :
    (grantWriter t s).time = s.time ∧ (grantWriter t s).resetHeld = s.resetHeld ∧ (grantWriter t s).epoch = s.epoch ∧
    (grantWriter t s).refreshElapsed = s.refreshElapsed ∧ (grantWriter t s).markerA = s.markerA ∧
    (grantWriter t s).markerB = s.markerB ∧ (grantWriter t s).lanes = s.lanes ∧ (grantWriter t s).maps = s.maps ∧
    (grantWriter t s).owners = s.owners ∧ (grantWriter t s).index = s.index ∧
    (grantWriter t s).writePos = s.writePos ∧ (grantWriter t s).dram = s.dram ∧
    (grantWriter t s).dramCheck = s.dramCheck ∧ (grantWriter t s).readout = s.readout ∧
    (grantWriter t s).averagers = s.averagers ∧ (grantWriter t s).averagerRam = s.averagerRam ∧
    (grantWriter t s).link = s.link ∧ (grantWriter t s).notices = s.notices ∧
    (grantWriter t s).pending = s.pending := by
  unfold grantWriter
  try dsimp only
  (repeat' split) <;> simp

@[simp] theorem grantRead_frame (s : State) :
    (grantRead s).time = s.time ∧ (grantRead s).resetHeld = s.resetHeld ∧ (grantRead s).epoch = s.epoch ∧
    (grantRead s).refreshElapsed = s.refreshElapsed ∧ (grantRead s).markerA = s.markerA ∧
    (grantRead s).markerB = s.markerB ∧ (grantRead s).lanes = s.lanes ∧ (grantRead s).tracks = s.tracks ∧
    (grantRead s).maps = s.maps ∧ (grantRead s).owners = s.owners ∧ (grantRead s).index = s.index ∧
    (grantRead s).writePos = s.writePos ∧ (grantRead s).dram = s.dram ∧ (grantRead s).dramCheck = s.dramCheck ∧
    (grantRead s).check = s.check ∧ (grantRead s).averagers = s.averagers ∧
    (grantRead s).averagerRam = s.averagerRam ∧ (grantRead s).link = s.link ∧ (grantRead s).notices = s.notices ∧
    (grantRead s).pending = s.pending := by
  unfold grantRead
  try dsimp only
  (repeat' split) <;> simp

@[simp] theorem grantRefresh_frame (s : State) :
    (grantRefresh s).time = s.time ∧ (grantRefresh s).resetHeld = s.resetHeld ∧ (grantRefresh s).epoch = s.epoch ∧
    (grantRefresh s).refreshElapsed = s.refreshElapsed ∧ (grantRefresh s).markerA = s.markerA ∧
    (grantRefresh s).markerB = s.markerB ∧ (grantRefresh s).lanes = s.lanes ∧ (grantRefresh s).tracks = s.tracks ∧
    (grantRefresh s).maps = s.maps ∧ (grantRefresh s).owners = s.owners ∧ (grantRefresh s).index = s.index ∧
    (grantRefresh s).writePos = s.writePos ∧ (grantRefresh s).dram = s.dram ∧
    (grantRefresh s).dramCheck = s.dramCheck ∧ (grantRefresh s).check = s.check ∧
    (grantRefresh s).readout = s.readout ∧ (grantRefresh s).averagers = s.averagers ∧
    (grantRefresh s).averagerRam = s.averagerRam ∧ (grantRefresh s).link = s.link ∧
    (grantRefresh s).notices = s.notices ∧ (grantRefresh s).pending = s.pending := by
  unfold grantRefresh
  try dsimp only
  (repeat' split) <;> simp

@[simp] theorem grantBurst_frame (s : State) :
    (grantBurst s).time = s.time ∧ (grantBurst s).resetHeld = s.resetHeld ∧ (grantBurst s).epoch = s.epoch ∧
    (grantBurst s).refreshElapsed = s.refreshElapsed ∧ (grantBurst s).markerA = s.markerA ∧
    (grantBurst s).markerB = s.markerB ∧ (grantBurst s).lanes = s.lanes ∧ (grantBurst s).maps = s.maps ∧
    (grantBurst s).owners = s.owners ∧ (grantBurst s).index = s.index ∧ (grantBurst s).writePos = s.writePos ∧
    (grantBurst s).dram = s.dram ∧ (grantBurst s).dramCheck = s.dramCheck ∧ (grantBurst s).averagers = s.averagers ∧
    (grantBurst s).averagerRam = s.averagerRam ∧ (grantBurst s).link = s.link ∧ (grantBurst s).notices = s.notices ∧
    (grantBurst s).pending = s.pending := by
  unfold grantBurst
  try dsimp only
  (repeat' split) <;> simp

@[simp] theorem arbitrate_frame (s : State) :
    (arbitrate s).time = s.time ∧ (arbitrate s).resetHeld = s.resetHeld ∧ (arbitrate s).epoch = s.epoch ∧
    (arbitrate s).refreshElapsed = s.refreshElapsed ∧ (arbitrate s).markerA = s.markerA ∧
    (arbitrate s).markerB = s.markerB ∧ (arbitrate s).lanes = s.lanes ∧ (arbitrate s).maps = s.maps ∧
    (arbitrate s).owners = s.owners ∧ (arbitrate s).index = s.index ∧ (arbitrate s).writePos = s.writePos ∧
    (arbitrate s).dram = s.dram ∧ (arbitrate s).dramCheck = s.dramCheck ∧ (arbitrate s).averagers = s.averagers ∧
    (arbitrate s).averagerRam = s.averagerRam ∧ (arbitrate s).link = s.link ∧ (arbitrate s).notices = s.notices ∧
    (arbitrate s).pending = s.pending := by
  unfold arbitrate
  try dsimp only
  (repeat' split) <;> simp

@[simp] theorem recordFault_frame (f : MemoryFaultRecord) (s : State) :
    (recordFault f s).time = s.time ∧ (recordFault f s).resetHeld = s.resetHeld ∧ (recordFault f s).epoch = s.epoch ∧
    (recordFault f s).refreshElapsed = s.refreshElapsed ∧ (recordFault f s).markerA = s.markerA ∧
    (recordFault f s).markerB = s.markerB ∧ (recordFault f s).lanes = s.lanes ∧ (recordFault f s).tracks = s.tracks ∧
    (recordFault f s).maps = s.maps ∧ (recordFault f s).owners = s.owners ∧ (recordFault f s).index = s.index ∧
    (recordFault f s).writePos = s.writePos ∧ (recordFault f s).dram = s.dram ∧
    (recordFault f s).dramCheck = s.dramCheck ∧ (recordFault f s).mem = s.mem ∧
    (recordFault f s).readout = s.readout ∧ (recordFault f s).averagers = s.averagers ∧
    (recordFault f s).averagerRam = s.averagerRam ∧ (recordFault f s).link = s.link ∧
    (recordFault f s).notices = s.notices ∧ (recordFault f s).pending = s.pending := by
  unfold recordFault
  try dsimp only
  (repeat' split) <;> simp

@[simp] theorem noteCorrected_frame (w : WordFault) (s : State) :
    (noteCorrected w s).time = s.time ∧ (noteCorrected w s).resetHeld = s.resetHeld ∧
    (noteCorrected w s).epoch = s.epoch ∧ (noteCorrected w s).refreshElapsed = s.refreshElapsed ∧
    (noteCorrected w s).markerA = s.markerA ∧ (noteCorrected w s).markerB = s.markerB ∧
    (noteCorrected w s).lanes = s.lanes ∧ (noteCorrected w s).tracks = s.tracks ∧ (noteCorrected w s).maps = s.maps ∧
    (noteCorrected w s).owners = s.owners ∧ (noteCorrected w s).index = s.index ∧
    (noteCorrected w s).writePos = s.writePos ∧ (noteCorrected w s).dram = s.dram ∧
    (noteCorrected w s).dramCheck = s.dramCheck ∧ (noteCorrected w s).mem = s.mem ∧
    (noteCorrected w s).readout = s.readout ∧ (noteCorrected w s).averagers = s.averagers ∧
    (noteCorrected w s).averagerRam = s.averagerRam ∧ (noteCorrected w s).link = s.link ∧
    (noteCorrected w s).pending = s.pending := by
  unfold noteCorrected
  try dsimp only
  (repeat' split) <;> simp

@[simp] theorem noteUncorrectable_frame (w : WordFault) (s : State) :
    (noteUncorrectable w s).time = s.time ∧ (noteUncorrectable w s).resetHeld = s.resetHeld ∧
    (noteUncorrectable w s).epoch = s.epoch ∧ (noteUncorrectable w s).refreshElapsed = s.refreshElapsed ∧
    (noteUncorrectable w s).markerA = s.markerA ∧ (noteUncorrectable w s).markerB = s.markerB ∧
    (noteUncorrectable w s).lanes = s.lanes ∧ (noteUncorrectable w s).tracks = s.tracks ∧
    (noteUncorrectable w s).maps = s.maps ∧ (noteUncorrectable w s).owners = s.owners ∧
    (noteUncorrectable w s).writePos = s.writePos ∧ (noteUncorrectable w s).dram = s.dram ∧
    (noteUncorrectable w s).dramCheck = s.dramCheck ∧ (noteUncorrectable w s).mem = s.mem ∧
    (noteUncorrectable w s).readout = s.readout ∧ (noteUncorrectable w s).averagers = s.averagers ∧
    (noteUncorrectable w s).averagerRam = s.averagerRam ∧ (noteUncorrectable w s).link = s.link ∧
    (noteUncorrectable w s).pending = s.pending := by
  unfold noteUncorrectable
  try dsimp only
  (repeat' split) <;> simp

@[simp] theorem noteWord_frame (w : WordFault) (s : State) :
    (noteWord w s).time = s.time ∧ (noteWord w s).resetHeld = s.resetHeld ∧ (noteWord w s).epoch = s.epoch ∧
    (noteWord w s).refreshElapsed = s.refreshElapsed ∧ (noteWord w s).markerA = s.markerA ∧
    (noteWord w s).markerB = s.markerB ∧ (noteWord w s).lanes = s.lanes ∧ (noteWord w s).tracks = s.tracks ∧
    (noteWord w s).maps = s.maps ∧ (noteWord w s).owners = s.owners ∧ (noteWord w s).writePos = s.writePos ∧
    (noteWord w s).dram = s.dram ∧ (noteWord w s).dramCheck = s.dramCheck ∧ (noteWord w s).mem = s.mem ∧
    (noteWord w s).readout = s.readout ∧ (noteWord w s).averagers = s.averagers ∧
    (noteWord w s).averagerRam = s.averagerRam ∧ (noteWord w s).link = s.link ∧
    (noteWord w s).pending = s.pending := by
  unfold noteWord
  try dsimp only
  (repeat' split) <;> simp

@[simp] theorem noteWords_frame (f : Nat → WordFault) (ws : List Nat) (s : State) :
    (ws.foldl (fun s' w => noteWord (f w) s') s).time = s.time ∧
    (ws.foldl (fun s' w => noteWord (f w) s') s).resetHeld = s.resetHeld ∧
    (ws.foldl (fun s' w => noteWord (f w) s') s).epoch = s.epoch ∧
    (ws.foldl (fun s' w => noteWord (f w) s') s).refreshElapsed = s.refreshElapsed ∧
    (ws.foldl (fun s' w => noteWord (f w) s') s).markerA = s.markerA ∧
    (ws.foldl (fun s' w => noteWord (f w) s') s).markerB = s.markerB ∧
    (ws.foldl (fun s' w => noteWord (f w) s') s).lanes = s.lanes ∧
    (ws.foldl (fun s' w => noteWord (f w) s') s).tracks = s.tracks ∧
    (ws.foldl (fun s' w => noteWord (f w) s') s).maps = s.maps ∧
    (ws.foldl (fun s' w => noteWord (f w) s') s).owners = s.owners ∧
    (ws.foldl (fun s' w => noteWord (f w) s') s).writePos = s.writePos ∧
    (ws.foldl (fun s' w => noteWord (f w) s') s).dram = s.dram ∧
    (ws.foldl (fun s' w => noteWord (f w) s') s).dramCheck = s.dramCheck ∧
    (ws.foldl (fun s' w => noteWord (f w) s') s).mem = s.mem ∧
    (ws.foldl (fun s' w => noteWord (f w) s') s).readout = s.readout ∧
    (ws.foldl (fun s' w => noteWord (f w) s') s).averagers = s.averagers ∧
    (ws.foldl (fun s' w => noteWord (f w) s') s).averagerRam = s.averagerRam ∧
    (ws.foldl (fun s' w => noteWord (f w) s') s).link = s.link ∧
    (ws.foldl (fun s' w => noteWord (f w) s') s).pending = s.pending := by
  induction ws generalizing s with
  | nil => simp
  | cons w ws ih => simpa using ih (noteWord (f w) s)

@[simp] theorem completeRead_frame (b : Burst) (asked : List Nat) (s : State) :
    (completeRead b asked s).time = s.time ∧ (completeRead b asked s).resetHeld = s.resetHeld ∧
    (completeRead b asked s).epoch = s.epoch ∧ (completeRead b asked s).refreshElapsed = s.refreshElapsed ∧
    (completeRead b asked s).markerA = s.markerA ∧ (completeRead b asked s).markerB = s.markerB ∧
    (completeRead b asked s).lanes = s.lanes ∧ (completeRead b asked s).tracks = s.tracks ∧
    (completeRead b asked s).maps = s.maps ∧ (completeRead b asked s).owners = s.owners ∧
    (completeRead b asked s).writePos = s.writePos ∧ (completeRead b asked s).dram = s.dram ∧
    (completeRead b asked s).dramCheck = s.dramCheck ∧ (completeRead b asked s).mem = s.mem ∧
    (completeRead b asked s).averagers = s.averagers ∧ (completeRead b asked s).averagerRam = s.averagerRam ∧
    (completeRead b asked s).link = s.link ∧ (completeRead b asked s).pending = s.pending := by
  unfold completeRead
  try dsimp only
  (repeat' split) <;> simp

@[simp] theorem completeWrite_frame (b : Burst) (samples : List Int) (inject : Option InjectKind) (s : State) :
    (completeWrite b samples inject s).time = s.time ∧ (completeWrite b samples inject s).resetHeld = s.resetHeld ∧
    (completeWrite b samples inject s).epoch = s.epoch ∧
    (completeWrite b samples inject s).refreshElapsed = s.refreshElapsed ∧
    (completeWrite b samples inject s).markerA = s.markerA ∧ (completeWrite b samples inject s).markerB = s.markerB ∧
    (completeWrite b samples inject s).lanes = s.lanes ∧ (completeWrite b samples inject s).maps = s.maps ∧
    (completeWrite b samples inject s).owners = s.owners ∧ (completeWrite b samples inject s).writePos = s.writePos ∧
    (completeWrite b samples inject s).mem = s.mem ∧ (completeWrite b samples inject s).check = s.check ∧
    (completeWrite b samples inject s).readout = s.readout ∧
    (completeWrite b samples inject s).averagers = s.averagers ∧
    (completeWrite b samples inject s).averagerRam = s.averagerRam ∧
    (completeWrite b samples inject s).link = s.link ∧ (completeWrite b samples inject s).pending = s.pending := by
  unfold completeWrite
  try dsimp only
  (repeat' split) <;> simp

@[simp] theorem completeTransfer_frame (s : State) :
    (completeTransfer s).time = s.time ∧ (completeTransfer s).resetHeld = s.resetHeld ∧
    (completeTransfer s).epoch = s.epoch ∧ (completeTransfer s).refreshElapsed = s.refreshElapsed ∧
    (completeTransfer s).markerA = s.markerA ∧ (completeTransfer s).markerB = s.markerB ∧
    (completeTransfer s).lanes = s.lanes ∧ (completeTransfer s).maps = s.maps ∧
    (completeTransfer s).owners = s.owners ∧ (completeTransfer s).writePos = s.writePos ∧
    (completeTransfer s).averagers = s.averagers ∧ (completeTransfer s).averagerRam = s.averagerRam ∧
    (completeTransfer s).link = s.link ∧ (completeTransfer s).pending = s.pending := by
  unfold completeTransfer
  try dsimp only
  (repeat' split) <;> simp

/-! ## Tracks and lanes -/

@[simp] theorem activateSet_frame (t : Track) (a : ParamSet) (s : State) :
    (activateSet t a s).time = s.time ∧ (activateSet t a s).resetHeld = s.resetHeld ∧
    (activateSet t a s).epoch = s.epoch ∧ (activateSet t a s).refreshElapsed = s.refreshElapsed ∧
    (activateSet t a s).markerA = s.markerA ∧ (activateSet t a s).markerB = s.markerB ∧
    (activateSet t a s).lanes = s.lanes ∧ (activateSet t a s).maps = s.maps ∧ (activateSet t a s).owners = s.owners ∧
    (activateSet t a s).index = s.index ∧ (activateSet t a s).writePos = s.writePos ∧
    (activateSet t a s).dram = s.dram ∧ (activateSet t a s).dramCheck = s.dramCheck ∧
    (activateSet t a s).check = s.check ∧ (activateSet t a s).link = s.link ∧
    (activateSet t a s).notices = s.notices ∧ (activateSet t a s).pending = s.pending := by
  unfold activateSet
  try dsimp only
  (repeat' split) <;> simp

@[simp] theorem postStopped_frame (t : Track) (reason : StopReason) (s : State) :
    (postStopped t reason s).time = s.time ∧ (postStopped t reason s).resetHeld = s.resetHeld ∧
    (postStopped t reason s).epoch = s.epoch ∧ (postStopped t reason s).refreshElapsed = s.refreshElapsed ∧
    (postStopped t reason s).markerA = s.markerA ∧ (postStopped t reason s).markerB = s.markerB ∧
    (postStopped t reason s).lanes = s.lanes ∧ (postStopped t reason s).tracks = s.tracks ∧
    (postStopped t reason s).maps = s.maps ∧ (postStopped t reason s).owners = s.owners ∧
    (postStopped t reason s).index = s.index ∧ (postStopped t reason s).writePos = s.writePos ∧
    (postStopped t reason s).dram = s.dram ∧ (postStopped t reason s).dramCheck = s.dramCheck ∧
    (postStopped t reason s).mem = s.mem ∧ (postStopped t reason s).check = s.check ∧
    (postStopped t reason s).readout = s.readout ∧ (postStopped t reason s).averagers = s.averagers ∧
    (postStopped t reason s).averagerRam = s.averagerRam ∧ (postStopped t reason s).link = s.link ∧
    (postStopped t reason s).pending = s.pending := by
  unfold postStopped
  try dsimp only
  (repeat' split) <;> simp

@[simp] theorem unbind_frame (t : Track) (st : TrackState) (s : State) :
    (unbind t st s).time = s.time ∧ (unbind t st s).resetHeld = s.resetHeld ∧ (unbind t st s).epoch = s.epoch ∧
    (unbind t st s).refreshElapsed = s.refreshElapsed ∧ (unbind t st s).markerA = s.markerA ∧
    (unbind t st s).markerB = s.markerB ∧ (unbind t st s).lanes = s.lanes ∧ (unbind t st s).maps = s.maps ∧
    (unbind t st s).owners = s.owners ∧ (unbind t st s).index = s.index ∧ (unbind t st s).writePos = s.writePos ∧
    (unbind t st s).dram = s.dram ∧ (unbind t st s).dramCheck = s.dramCheck ∧ (unbind t st s).mem = s.mem ∧
    (unbind t st s).check = s.check ∧ (unbind t st s).readout = s.readout ∧ (unbind t st s).averagers = s.averagers ∧
    (unbind t st s).averagerRam = s.averagerRam ∧ (unbind t st s).link = s.link ∧
    (unbind t st s).notices = s.notices ∧ (unbind t st s).pending = s.pending := by
  unfold unbind
  try dsimp only
  (repeat' split) <;> simp

@[simp] theorem setTrackState_frame (t : Track) (st : TrackState) (s : State) :
    (setTrackState t st s).time = s.time ∧ (setTrackState t st s).resetHeld = s.resetHeld ∧
    (setTrackState t st s).epoch = s.epoch ∧ (setTrackState t st s).refreshElapsed = s.refreshElapsed ∧
    (setTrackState t st s).markerA = s.markerA ∧ (setTrackState t st s).markerB = s.markerB ∧
    (setTrackState t st s).lanes = s.lanes ∧ (setTrackState t st s).maps = s.maps ∧
    (setTrackState t st s).owners = s.owners ∧ (setTrackState t st s).index = s.index ∧
    (setTrackState t st s).writePos = s.writePos ∧ (setTrackState t st s).dram = s.dram ∧
    (setTrackState t st s).dramCheck = s.dramCheck ∧ (setTrackState t st s).mem = s.mem ∧
    (setTrackState t st s).check = s.check ∧ (setTrackState t st s).readout = s.readout ∧
    (setTrackState t st s).averagers = s.averagers ∧ (setTrackState t st s).averagerRam = s.averagerRam ∧
    (setTrackState t st s).link = s.link ∧ (setTrackState t st s).notices = s.notices ∧
    (setTrackState t st s).pending = s.pending := by
  unfold setTrackState
  try dsimp only
  (repeat' split) <;> simp

@[simp] theorem addBaseline_frame (t : Track) (pos : Nat) (v : Int) (s : State) :
    (addBaseline t pos v s).time = s.time ∧ (addBaseline t pos v s).resetHeld = s.resetHeld ∧
    (addBaseline t pos v s).epoch = s.epoch ∧ (addBaseline t pos v s).refreshElapsed = s.refreshElapsed ∧
    (addBaseline t pos v s).markerA = s.markerA ∧ (addBaseline t pos v s).markerB = s.markerB ∧
    (addBaseline t pos v s).tracks = s.tracks ∧ (addBaseline t pos v s).maps = s.maps ∧
    (addBaseline t pos v s).owners = s.owners ∧ (addBaseline t pos v s).index = s.index ∧
    (addBaseline t pos v s).writePos = s.writePos ∧ (addBaseline t pos v s).dram = s.dram ∧
    (addBaseline t pos v s).dramCheck = s.dramCheck ∧ (addBaseline t pos v s).mem = s.mem ∧
    (addBaseline t pos v s).check = s.check ∧ (addBaseline t pos v s).readout = s.readout ∧
    (addBaseline t pos v s).averagers = s.averagers ∧ (addBaseline t pos v s).averagerRam = s.averagerRam ∧
    (addBaseline t pos v s).link = s.link ∧ (addBaseline t pos v s).notices = s.notices ∧
    (addBaseline t pos v s).pending = s.pending := by
  unfold addBaseline
  try dsimp only
  (repeat' split) <;> simp

@[simp] theorem closeBaseline_frame (t : Track) (pos : Nat) (s : State) :
    (closeBaseline t pos s).time = s.time ∧ (closeBaseline t pos s).resetHeld = s.resetHeld ∧
    (closeBaseline t pos s).epoch = s.epoch ∧ (closeBaseline t pos s).refreshElapsed = s.refreshElapsed ∧
    (closeBaseline t pos s).markerA = s.markerA ∧ (closeBaseline t pos s).markerB = s.markerB ∧
    (closeBaseline t pos s).maps = s.maps ∧ (closeBaseline t pos s).owners = s.owners ∧
    (closeBaseline t pos s).index = s.index ∧ (closeBaseline t pos s).writePos = s.writePos ∧
    (closeBaseline t pos s).dram = s.dram ∧ (closeBaseline t pos s).dramCheck = s.dramCheck ∧
    (closeBaseline t pos s).mem = s.mem ∧ (closeBaseline t pos s).check = s.check ∧
    (closeBaseline t pos s).readout = s.readout ∧ (closeBaseline t pos s).averagers = s.averagers ∧
    (closeBaseline t pos s).averagerRam = s.averagerRam ∧ (closeBaseline t pos s).link = s.link ∧
    (closeBaseline t pos s).notices = s.notices ∧ (closeBaseline t pos s).pending = s.pending := by
  unfold closeBaseline
  try dsimp only
  (repeat' split) <;> simp

@[simp] theorem losePosition_frame (t : Track) (pos : Nat) (s : State) :
    (losePosition t pos s).time = s.time ∧ (losePosition t pos s).resetHeld = s.resetHeld ∧
    (losePosition t pos s).epoch = s.epoch ∧ (losePosition t pos s).refreshElapsed = s.refreshElapsed ∧
    (losePosition t pos s).markerA = s.markerA ∧ (losePosition t pos s).markerB = s.markerB ∧
    (losePosition t pos s).maps = s.maps ∧ (losePosition t pos s).owners = s.owners ∧
    (losePosition t pos s).writePos = s.writePos ∧ (losePosition t pos s).dram = s.dram ∧
    (losePosition t pos s).dramCheck = s.dramCheck ∧ (losePosition t pos s).mem = s.mem ∧
    (losePosition t pos s).check = s.check ∧ (losePosition t pos s).readout = s.readout ∧
    (losePosition t pos s).averagers = s.averagers ∧ (losePosition t pos s).averagerRam = s.averagerRam ∧
    (losePosition t pos s).link = s.link ∧ (losePosition t pos s).notices = s.notices ∧
    (losePosition t pos s).pending = s.pending := by
  unfold losePosition
  try dsimp only
  (repeat' split) <;> simp

@[simp] theorem losePositions_frame (t : Track) (ps : List Nat) (s : State) :
    (losePositions t ps s).time = s.time ∧ (losePositions t ps s).resetHeld = s.resetHeld ∧
    (losePositions t ps s).epoch = s.epoch ∧ (losePositions t ps s).refreshElapsed = s.refreshElapsed ∧
    (losePositions t ps s).markerA = s.markerA ∧ (losePositions t ps s).markerB = s.markerB ∧
    (losePositions t ps s).maps = s.maps ∧ (losePositions t ps s).owners = s.owners ∧
    (losePositions t ps s).writePos = s.writePos ∧ (losePositions t ps s).dram = s.dram ∧
    (losePositions t ps s).dramCheck = s.dramCheck ∧ (losePositions t ps s).mem = s.mem ∧
    (losePositions t ps s).check = s.check ∧ (losePositions t ps s).readout = s.readout ∧
    (losePositions t ps s).averagers = s.averagers ∧ (losePositions t ps s).averagerRam = s.averagerRam ∧
    (losePositions t ps s).link = s.link ∧ (losePositions t ps s).notices = s.notices ∧
    (losePositions t ps s).pending = s.pending := by
  induction ps generalizing s with
  | nil => simp [losePositions]
  | cons p ps ih =>
    have h := ih (losePosition t p s)
    simp only [losePositions, List.foldl_cons] at h ⊢
    simpa using h

@[simp] theorem issueStrobe_frame (t : Track) (pos : Nat) (s : State) :
    (issueStrobe t pos s).time = s.time ∧ (issueStrobe t pos s).resetHeld = s.resetHeld ∧
    (issueStrobe t pos s).epoch = s.epoch ∧ (issueStrobe t pos s).refreshElapsed = s.refreshElapsed ∧
    (issueStrobe t pos s).markerA = s.markerA ∧ (issueStrobe t pos s).markerB = s.markerB ∧
    (issueStrobe t pos s).maps = s.maps ∧ (issueStrobe t pos s).owners = s.owners ∧
    (issueStrobe t pos s).writePos = s.writePos ∧ (issueStrobe t pos s).dram = s.dram ∧
    (issueStrobe t pos s).dramCheck = s.dramCheck ∧ (issueStrobe t pos s).mem = s.mem ∧
    (issueStrobe t pos s).check = s.check ∧ (issueStrobe t pos s).readout = s.readout ∧
    (issueStrobe t pos s).averagers = s.averagers ∧ (issueStrobe t pos s).averagerRam = s.averagerRam ∧
    (issueStrobe t pos s).link = s.link ∧ (issueStrobe t pos s).notices = s.notices ∧
    (issueStrobe t pos s).pending = s.pending := by
  unfold issueStrobe
  try dsimp only
  (repeat' split) <;> simp

@[simp] theorem putSchedule_frame (t : Track) (sch : Option Schedule) (s : State) :
    (putSchedule t sch s).time = s.time ∧ (putSchedule t sch s).resetHeld = s.resetHeld ∧
    (putSchedule t sch s).epoch = s.epoch ∧ (putSchedule t sch s).refreshElapsed = s.refreshElapsed ∧
    (putSchedule t sch s).markerA = s.markerA ∧ (putSchedule t sch s).markerB = s.markerB ∧
    (putSchedule t sch s).lanes = s.lanes ∧ (putSchedule t sch s).maps = s.maps ∧
    (putSchedule t sch s).owners = s.owners ∧ (putSchedule t sch s).index = s.index ∧
    (putSchedule t sch s).writePos = s.writePos ∧ (putSchedule t sch s).dram = s.dram ∧
    (putSchedule t sch s).dramCheck = s.dramCheck ∧ (putSchedule t sch s).mem = s.mem ∧
    (putSchedule t sch s).check = s.check ∧ (putSchedule t sch s).readout = s.readout ∧
    (putSchedule t sch s).averagers = s.averagers ∧ (putSchedule t sch s).averagerRam = s.averagerRam ∧
    (putSchedule t sch s).link = s.link ∧ (putSchedule t sch s).notices = s.notices ∧
    (putSchedule t sch s).pending = s.pending := by
  unfold putSchedule
  try dsimp only
  (repeat' split) <;> simp

@[simp] theorem issueCatchUp_frame (t : Track) (s : State) :
    (issueCatchUp t s).time = s.time ∧ (issueCatchUp t s).resetHeld = s.resetHeld ∧
    (issueCatchUp t s).epoch = s.epoch ∧ (issueCatchUp t s).refreshElapsed = s.refreshElapsed ∧
    (issueCatchUp t s).markerA = s.markerA ∧ (issueCatchUp t s).markerB = s.markerB ∧
    (issueCatchUp t s).maps = s.maps ∧ (issueCatchUp t s).owners = s.owners ∧
    (issueCatchUp t s).writePos = s.writePos ∧ (issueCatchUp t s).dram = s.dram ∧
    (issueCatchUp t s).dramCheck = s.dramCheck ∧ (issueCatchUp t s).mem = s.mem ∧ (issueCatchUp t s).check = s.check ∧
    (issueCatchUp t s).readout = s.readout ∧ (issueCatchUp t s).averagers = s.averagers ∧
    (issueCatchUp t s).averagerRam = s.averagerRam ∧ (issueCatchUp t s).link = s.link ∧
    (issueCatchUp t s).notices = s.notices ∧ (issueCatchUp t s).pending = s.pending := by
  unfold issueCatchUp
  try dsimp only
  (repeat' split) <;> simp

@[simp] theorem makeSchedule_frame (t : Track) (t0 : Time) (estimate : Nat) (s : State) :
    (makeSchedule t t0 estimate s).time = s.time ∧ (makeSchedule t t0 estimate s).resetHeld = s.resetHeld ∧
    (makeSchedule t t0 estimate s).epoch = s.epoch ∧
    (makeSchedule t t0 estimate s).refreshElapsed = s.refreshElapsed ∧
    (makeSchedule t t0 estimate s).markerA = s.markerA ∧ (makeSchedule t t0 estimate s).markerB = s.markerB ∧
    (makeSchedule t t0 estimate s).maps = s.maps ∧ (makeSchedule t t0 estimate s).owners = s.owners ∧
    (makeSchedule t t0 estimate s).writePos = s.writePos ∧ (makeSchedule t t0 estimate s).dram = s.dram ∧
    (makeSchedule t t0 estimate s).dramCheck = s.dramCheck ∧ (makeSchedule t t0 estimate s).mem = s.mem ∧
    (makeSchedule t t0 estimate s).check = s.check ∧ (makeSchedule t t0 estimate s).readout = s.readout ∧
    (makeSchedule t t0 estimate s).averagers = s.averagers ∧
    (makeSchedule t t0 estimate s).averagerRam = s.averagerRam ∧ (makeSchedule t t0 estimate s).link = s.link ∧
    (makeSchedule t t0 estimate s).notices = s.notices ∧ (makeSchedule t t0 estimate s).pending = s.pending := by
  unfold makeSchedule
  try dsimp only
  (repeat' split) <;> simp

@[simp] theorem endCatchUp_frame (t : Track) (sch : Schedule) (s : State) :
    (endCatchUp t sch s).time = s.time ∧ (endCatchUp t sch s).resetHeld = s.resetHeld ∧
    (endCatchUp t sch s).epoch = s.epoch ∧ (endCatchUp t sch s).refreshElapsed = s.refreshElapsed ∧
    (endCatchUp t sch s).markerA = s.markerA ∧ (endCatchUp t sch s).markerB = s.markerB ∧
    (endCatchUp t sch s).maps = s.maps ∧ (endCatchUp t sch s).owners = s.owners ∧
    (endCatchUp t sch s).writePos = s.writePos ∧ (endCatchUp t sch s).dram = s.dram ∧
    (endCatchUp t sch s).dramCheck = s.dramCheck ∧ (endCatchUp t sch s).mem = s.mem ∧
    (endCatchUp t sch s).check = s.check ∧ (endCatchUp t sch s).readout = s.readout ∧
    (endCatchUp t sch s).averagers = s.averagers ∧ (endCatchUp t sch s).averagerRam = s.averagerRam ∧
    (endCatchUp t sch s).link = s.link ∧ (endCatchUp t sch s).notices = s.notices ∧
    (endCatchUp t sch s).pending = s.pending := by
  unfold endCatchUp
  try dsimp only
  (repeat' split) <;> simp

@[simp] theorem issueRegular_frame (t : Track) (sch : Schedule) (pos : Nat) (s : State) :
    (issueRegular t sch pos s).time = s.time ∧ (issueRegular t sch pos s).resetHeld = s.resetHeld ∧
    (issueRegular t sch pos s).epoch = s.epoch ∧ (issueRegular t sch pos s).refreshElapsed = s.refreshElapsed ∧
    (issueRegular t sch pos s).markerA = s.markerA ∧ (issueRegular t sch pos s).markerB = s.markerB ∧
    (issueRegular t sch pos s).maps = s.maps ∧ (issueRegular t sch pos s).owners = s.owners ∧
    (issueRegular t sch pos s).writePos = s.writePos ∧ (issueRegular t sch pos s).dram = s.dram ∧
    (issueRegular t sch pos s).dramCheck = s.dramCheck ∧ (issueRegular t sch pos s).mem = s.mem ∧
    (issueRegular t sch pos s).check = s.check ∧ (issueRegular t sch pos s).readout = s.readout ∧
    (issueRegular t sch pos s).averagers = s.averagers ∧ (issueRegular t sch pos s).averagerRam = s.averagerRam ∧
    (issueRegular t sch pos s).link = s.link ∧ (issueRegular t sch pos s).notices = s.notices ∧
    (issueRegular t sch pos s).pending = s.pending := by
  unfold issueRegular
  try dsimp only
  (repeat' split) <;> simp

@[simp] theorem stopLane_frame (t : Track) (s : State) :
    (stopLane t s).time = s.time ∧ (stopLane t s).resetHeld = s.resetHeld ∧ (stopLane t s).epoch = s.epoch ∧
    (stopLane t s).refreshElapsed = s.refreshElapsed ∧ (stopLane t s).markerA = s.markerA ∧
    (stopLane t s).markerB = s.markerB ∧ (stopLane t s).maps = s.maps ∧ (stopLane t s).owners = s.owners ∧
    (stopLane t s).index = s.index ∧ (stopLane t s).writePos = s.writePos ∧ (stopLane t s).dram = s.dram ∧
    (stopLane t s).dramCheck = s.dramCheck ∧ (stopLane t s).mem = s.mem ∧ (stopLane t s).check = s.check ∧
    (stopLane t s).readout = s.readout ∧ (stopLane t s).averagers = s.averagers ∧
    (stopLane t s).averagerRam = s.averagerRam ∧ (stopLane t s).link = s.link ∧ (stopLane t s).notices = s.notices ∧
    (stopLane t s).pending = s.pending := by
  unfold stopLane
  try dsimp only
  (repeat' split) <;> simp

@[simp] theorem reachDraining_frame (t : Track) (r : SweepRecord) (short : Bool) (s : State) :
    (reachDraining t r short s).time = s.time ∧ (reachDraining t r short s).resetHeld = s.resetHeld ∧
    (reachDraining t r short s).epoch = s.epoch ∧ (reachDraining t r short s).refreshElapsed = s.refreshElapsed ∧
    (reachDraining t r short s).markerA = s.markerA ∧ (reachDraining t r short s).markerB = s.markerB ∧
    (reachDraining t r short s).maps = s.maps ∧ (reachDraining t r short s).owners = s.owners ∧
    (reachDraining t r short s).writePos = s.writePos ∧ (reachDraining t r short s).dram = s.dram ∧
    (reachDraining t r short s).dramCheck = s.dramCheck ∧ (reachDraining t r short s).mem = s.mem ∧
    (reachDraining t r short s).check = s.check ∧ (reachDraining t r short s).link = s.link ∧
    (reachDraining t r short s).notices = s.notices ∧ (reachDraining t r short s).pending = s.pending := by
  unfold reachDraining
  try dsimp only
  (repeat' split) <;> simp

@[simp] theorem goIdle_frame (t : Track) (reason : StopReason) (s : State) :
    (goIdle t reason s).time = s.time ∧ (goIdle t reason s).resetHeld = s.resetHeld ∧
    (goIdle t reason s).epoch = s.epoch ∧ (goIdle t reason s).refreshElapsed = s.refreshElapsed ∧
    (goIdle t reason s).markerA = s.markerA ∧ (goIdle t reason s).markerB = s.markerB ∧
    (goIdle t reason s).lanes = s.lanes ∧ (goIdle t reason s).maps = s.maps ∧ (goIdle t reason s).owners = s.owners ∧
    (goIdle t reason s).index = s.index ∧ (goIdle t reason s).writePos = s.writePos ∧
    (goIdle t reason s).dram = s.dram ∧ (goIdle t reason s).dramCheck = s.dramCheck ∧
    (goIdle t reason s).mem = s.mem ∧ (goIdle t reason s).check = s.check ∧ (goIdle t reason s).readout = s.readout ∧
    (goIdle t reason s).averagers = s.averagers ∧ (goIdle t reason s).averagerRam = s.averagerRam ∧
    (goIdle t reason s).link = s.link ∧ (goIdle t reason s).pending = s.pending := by
  unfold goIdle
  try dsimp only
  (repeat' split) <;> simp

@[simp] theorem afterCapture_frame (t : Track) (s : State) :
    (afterCapture t s).time = s.time ∧ (afterCapture t s).resetHeld = s.resetHeld ∧
    (afterCapture t s).epoch = s.epoch ∧ (afterCapture t s).refreshElapsed = s.refreshElapsed ∧
    (afterCapture t s).markerA = s.markerA ∧ (afterCapture t s).markerB = s.markerB ∧
    (afterCapture t s).lanes = s.lanes ∧ (afterCapture t s).maps = s.maps ∧ (afterCapture t s).owners = s.owners ∧
    (afterCapture t s).index = s.index ∧ (afterCapture t s).writePos = s.writePos ∧ (afterCapture t s).dram = s.dram ∧
    (afterCapture t s).dramCheck = s.dramCheck ∧ (afterCapture t s).mem = s.mem ∧ (afterCapture t s).check = s.check ∧
    (afterCapture t s).readout = s.readout ∧ (afterCapture t s).averagers = s.averagers ∧
    (afterCapture t s).averagerRam = s.averagerRam ∧ (afterCapture t s).link = s.link ∧
    (afterCapture t s).pending = s.pending := by
  unfold afterCapture
  try dsimp only
  (repeat' split) <;> simp

@[simp] theorem endCapture_frame (t : Track) (s : State) :
    (endCapture t s).time = s.time ∧ (endCapture t s).resetHeld = s.resetHeld ∧ (endCapture t s).epoch = s.epoch ∧
    (endCapture t s).refreshElapsed = s.refreshElapsed ∧ (endCapture t s).markerA = s.markerA ∧
    (endCapture t s).markerB = s.markerB ∧ (endCapture t s).maps = s.maps ∧ (endCapture t s).owners = s.owners ∧
    (endCapture t s).writePos = s.writePos ∧ (endCapture t s).dram = s.dram ∧
    (endCapture t s).dramCheck = s.dramCheck ∧ (endCapture t s).mem = s.mem ∧ (endCapture t s).check = s.check ∧
    (endCapture t s).link = s.link ∧ (endCapture t s).pending = s.pending := by
  unfold endCapture
  try dsimp only
  (repeat' split) <;> simp

@[simp] theorem removeFilling_frame (t : Track) (s : State) :
    (removeFilling t s).time = s.time ∧ (removeFilling t s).resetHeld = s.resetHeld ∧
    (removeFilling t s).epoch = s.epoch ∧ (removeFilling t s).refreshElapsed = s.refreshElapsed ∧
    (removeFilling t s).markerA = s.markerA ∧ (removeFilling t s).markerB = s.markerB ∧
    (removeFilling t s).owners = s.owners ∧ (removeFilling t s).writePos = s.writePos ∧
    (removeFilling t s).dram = s.dram ∧ (removeFilling t s).dramCheck = s.dramCheck ∧
    (removeFilling t s).check = s.check ∧ (removeFilling t s).link = s.link ∧
    (removeFilling t s).notices = s.notices ∧ (removeFilling t s).pending = s.pending := by
  unfold removeFilling
  try dsimp only
  (repeat' split) <;> simp

@[simp] theorem haltTrack_frame (t : Track) (reason : HaltReason) (s : State) :
    (haltTrack t reason s).time = s.time ∧ (haltTrack t reason s).resetHeld = s.resetHeld ∧
    (haltTrack t reason s).epoch = s.epoch ∧ (haltTrack t reason s).refreshElapsed = s.refreshElapsed ∧
    (haltTrack t reason s).markerA = s.markerA ∧ (haltTrack t reason s).markerB = s.markerB ∧
    (haltTrack t reason s).lanes = s.lanes ∧ (haltTrack t reason s).maps = s.maps ∧
    (haltTrack t reason s).owners = s.owners ∧ (haltTrack t reason s).index = s.index ∧
    (haltTrack t reason s).writePos = s.writePos ∧ (haltTrack t reason s).dram = s.dram ∧
    (haltTrack t reason s).dramCheck = s.dramCheck ∧ (haltTrack t reason s).mem = s.mem ∧
    (haltTrack t reason s).check = s.check ∧ (haltTrack t reason s).readout = s.readout ∧
    (haltTrack t reason s).averagers = s.averagers ∧ (haltTrack t reason s).averagerRam = s.averagerRam ∧
    (haltTrack t reason s).link = s.link ∧ (haltTrack t reason s).pending = s.pending := by
  unfold haltTrack
  try dsimp only
  (repeat' split) <;> simp

@[simp] theorem openSweep_frame (t : Track) (ev : MarkerEvent) (c : Nat) (s : State) :
    (openSweep t ev c s).time = s.time ∧ (openSweep t ev c s).resetHeld = s.resetHeld ∧
    (openSweep t ev c s).epoch = s.epoch ∧ (openSweep t ev c s).refreshElapsed = s.refreshElapsed ∧
    (openSweep t ev c s).markerA = s.markerA ∧ (openSweep t ev c s).markerB = s.markerB ∧
    (openSweep t ev c s).maps = s.maps ∧ (openSweep t ev c s).owners = s.owners ∧
    (openSweep t ev c s).writePos = s.writePos ∧ (openSweep t ev c s).dram = s.dram ∧
    (openSweep t ev c s).dramCheck = s.dramCheck ∧ (openSweep t ev c s).mem = s.mem ∧
    (openSweep t ev c s).check = s.check ∧ (openSweep t ev c s).readout = s.readout ∧
    (openSweep t ev c s).averagerRam = s.averagerRam ∧ (openSweep t ev c s).link = s.link ∧
    (openSweep t ev c s).notices = s.notices ∧ (openSweep t ev c s).pending = s.pending := by
  unfold openSweep
  try dsimp only
  (repeat' split) <;> simp

@[simp] theorem continueStart_frame (t : Track) (ev : MarkerEvent) (s : State) :
    (continueStart t ev s).time = s.time ∧ (continueStart t ev s).resetHeld = s.resetHeld ∧
    (continueStart t ev s).epoch = s.epoch ∧ (continueStart t ev s).refreshElapsed = s.refreshElapsed ∧
    (continueStart t ev s).markerA = s.markerA ∧ (continueStart t ev s).markerB = s.markerB ∧
    (continueStart t ev s).owners = s.owners ∧ (continueStart t ev s).dram = s.dram ∧
    (continueStart t ev s).dramCheck = s.dramCheck ∧ (continueStart t ev s).check = s.check ∧
    (continueStart t ev s).link = s.link ∧ (continueStart t ev s).pending = s.pending := by
  unfold continueStart
  try dsimp only
  (repeat' split) <;> simp

@[simp] theorem holdBack_frame (t : Track) (s : State) :
    (holdBack t s).time = s.time ∧ (holdBack t s).resetHeld = s.resetHeld ∧ (holdBack t s).epoch = s.epoch ∧
    (holdBack t s).refreshElapsed = s.refreshElapsed ∧ (holdBack t s).markerA = s.markerA ∧
    (holdBack t s).markerB = s.markerB ∧ (holdBack t s).lanes = s.lanes ∧ (holdBack t s).maps = s.maps ∧
    (holdBack t s).owners = s.owners ∧ (holdBack t s).index = s.index ∧ (holdBack t s).writePos = s.writePos ∧
    (holdBack t s).dram = s.dram ∧ (holdBack t s).dramCheck = s.dramCheck ∧ (holdBack t s).mem = s.mem ∧
    (holdBack t s).check = s.check ∧ (holdBack t s).readout = s.readout ∧ (holdBack t s).averagers = s.averagers ∧
    (holdBack t s).averagerRam = s.averagerRam ∧ (holdBack t s).link = s.link ∧ (holdBack t s).notices = s.notices ∧
    (holdBack t s).pending = s.pending := by
  unfold holdBack
  try dsimp only
  (repeat' split) <;> simp

@[simp] theorem startOrHold_frame (t : Track) (ev : MarkerEvent) (s : State) :
    (startOrHold t ev s).time = s.time ∧ (startOrHold t ev s).resetHeld = s.resetHeld ∧
    (startOrHold t ev s).epoch = s.epoch ∧ (startOrHold t ev s).refreshElapsed = s.refreshElapsed ∧
    (startOrHold t ev s).markerA = s.markerA ∧ (startOrHold t ev s).markerB = s.markerB ∧
    (startOrHold t ev s).owners = s.owners ∧ (startOrHold t ev s).dram = s.dram ∧
    (startOrHold t ev s).dramCheck = s.dramCheck ∧ (startOrHold t ev s).check = s.check ∧
    (startOrHold t ev s).link = s.link ∧ (startOrHold t ev s).pending = s.pending := by
  unfold startOrHold
  try dsimp only
  (repeat' split) <;> simp

@[simp] theorem startSweep_frame (t : Track) (ev : MarkerEvent) (s : State) :
    (startSweep t ev s).time = s.time ∧ (startSweep t ev s).resetHeld = s.resetHeld ∧
    (startSweep t ev s).epoch = s.epoch ∧ (startSweep t ev s).refreshElapsed = s.refreshElapsed ∧
    (startSweep t ev s).markerA = s.markerA ∧ (startSweep t ev s).markerB = s.markerB ∧
    (startSweep t ev s).owners = s.owners ∧ (startSweep t ev s).dram = s.dram ∧
    (startSweep t ev s).dramCheck = s.dramCheck ∧ (startSweep t ev s).check = s.check ∧
    (startSweep t ev s).link = s.link ∧ (startSweep t ev s).pending = s.pending := by
  unfold startSweep
  try dsimp only
  (repeat' split) <;> simp

@[simp] theorem endStopping_frame (t : Track) (s : State) :
    (endStopping t s).time = s.time ∧ (endStopping t s).resetHeld = s.resetHeld ∧ (endStopping t s).epoch = s.epoch ∧
    (endStopping t s).refreshElapsed = s.refreshElapsed ∧ (endStopping t s).markerA = s.markerA ∧
    (endStopping t s).markerB = s.markerB ∧ (endStopping t s).maps = s.maps ∧ (endStopping t s).owners = s.owners ∧
    (endStopping t s).writePos = s.writePos ∧ (endStopping t s).dram = s.dram ∧
    (endStopping t s).dramCheck = s.dramCheck ∧ (endStopping t s).mem = s.mem ∧ (endStopping t s).check = s.check ∧
    (endStopping t s).link = s.link ∧ (endStopping t s).pending = s.pending := by
  unfold endStopping
  try dsimp only
  (repeat' split) <;> simp

@[simp] theorem setPrevMarker_frame (t : Track) (time : Time) (s : State) :
    (setPrevMarker t time s).time = s.time ∧ (setPrevMarker t time s).resetHeld = s.resetHeld ∧
    (setPrevMarker t time s).epoch = s.epoch ∧ (setPrevMarker t time s).refreshElapsed = s.refreshElapsed ∧
    (setPrevMarker t time s).markerA = s.markerA ∧ (setPrevMarker t time s).markerB = s.markerB ∧
    (setPrevMarker t time s).lanes = s.lanes ∧ (setPrevMarker t time s).maps = s.maps ∧
    (setPrevMarker t time s).owners = s.owners ∧ (setPrevMarker t time s).index = s.index ∧
    (setPrevMarker t time s).writePos = s.writePos ∧ (setPrevMarker t time s).dram = s.dram ∧
    (setPrevMarker t time s).dramCheck = s.dramCheck ∧ (setPrevMarker t time s).mem = s.mem ∧
    (setPrevMarker t time s).check = s.check ∧ (setPrevMarker t time s).readout = s.readout ∧
    (setPrevMarker t time s).averagers = s.averagers ∧ (setPrevMarker t time s).averagerRam = s.averagerRam ∧
    (setPrevMarker t time s).link = s.link ∧ (setPrevMarker t time s).notices = s.notices ∧
    (setPrevMarker t time s).pending = s.pending := by
  unfold setPrevMarker
  try dsimp only
  (repeat' split) <;> simp

@[simp] theorem takeEvent_frame (ev : MarkerEvent) (t : Track) (s : State) :
    (takeEvent ev t s).time = s.time ∧ (takeEvent ev t s).resetHeld = s.resetHeld ∧
    (takeEvent ev t s).epoch = s.epoch ∧ (takeEvent ev t s).refreshElapsed = s.refreshElapsed ∧
    (takeEvent ev t s).markerA = s.markerA ∧ (takeEvent ev t s).markerB = s.markerB ∧
    (takeEvent ev t s).owners = s.owners ∧ (takeEvent ev t s).dram = s.dram ∧
    (takeEvent ev t s).dramCheck = s.dramCheck ∧ (takeEvent ev t s).check = s.check ∧
    (takeEvent ev t s).link = s.link ∧ (takeEvent ev t s).pending = s.pending := by
  unfold takeEvent
  try dsimp only
  (repeat' split) <;> simp

@[simp] theorem takeLock_frame (unit : MarkerId) (t : Track) (s : State) :
    (takeLock unit t s).time = s.time ∧ (takeLock unit t s).resetHeld = s.resetHeld ∧
    (takeLock unit t s).epoch = s.epoch ∧ (takeLock unit t s).refreshElapsed = s.refreshElapsed ∧
    (takeLock unit t s).markerA = s.markerA ∧ (takeLock unit t s).markerB = s.markerB ∧
    (takeLock unit t s).lanes = s.lanes ∧ (takeLock unit t s).maps = s.maps ∧ (takeLock unit t s).owners = s.owners ∧
    (takeLock unit t s).index = s.index ∧ (takeLock unit t s).writePos = s.writePos ∧
    (takeLock unit t s).dram = s.dram ∧ (takeLock unit t s).dramCheck = s.dramCheck ∧
    (takeLock unit t s).mem = s.mem ∧ (takeLock unit t s).check = s.check ∧ (takeLock unit t s).readout = s.readout ∧
    (takeLock unit t s).averagers = s.averagers ∧ (takeLock unit t s).averagerRam = s.averagerRam ∧
    (takeLock unit t s).link = s.link ∧ (takeLock unit t s).notices = s.notices ∧
    (takeLock unit t s).pending = s.pending := by
  unfold takeLock
  try dsimp only
  (repeat' split) <;> simp

@[simp] theorem reselect_frame (t : Track) (s : State) :
    (reselect t s).time = s.time ∧ (reselect t s).resetHeld = s.resetHeld ∧ (reselect t s).epoch = s.epoch ∧
    (reselect t s).refreshElapsed = s.refreshElapsed ∧ (reselect t s).markerA = s.markerA ∧
    (reselect t s).markerB = s.markerB ∧ (reselect t s).lanes = s.lanes ∧ (reselect t s).maps = s.maps ∧
    (reselect t s).owners = s.owners ∧ (reselect t s).index = s.index ∧ (reselect t s).writePos = s.writePos ∧
    (reselect t s).dram = s.dram ∧ (reselect t s).dramCheck = s.dramCheck ∧ (reselect t s).mem = s.mem ∧
    (reselect t s).check = s.check ∧ (reselect t s).readout = s.readout ∧ (reselect t s).averagers = s.averagers ∧
    (reselect t s).averagerRam = s.averagerRam ∧ (reselect t s).link = s.link ∧ (reselect t s).notices = s.notices ∧
    (reselect t s).pending = s.pending := by
  unfold reselect
  try dsimp only
  (repeat' split) <;> simp

@[simp] theorem takeLoss_frame (unit : MarkerId) (t : Track) (s : State) :
    (takeLoss unit t s).time = s.time ∧ (takeLoss unit t s).resetHeld = s.resetHeld ∧
    (takeLoss unit t s).epoch = s.epoch ∧ (takeLoss unit t s).refreshElapsed = s.refreshElapsed ∧
    (takeLoss unit t s).markerA = s.markerA ∧ (takeLoss unit t s).markerB = s.markerB ∧
    (takeLoss unit t s).owners = s.owners ∧ (takeLoss unit t s).writePos = s.writePos ∧
    (takeLoss unit t s).dram = s.dram ∧ (takeLoss unit t s).dramCheck = s.dramCheck ∧
    (takeLoss unit t s).check = s.check ∧ (takeLoss unit t s).link = s.link ∧
    (takeLoss unit t s).pending = s.pending := by
  unfold takeLoss
  try dsimp only
  (repeat' split) <;> simp

@[simp] theorem emit_frame (order : List Track) (ev : MarkerEvent) (s : State) :
    (emit order ev s).time = s.time ∧ (emit order ev s).resetHeld = s.resetHeld ∧ (emit order ev s).epoch = s.epoch ∧
    (emit order ev s).refreshElapsed = s.refreshElapsed ∧ (emit order ev s).markerA = s.markerA ∧
    (emit order ev s).markerB = s.markerB ∧ (emit order ev s).owners = s.owners ∧ (emit order ev s).dram = s.dram ∧
    (emit order ev s).dramCheck = s.dramCheck ∧ (emit order ev s).check = s.check ∧ (emit order ev s).link = s.link ∧
    (emit order ev s).pending = s.pending := by
  unfold emit eachTrack
  generalize deliveryOrder order = l
  induction l generalizing s with
  | nil => simp
  | cons t l ih => simpa using ih (takeEvent ev t s)

@[simp] theorem announceLoss_frame (order : List Track) (u : MarkerId) (s : State) :
    (announceLoss order u s).time = s.time ∧ (announceLoss order u s).resetHeld = s.resetHeld ∧
    (announceLoss order u s).epoch = s.epoch ∧ (announceLoss order u s).refreshElapsed = s.refreshElapsed ∧
    (announceLoss order u s).markerA = s.markerA ∧ (announceLoss order u s).markerB = s.markerB ∧
    (announceLoss order u s).owners = s.owners ∧ (announceLoss order u s).writePos = s.writePos ∧
    (announceLoss order u s).dram = s.dram ∧ (announceLoss order u s).dramCheck = s.dramCheck ∧
    (announceLoss order u s).check = s.check ∧ (announceLoss order u s).link = s.link ∧
    (announceLoss order u s).pending = s.pending := by
  unfold announceLoss eachTrack
  generalize deliveryOrder order = l
  induction l generalizing s with
  | nil => simp
  | cons t l ih => simpa using ih (takeLoss u t s)

@[simp] theorem announceLock_frame (order : List Track) (u : MarkerId) (s : State) :
    (announceLock order u s).time = s.time ∧ (announceLock order u s).resetHeld = s.resetHeld ∧
    (announceLock order u s).epoch = s.epoch ∧ (announceLock order u s).refreshElapsed = s.refreshElapsed ∧
    (announceLock order u s).markerA = s.markerA ∧ (announceLock order u s).markerB = s.markerB ∧
    (announceLock order u s).lanes = s.lanes ∧ (announceLock order u s).maps = s.maps ∧
    (announceLock order u s).owners = s.owners ∧ (announceLock order u s).index = s.index ∧
    (announceLock order u s).writePos = s.writePos ∧ (announceLock order u s).dram = s.dram ∧
    (announceLock order u s).dramCheck = s.dramCheck ∧ (announceLock order u s).mem = s.mem ∧
    (announceLock order u s).check = s.check ∧ (announceLock order u s).readout = s.readout ∧
    (announceLock order u s).averagers = s.averagers ∧ (announceLock order u s).averagerRam = s.averagerRam ∧
    (announceLock order u s).link = s.link ∧ (announceLock order u s).notices = s.notices ∧
    (announceLock order u s).pending = s.pending := by
  unfold announceLock eachTrack
  generalize deliveryOrder order = l
  induction l generalizing s with
  | nil => simp
  | cons t l ih => simpa using ih (takeLock u t s)

@[simp] theorem stageValue_frame (t : Track) (seq pos : Nat) (v : Int) (s : State) :
    (stageValue t seq pos v s).time = s.time ∧ (stageValue t seq pos v s).resetHeld = s.resetHeld ∧
    (stageValue t seq pos v s).epoch = s.epoch ∧ (stageValue t seq pos v s).refreshElapsed = s.refreshElapsed ∧
    (stageValue t seq pos v s).markerA = s.markerA ∧ (stageValue t seq pos v s).markerB = s.markerB ∧
    (stageValue t seq pos v s).lanes = s.lanes ∧ (stageValue t seq pos v s).maps = s.maps ∧
    (stageValue t seq pos v s).owners = s.owners ∧ (stageValue t seq pos v s).writePos = s.writePos ∧
    (stageValue t seq pos v s).dram = s.dram ∧ (stageValue t seq pos v s).dramCheck = s.dramCheck ∧
    (stageValue t seq pos v s).mem = s.mem ∧ (stageValue t seq pos v s).check = s.check ∧
    (stageValue t seq pos v s).readout = s.readout ∧ (stageValue t seq pos v s).averagers = s.averagers ∧
    (stageValue t seq pos v s).averagerRam = s.averagerRam ∧ (stageValue t seq pos v s).link = s.link ∧
    (stageValue t seq pos v s).notices = s.notices ∧ (stageValue t seq pos v s).pending = s.pending := by
  unfold stageValue
  try dsimp only
  (repeat' split) <;> simp

@[simp] theorem acceptWord_frame (t : Track) (r : SweepRecord) (pos : Nat) (raw : Int) (s : State) :
    (acceptWord t r pos raw s).time = s.time ∧ (acceptWord t r pos raw s).resetHeld = s.resetHeld ∧
    (acceptWord t r pos raw s).epoch = s.epoch ∧ (acceptWord t r pos raw s).refreshElapsed = s.refreshElapsed ∧
    (acceptWord t r pos raw s).markerA = s.markerA ∧ (acceptWord t r pos raw s).markerB = s.markerB ∧
    (acceptWord t r pos raw s).maps = s.maps ∧ (acceptWord t r pos raw s).owners = s.owners ∧
    (acceptWord t r pos raw s).writePos = s.writePos ∧ (acceptWord t r pos raw s).dram = s.dram ∧
    (acceptWord t r pos raw s).dramCheck = s.dramCheck ∧ (acceptWord t r pos raw s).mem = s.mem ∧
    (acceptWord t r pos raw s).check = s.check ∧ (acceptWord t r pos raw s).readout = s.readout ∧
    (acceptWord t r pos raw s).averagers = s.averagers ∧ (acceptWord t r pos raw s).link = s.link ∧
    (acceptWord t r pos raw s).notices = s.notices ∧ (acceptWord t r pos raw s).pending = s.pending := by
  unfold acceptWord
  try dsimp only
  (repeat' split) <;> simp

@[simp] theorem afterResolution_frame (t : Track) (pos : Nat) (s : State) :
    (afterResolution t pos s).time = s.time ∧ (afterResolution t pos s).resetHeld = s.resetHeld ∧
    (afterResolution t pos s).epoch = s.epoch ∧ (afterResolution t pos s).refreshElapsed = s.refreshElapsed ∧
    (afterResolution t pos s).markerA = s.markerA ∧ (afterResolution t pos s).markerB = s.markerB ∧
    (afterResolution t pos s).maps = s.maps ∧ (afterResolution t pos s).owners = s.owners ∧
    (afterResolution t pos s).writePos = s.writePos ∧ (afterResolution t pos s).dram = s.dram ∧
    (afterResolution t pos s).dramCheck = s.dramCheck ∧ (afterResolution t pos s).mem = s.mem ∧
    (afterResolution t pos s).check = s.check ∧ (afterResolution t pos s).link = s.link ∧
    (afterResolution t pos s).pending = s.pending := by
  unfold afterResolution
  try dsimp only
  (repeat' split) <;> simp

@[simp] theorem resolveWord_frame (t : Track) (pos : Nat) (word : BitVec 16) (parity : Bool) (s : State) :
    (resolveWord t pos word parity s).time = s.time ∧ (resolveWord t pos word parity s).resetHeld = s.resetHeld ∧
    (resolveWord t pos word parity s).epoch = s.epoch ∧
    (resolveWord t pos word parity s).refreshElapsed = s.refreshElapsed ∧
    (resolveWord t pos word parity s).markerA = s.markerA ∧ (resolveWord t pos word parity s).markerB = s.markerB ∧
    (resolveWord t pos word parity s).maps = s.maps ∧ (resolveWord t pos word parity s).owners = s.owners ∧
    (resolveWord t pos word parity s).writePos = s.writePos ∧ (resolveWord t pos word parity s).dram = s.dram ∧
    (resolveWord t pos word parity s).dramCheck = s.dramCheck ∧ (resolveWord t pos word parity s).mem = s.mem ∧
    (resolveWord t pos word parity s).check = s.check ∧ (resolveWord t pos word parity s).link = s.link ∧
    (resolveWord t pos word parity s).pending = s.pending := by
  unfold resolveWord
  try dsimp only
  (repeat' split) <;> simp

end Sys2Proof.Machine
end

