-- ==== Sys2Proof/Laws/Memory.lean ====
section
/-!
SUPPORT. What the memory controller does by itself at the end of each of its steps: the banks, the data path, the refresh
service and the standby entry.
-/

namespace Sys2Proof.Machine

/-! ## Banks -/

/-- A bank's step changes that bank alone. -/
theorem MemControl.stepBank_only (m : MemControl) (b : BankId) :
    ∃ x, m.stepBank b = { m with banks := m.banks.set b x } := by
  have hs : m = { m with banks := m.banks.set b m.banks[b] } := by simp
  unfold MemControl.stepBank
  split
  · exact ⟨_, hs⟩
  · split
    · exact ⟨_, hs⟩
    · split
      · exact ⟨_, hs⟩
      · exact ⟨_, hs⟩
      · split
        · exact ⟨_, rfl⟩
        · split
          · exact ⟨_, hs⟩
          · exact ⟨_, rfl⟩

theorem MemControl.stepBank_rest (m : MemControl) (b : BankId) :
    (m.stepBank b).granted = m.granted ∧ (m.stepBank b).dataPath = m.dataPath ∧ (m.stepBank b).balance = m.balance ∧
    (m.stepBank b).refresh = m.refresh ∧ (m.stepBank b).state = m.state ∧ (m.stepBank b).reentry = m.reentry ∧
    (m.stepBank b).heldWake = m.heldWake ∧ (m.stepBank b).autoEnable = m.autoEnable ∧
    (m.stepBank b).autoDelay = m.autoDelay ∧ (m.stepBank b).autoTimer = m.autoTimer ∧
    (m.stepBank b).urgentPointer = m.urgentPointer ∧ (m.stepBank b).normalPointer = m.normalPointer := by
  obtain ⟨x, hx⟩ := m.stepBank_only b
  rw [hx]; simp

theorem MemControl.stepBank_other (m : MemControl) {b c : BankId} (h : c ≠ b) :
    (m.stepBank b).banks[c] = m.banks[c] := by
  obtain ⟨x, hx⟩ := m.stepBank_only b
  have : b.val ≠ c.val := fun e => h (Fin.ext e.symm)
  rw [hx]; simp [this]

/-- What a bank does at the end of a step depends on that bank, the lists and the data path alone. -/
theorem MemControl.stepBank_congr {m n : MemControl} {b : BankId} (h1 : m.granted = n.granted)
    (h2 : m.dataPath = n.dataPath) (h3 : m.banks[b] = n.banks[b]) :
    (m.stepBank b).banks[b] = (n.stepBank b).banks[b] := by
  unfold MemControl.stepBank MemControl.head MemControl.setBank
  rw [h1, h2, h3]
  cases n.granted.find? (fun x => x.bank = b) with
  | none => exact h3
  | some h =>
    by_cases h4 : n.dataPath = some b
    · simp [h4]; exact h3
    · simp only [h4, if_false]
      cases n.banks[b].step with
      | closing => exact h3
      | opening r => exact h3
      | none =>
        cases n.banks[b].row with
        | none => simp
        | some r =>
          by_cases h5 : r = h.row
          · simp [h5]; exact h3
          · simp [h5]

/-- Every bank takes its own step, and nothing else changes. -/
theorem MemControl.stepBanks_spec (m : MemControl) :
    m.stepBanks.granted = m.granted ∧ m.stepBanks.dataPath = m.dataPath ∧ m.stepBanks.balance = m.balance ∧
    m.stepBanks.refresh = m.refresh ∧ m.stepBanks.state = m.state ∧ m.stepBanks.reentry = m.reentry ∧
    m.stepBanks.heldWake = m.heldWake ∧ m.stepBanks.autoEnable = m.autoEnable ∧
    m.stepBanks.autoDelay = m.autoDelay ∧ m.stepBanks.autoTimer = m.autoTimer ∧
    m.stepBanks.urgentPointer = m.urgentPointer ∧ m.stepBanks.normalPointer = m.normalPointer ∧
    ∀ b : BankId, m.stepBanks.banks[b] = (m.stepBank b).banks[b] := by
  have key : ∀ (l : List BankId) (x : MemControl), l.Nodup → x.granted = m.granted → x.dataPath = m.dataPath →
      x.balance = m.balance → x.refresh = m.refresh → x.state = m.state → x.reentry = m.reentry →
      x.heldWake = m.heldWake → x.autoEnable = m.autoEnable → x.autoDelay = m.autoDelay → x.autoTimer = m.autoTimer →
      x.urgentPointer = m.urgentPointer → x.normalPointer = m.normalPointer →
      (∀ b ∈ l, x.banks[b] = m.banks[b]) → (∀ b, b ∉ l → x.banks[b] = (m.stepBank b).banks[b]) →
      (l.foldl MemControl.stepBank x).granted = m.granted ∧ (l.foldl MemControl.stepBank x).dataPath = m.dataPath ∧
      (l.foldl MemControl.stepBank x).balance = m.balance ∧ (l.foldl MemControl.stepBank x).refresh = m.refresh ∧
      (l.foldl MemControl.stepBank x).state = m.state ∧ (l.foldl MemControl.stepBank x).reentry = m.reentry ∧
      (l.foldl MemControl.stepBank x).heldWake = m.heldWake ∧
      (l.foldl MemControl.stepBank x).autoEnable = m.autoEnable ∧
      (l.foldl MemControl.stepBank x).autoDelay = m.autoDelay ∧
      (l.foldl MemControl.stepBank x).autoTimer = m.autoTimer ∧
      (l.foldl MemControl.stepBank x).urgentPointer = m.urgentPointer ∧
      (l.foldl MemControl.stepBank x).normalPointer = m.normalPointer ∧
      ∀ b : BankId, (l.foldl MemControl.stepBank x).banks[b] = (m.stepBank b).banks[b] := by
    intro l
    induction l with
    | nil =>
      intro x _ h1 h2 h3 h4 h5 h6 h7 h8 h9 h10 h11 h12 _ h14
      exact ⟨h1, h2, h3, h4, h5, h6, h7, h8, h9, h10, h11, h12, fun b => h14 b (List.not_mem_nil)⟩
    | cons a l ih =>
      intro x hn h1 h2 h3 h4 h5 h6 h7 h8 h9 h10 h11 h12 h13 h14
      have hr := x.stepBank_rest a
      have ha : a ∉ l := (List.nodup_cons.1 hn).1
      refine ih (x.stepBank a) (List.nodup_cons.1 hn).2 (hr.1.trans h1) (hr.2.1.trans h2) (hr.2.2.1.trans h3)
        (hr.2.2.2.1.trans h4) (hr.2.2.2.2.1.trans h5) (hr.2.2.2.2.2.1.trans h6) (hr.2.2.2.2.2.2.1.trans h7)
        (hr.2.2.2.2.2.2.2.1.trans h8) (hr.2.2.2.2.2.2.2.2.1.trans h9) (hr.2.2.2.2.2.2.2.2.2.1.trans h10)
        (hr.2.2.2.2.2.2.2.2.2.2.1.trans h11) (hr.2.2.2.2.2.2.2.2.2.2.2.trans h12) ?_ ?_
      · intro b hb
        have hne : b ≠ a := fun e => ha (e ▸ hb)
        rw [x.stepBank_other hne]
        exact h13 b (List.mem_cons_of_mem _ hb)
      · intro b hb
        by_cases hne : b = a
        · subst hne
          exact MemControl.stepBank_congr h1 h2 (h13 b List.mem_cons_self)
        · rw [x.stepBank_other hne]
          exact h14 b (by simp [hne, hb])
  exact key _ m (List.nodup_finRange 8) rfl rfl rfl rfl rfl rfl rfl rfl rfl rfl rfl rfl (fun _ _ => rfl)
    (fun b hb => absurd (List.mem_finRange b) hb)

/-- A bank that is the head of no list, is transferring, has a step, or is OPEN on its head's row takes no step. -/
theorem MemControl.stepBank_idle (m : MemControl) (b : BankId) (h : m.head b = none) : m.stepBank b = m := by
  unfold MemControl.stepBank; rw [h]

/-! ## The data path and the refresh service -/

theorem MemControl.startTransfer_spec (m : MemControl) :
    ∃ d, m.startTransfer = { m with dataPath := d } ∧ (∀ b, m.dataPath = some b → d = some b) ∧
      (m.dataPath = none → d = (m.granted.find? m.ready).map Burst.bank) := by
  unfold MemControl.startTransfer
  split
  · exact ⟨m.dataPath, rfl, fun _ hb => hb, fun hn => by simp_all⟩
  · rename_i h; exact ⟨_, rfl, fun b hb => by simp_all, fun _ => rfl⟩

/-- With no refresh granted the service does nothing. -/
theorem MemControl.driveRefresh_none (m : MemControl) (h : m.refresh = .none) : m.driveRefresh = m := by
  unfold MemControl.driveRefresh; simp [h]

theorem MemControl.driveRefresh_spec (m : MemControl) :
    ∃ bs r, m.driveRefresh = { m with banks := bs, refresh := r } ∧ (r = .none ↔ m.refresh = .none) := by
  have second : ∀ n : MemControl, ∃ r,
      (if n.refresh = .closing && n.noSteps then { n with refresh := .inFlight } else n) = { n with refresh := r } ∧
        (r = .none ↔ n.refresh = .none) := by
    intro n
    by_cases h : (n.refresh = .closing && n.noSteps) = true
    · refine ⟨.inFlight, by simp only [h, if_true], ?_⟩
      simp only [Bool.and_eq_true, decide_eq_true_eq] at h
      simp [h.1]
    · exact ⟨n.refresh, by rw [if_neg h], Iff.rfl⟩
  unfold MemControl.driveRefresh
  by_cases h : (m.refresh = .waiting && m.granted.isEmpty) = true
  · obtain ⟨r, hr, hi⟩ := second { m.closeOpen with refresh := .closing }
    refine ⟨m.closeOpen.banks, r, ?_, ?_⟩
    · simp only [h, if_true]; exact hr
    · simp only [Bool.and_eq_true, decide_eq_true_eq] at h
      rw [hi, h.1]; simp
  · obtain ⟨r, hr, hi⟩ := second m
    exact ⟨m.banks, r, by rw [if_neg h]; exact hr, hi⟩

/-! ## What the controller drives, by what is granted -/

/-- A burst request is presented by a writer or by the readout engine. -/
theorem burstRequested_iff (s : State) :
    burstRequested s = true ↔ (∃ t, writerRequests s t = true) ∨ engineBlock s ≠ none := by
  unfold burstRequested allTracks
  simp [Option.isSome_iff_ne_none]

/-- No track is SWEEPING, AWAITING or STOPPING. -/
theorem noneCapturing_iff (s : State) :
    noneCapturing s = true ↔
      ∀ t, (s.track t).state ≠ .sweeping ∧ (s.track t).state ≠ .awaiting ∧ (s.track t).state ≠ .stopping := by
  unfold noneCapturing allTracks
  simp only [List.all_eq_true, List.mem_finRange, true_implies]
  refine forall_congr' fun t => ?_
  cases (s.track t).state <;> simp [TrackState.capturing]

theorem MemControl.noSteps_iff (m : MemControl) : m.noSteps = true ↔ ∀ b : BankId, m.banks[b].step = .none := by
  unfold MemControl.noSteps
  simp only [List.all_eq_true, decide_eq_true_eq]
  constructor
  · intro h b
    exact h _ (by simp)
  · intro h x hx
    simp only [Vector.mem_toList_iff, Vector.mem_iff_getElem] at hx
    obtain ⟨i, hi, rfl⟩ := hx
    exact h ⟨i, hi⟩

theorem MemControl.anyOpen_iff (m : MemControl) : m.anyOpen = true ↔ ∃ b : BankId, m.banks[b].row ≠ none := by
  unfold MemControl.anyOpen
  simp only [List.any_eq_true]
  constructor
  · rintro ⟨x, hx, h⟩
    simp only [Vector.mem_toList_iff, Vector.mem_iff_getElem] at hx
    obtain ⟨i, hi, rfl⟩ := hx
    exact ⟨⟨i, hi⟩, by simpa [Option.isSome_iff_ne_none] using h⟩
  · rintro ⟨b, h⟩
    exact ⟨m.banks[b], by simp, by simpa [Option.isSome_iff_ne_none] using h⟩

/-- The bank of a burst is its page modulo 8. -/
theorem find_bank (g : List Burst) (b : BankId) :
    g.find? (fun y => y.bank = b) = g.find? (fun y => y.page.toNat % 8 = b.val) := by
  congr 1; funext y
  unfold Burst.bank pageBank
  simp [Fin.ext_iff]

/-- With no burst granted no bank takes a step. -/
theorem MemControl.stepBanks_none (m : MemControl) (h : m.granted = []) : m.stepBanks = m := by
  have : ∀ l : List BankId, l.foldl MemControl.stepBank m = m := by
    intro l
    induction l with
    | nil => rfl
    | cons a l ih => simp only [List.foldl_cons]; rw [m.stepBank_idle a (by unfold MemControl.head; simp [h])]; exact ih
  exact this _

/-- With no burst granted no transfer begins. -/
theorem MemControl.startTransfer_none (m : MemControl) (h : m.granted = []) : m.startTransfer = m := by
  unfold MemControl.startTransfer
  split
  · rfl
  · rename_i hd; cases m; simp_all

/-- A refresh that does not wait, or waits for bursts, at most begins. -/
theorem MemControl.driveRefresh_rest (m : MemControl) (hr : m.refresh ≠ .waiting ∨ m.granted ≠ []) :
    m.driveRefresh = { m with refresh := if m.refresh = .closing && m.noSteps then .inFlight else m.refresh } := by
  unfold MemControl.driveRefresh
  have : (m.refresh = .waiting && m.granted.isEmpty) = false := by
    rcases hr with h | h <;> simp [h]
  simp only [this, Bool.false_eq_true, if_false]
  by_cases c : (m.refresh = .closing && m.noSteps) = true
  · rw [if_pos c, if_pos c]
  · rw [if_neg c, if_neg c]

/-- A waiting refresh with no burst granted closes the open banks, and begins when none was open. -/
theorem MemControl.driveRefresh_waiting (m : MemControl) (h : m.granted = []) (hr : m.refresh = .waiting) :
    m.driveRefresh =
      { m with
        banks := m.closeOpen.banks, refresh := if m.closeOpen.noSteps then .inFlight else .closing } := by
  unfold MemControl.driveRefresh
  simp only [h, hr, List.isEmpty_nil, decide_true, Bool.and_self, if_true, Bool.true_and]
  show (if m.closeOpen.noSteps = true then _ else _) = _
  by_cases c : m.closeOpen.noSteps = true
  · simp only [c, if_true]; unfold MemControl.closeOpen; rw [h]
  · simp only [c]; unfold MemControl.closeOpen; rw [h]; rfl

/-- Outside an entry there is no entry to go on. -/
theorem driveEntry_not (s : State) (h : ∀ c, s.mem.state ≠ .entering c) : driveEntry s = s := by
  unfold driveEntry
  split
  · rfl
  · rfl
  · rfl
  · rename_i c hc; exact absurd hc (h c)

/-- The stages of an entry. -/
theorem driveEntry_in (s : State) (c : EntryCause) (h : s.mem.state = .entering c) : driveEntry s =
    if s.mem.refresh = .none && s.mem.granted.isEmpty then
      if 0 < s.mem.balance then s.setMem { s.mem with refresh := .waiting }.driveRefresh
      else if s.mem.anyOpen then s.setMem s.mem.closeOpen
      else if s.mem.noSteps then completeEntry c s
      else s
    else s := by
  unfold driveEntry; rw [h]

/-- An entry waits for what is granted. -/
theorem driveEntry_busy (s : State) (h : s.mem.refresh ≠ .none ∨ s.mem.granted ≠ []) : driveEntry s = s := by
  by_cases e : ∃ c, s.mem.state = .entering c
  · obtain ⟨c, hc⟩ := e
    rw [driveEntry_in s c hc, if_neg]
    rcases h with h | h <;> simp [h]
  · exact driveEntry_not s (fun c hc => e ⟨c, hc⟩)

/-- With bursts granted the controller drives the banks, the data path and the refresh. -/
theorem drive_busy {s : State} (h : s.mem.granted ≠ []) :
    drive s = s.setMem s.mem.stepBanks.startTransfer.driveRefresh := by
  obtain ⟨d, hd, _⟩ := s.mem.stepBanks.startTransfer_spec
  obtain ⟨bs, r, hr, _⟩ := s.mem.stepBanks.startTransfer.driveRefresh_spec
  have hg : s.mem.stepBanks.startTransfer.driveRefresh.granted = s.mem.granted := by
    rw [hr, hd]; exact s.mem.stepBanks_spec.1
  unfold drive
  exact driveEntry_busy _ (.inr (by simpa only [State.setMem_mem, hg] using h))

/-- With no burst granted it drives the refresh and the entry. -/
theorem drive_idle {s : State} (h : s.mem.granted = []) : drive s = driveEntry (s.setMem s.mem.driveRefresh) := by
  unfold drive; rw [MemControl.stepBanks_none _ h, MemControl.startTransfer_none _ h]

/-! ## The checking of a word -/

/-- What one asked-for word does under QUIET and NOTIFY, by its code: the two records and the more flag, the DAMAGED claim
and the notices (R130, R131). -/
theorem noteWord_spec (f : WordFault) (s : State) (hm : s.check.mode ≠ .off) :
    (noteWord f s).check.mode = s.check.mode ∧ (noteWord f s).check.inject = s.check.inject ∧
    (noteWord f s).check.lastCorrected = (if f.code.corrected then some f else s.check.lastCorrected) ∧
    (noteWord f s).check.firstUncorrectable =
      (if f.code.uncorrectable then some (s.check.firstUncorrectable.getD (.uncorrectable f))
       else s.check.firstUncorrectable) ∧
    (noteWord f s).check.more = (s.check.more || (f.code.uncorrectable && s.check.firstUncorrectable.isSome)) ∧
    (f.code.uncorrectable = false → (noteWord f s).index = s.index) ∧
    (f.code.uncorrectable = true →
      (noteWord f s).records f.track =
        (s.records f.track).map (fun y => if y.seq = f.seq then { y with damaged := true } else y) ∧
      ∀ k, k ≠ f.track → (noteWord f s).records k = s.records k) ∧
    (noteWord f s).notices =
      (if s.check.mode = .notify then
        (if f.code.corrected then s.notices.post Source.corrected (.corrected f)
         else if f.code.uncorrectable then s.notices.post Source.memoryFault (.memoryFault (.uncorrectable f))
         else s.notices)
       else s.notices) := by
  have claimed : ∀ l : List SweepRecord, (s.putRecords f.track l).records f.track = l ∧
      ∀ k, k ≠ f.track → (s.putRecords f.track l).records k = s.records k :=
    fun l => ⟨State.records_putRecords_same _ _ _, fun k hk => State.records_putRecords_other _ _ (Ne.symm hk)⟩
  have wrong : f.code.uncorrectable = true → noteWord f s = noteUncorrectable f s ∧ f.code.corrected = false := by
    intro h
    unfold noteWord
    rw [if_neg hm]
    cases hc : f.code <;> simp_all [ReadCode.corrected, ReadCode.uncorrectable]
  cases h1 : f.code.uncorrectable with
  | true =>
    rw [(wrong h1).1, (wrong h1).2]
    unfold noteUncorrectable recordFault
    cases hf : s.check.firstUncorrectable <;> by_cases h : s.check.mode = .notify <;>
      simp [claim, post, hf, h, SweepRecord.setDamaged] <;> exact claimed _
  | false =>
    unfold noteWord
    rw [if_neg hm, h1]
    by_cases h2 : f.code.corrected = true
    · unfold noteCorrected
      by_cases h : s.check.mode = .notify <;> simp [h2, h, post]
    · simp [h2]

/-! ## The end of a step -/

theorem followAuto_spec (s : State) : ∃ tm, followAuto s = s.setMem { s.mem with autoTimer := tm } := ⟨_, rfl⟩

/-- Outside STANDBY no waking begins at the end of a step. -/
theorem follow_awake {s : State} (h : s.mem.state ≠ .standby) : follow s = followAuto s := by
  unfold follow wakeIfRequested; simp [h]

/-- In RUNNING the end of a step drives the banks, the data path and the refresh, and the delay timer follows. -/
theorem settle_running {s : State} (h : s.mem.state = .running) :
    ∃ tm, settle s = s.setMem { s.mem.stepBanks.startTransfer.driveRefresh with autoTimer := tm } := by
  obtain ⟨d, hd, _⟩ := s.mem.stepBanks.startTransfer_spec
  obtain ⟨bs, r, hr, _⟩ := s.mem.stepBanks.startTransfer.driveRefresh_spec
  have hst : s.mem.stepBanks.startTransfer.driveRefresh.state = .running := by
    rw [hr, hd]; exact s.mem.stepBanks_spec.2.2.2.2.1.trans h
  have hde : drive s = s.setMem s.mem.stepBanks.startTransfer.driveRefresh := by
    unfold drive driveEntry
    simp [hst]
  obtain ⟨tm, htm⟩ := followAuto_spec (s.setMem s.mem.stepBanks.startTransfer.driveRefresh)
  refine ⟨tm, ?_⟩
  unfold settle
  rw [hde, follow_awake (by simp [hst]), htm, setter_mem_mem]
  simp only [State.setMem_mem]

/-- In an entry with bursts granted the end of a step drives the banks and the data path, and the entry waits. -/
theorem settle_entering {s : State} {c : EntryCause} (h : s.mem.state = .entering c) (hg : s.mem.granted ≠ []) :
    ∃ tm, settle s = s.setMem { s.mem.stepBanks.startTransfer.driveRefresh with autoTimer := tm } := by
  obtain ⟨d, hd, _⟩ := s.mem.stepBanks.startTransfer_spec
  obtain ⟨bs, r, hr, _⟩ := s.mem.stepBanks.startTransfer.driveRefresh_spec
  have hst : s.mem.stepBanks.startTransfer.driveRefresh.state = .entering c := by
    rw [hr, hd]; exact s.mem.stepBanks_spec.2.2.2.2.1.trans h
  have hgr : s.mem.stepBanks.startTransfer.driveRefresh.granted = s.mem.granted := by
    rw [hr, hd]; exact s.mem.stepBanks_spec.1
  have hde : drive s = s.setMem s.mem.stepBanks.startTransfer.driveRefresh := by
    unfold drive driveEntry
    simp [hst, hgr, hg]
  obtain ⟨tm, htm⟩ := followAuto_spec (s.setMem s.mem.stepBanks.startTransfer.driveRefresh)
  refine ⟨tm, ?_⟩
  unfold settle
  rw [hde, follow_awake (by simp [hst]), htm, setter_mem_mem]
  simp only [State.setMem_mem]

/-- What the end of a step leaves alone in RUNNING, and in an entry that waits for granted bursts. -/
theorem settle_keeps {s : State} (h : s.mem.state = .running ∨ (∃ c, s.mem.state = .entering c) ∧ s.mem.granted ≠ []) :
    (settle s).mem.granted = s.mem.granted ∧ (settle s).mem.state = s.mem.state ∧
    (settle s).mem.balance = s.mem.balance ∧ (settle s).mem.reentry = s.mem.reentry ∧
    (settle s).mem.heldWake = s.mem.heldWake ∧ (settle s).link = s.link ∧ (settle s).notices = s.notices ∧
    (settle s).readout = s.readout ∧ (settle s).index = s.index ∧ (settle s).tracks = s.tracks ∧
    (settle s).check = s.check ∧ (settle s).owners = s.owners ∧ (settle s).maps = s.maps ∧
    (settle s).dram = s.dram ∧ (settle s).dramCheck = s.dramCheck ∧ (settle s).epoch = s.epoch ∧
    (settle s).mem.refresh = s.mem.stepBanks.startTransfer.driveRefresh.refresh ∧
    (settle s).mem.banks = s.mem.stepBanks.startTransfer.driveRefresh.banks ∧
    (settle s).mem.dataPath = s.mem.stepBanks.startTransfer.dataPath := by
  have hx : ∃ tm, settle s = s.setMem { s.mem.stepBanks.startTransfer.driveRefresh with autoTimer := tm } := by
    rcases h with h | ⟨⟨c, h⟩, hg⟩
    · exact settle_running h
    · exact settle_entering h hg
  obtain ⟨tm, htm⟩ := hx
  rw [htm]
  have hb := s.mem.stepBanks_spec
  obtain ⟨d, hd, _⟩ := s.mem.stepBanks.startTransfer_spec
  obtain ⟨bs, rr, hr, _⟩ := s.mem.stepBanks.startTransfer.driveRefresh_spec
  have hk : s.mem.stepBanks.startTransfer.driveRefresh.granted = s.mem.granted ∧
      s.mem.stepBanks.startTransfer.driveRefresh.state = s.mem.state ∧
      s.mem.stepBanks.startTransfer.driveRefresh.balance = s.mem.balance ∧
      s.mem.stepBanks.startTransfer.driveRefresh.reentry = s.mem.reentry ∧
      s.mem.stepBanks.startTransfer.driveRefresh.heldWake = s.mem.heldWake ∧
      s.mem.stepBanks.startTransfer.driveRefresh.dataPath = s.mem.stepBanks.startTransfer.dataPath := by
    rw [hr, hd]
    exact ⟨hb.1, hb.2.2.2.2.1, hb.2.2.1, hb.2.2.2.2.2.1, hb.2.2.2.2.2.2.1, rfl⟩
  simp only [State.setMem_mem, State.setMem_link, State.setMem_notices, State.setMem_readout, State.setMem_index,
    State.setMem_tracks, State.setMem_check, State.setMem_owners, State.setMem_maps, State.setMem_dram,
    State.setMem_dramCheck, State.setMem_epoch, and_true, hk]

end Sys2Proof.Machine
end

