-- ==== Sys2Proof/Laws/Tracks.lean ====
section
/-!
SUPPORT. The registers of one track among each other: reads past writes, writes in one order, and what the shared
operations of a track do as one equation each.
-/

namespace Sys2Proof.Machine

/-! ## Reads past the writes of other registers -/

section Reads
variable (s : State) (t k : Track)

@[simp] theorem putLane_reads (v : Lane) :
    (s.putLane t v).track k = s.track k ∧ (s.putLane t v).map k = s.map k ∧ (s.putLane t v).records k = s.records k ∧
    (s.putLane t v).writePosition k = s.writePosition k ∧ (s.putLane t v).averager k = s.averager k :=
  ⟨rfl, rfl, rfl, rfl, rfl⟩

@[simp] theorem putTrack_reads (v : TrackUnit) :
    (s.putTrack t v).lane k = s.lane k ∧ (s.putTrack t v).map k = s.map k ∧ (s.putTrack t v).records k = s.records k ∧
    (s.putTrack t v).writePosition k = s.writePosition k ∧ (s.putTrack t v).averager k = s.averager k :=
  ⟨rfl, rfl, rfl, rfl, rfl⟩

@[simp] theorem putMap_reads (v : Table MapEntry) :
    (s.putMap t v).lane k = s.lane k ∧ (s.putMap t v).track k = s.track k ∧ (s.putMap t v).records k = s.records k ∧
    (s.putMap t v).writePosition k = s.writePosition k ∧ (s.putMap t v).averager k = s.averager k :=
  ⟨rfl, rfl, rfl, rfl, rfl⟩

@[simp] theorem putRecords_reads (v : List SweepRecord) :
    (s.putRecords t v).lane k = s.lane k ∧ (s.putRecords t v).track k = s.track k ∧
    (s.putRecords t v).map k = s.map k ∧ (s.putRecords t v).writePosition k = s.writePosition k ∧
    (s.putRecords t v).averager k = s.averager k :=
  ⟨rfl, rfl, rfl, rfl, rfl⟩

@[simp] theorem putWritePosition_reads (v : Nat) :
    (s.putWritePosition t v).lane k = s.lane k ∧ (s.putWritePosition t v).track k = s.track k ∧
    (s.putWritePosition t v).map k = s.map k ∧ (s.putWritePosition t v).records k = s.records k ∧
    (s.putWritePosition t v).averager k = s.averager k :=
  ⟨rfl, rfl, rfl, rfl, rfl⟩

@[simp] theorem putAverager_reads (v : Averager) :
    (s.putAverager t v).lane k = s.lane k ∧ (s.putAverager t v).track k = s.track k ∧
    (s.putAverager t v).map k = s.map k ∧ (s.putAverager t v).records k = s.records k ∧
    (s.putAverager t v).writePosition k = s.writePosition k :=
  ⟨rfl, rfl, rfl, rfl, rfl⟩

@[simp] theorem setMem_reads (v : MemControl) :
    (s.setMem v).lane k = s.lane k ∧ (s.setMem v).track k = s.track k ∧ (s.setMem v).map k = s.map k ∧
    (s.setMem v).records k = s.records k ∧ (s.setMem v).writePosition k = s.writePosition k ∧
    (s.setMem v).averager k = s.averager k :=
  ⟨rfl, rfl, rfl, rfl, rfl, rfl⟩

@[simp] theorem setReadout_reads (v : Readout) :
    (s.setReadout v).lane k = s.lane k ∧ (s.setReadout v).track k = s.track k ∧ (s.setReadout v).map k = s.map k ∧
    (s.setReadout v).records k = s.records k ∧ (s.setReadout v).writePosition k = s.writePosition k ∧
    (s.setReadout v).averager k = s.averager k :=
  ⟨rfl, rfl, rfl, rfl, rfl, rfl⟩

@[simp] theorem setNotices_reads (v : NoticeUnit) :
    (s.setNotices v).lane k = s.lane k ∧ (s.setNotices v).track k = s.track k ∧ (s.setNotices v).map k = s.map k ∧
    (s.setNotices v).records k = s.records k ∧ (s.setNotices v).writePosition k = s.writePosition k ∧
    (s.setNotices v).averager k = s.averager k :=
  ⟨rfl, rfl, rfl, rfl, rfl, rfl⟩

@[simp] theorem setLink_reads (v : Link) :
    (s.setLink v).lane k = s.lane k ∧ (s.setLink v).track k = s.track k ∧ (s.setLink v).map k = s.map k ∧
    (s.setLink v).records k = s.records k ∧ (s.setLink v).writePosition k = s.writePosition k ∧
    (s.setLink v).averager k = s.averager k :=
  ⟨rfl, rfl, rfl, rfl, rfl, rfl⟩

@[simp] theorem setAveragerRam_reads (v : Table (BitVec 32)) :
    (s.setAveragerRam v).lane k = s.lane k ∧ (s.setAveragerRam v).track k = s.track k ∧
    (s.setAveragerRam v).map k = s.map k ∧ (s.setAveragerRam v).records k = s.records k ∧
    (s.setAveragerRam v).writePosition k = s.writePosition k ∧ (s.setAveragerRam v).averager k = s.averager k :=
  ⟨rfl, rfl, rfl, rfl, rfl, rfl⟩

@[simp] theorem post_reads (src : Source) (occ : Occurrence) :
    (post src occ s).lane k = s.lane k ∧ (post src occ s).track k = s.track k ∧ (post src occ s).map k = s.map k ∧
    (post src occ s).records k = s.records k ∧ (post src occ s).writePosition k = s.writePosition k ∧
    (post src occ s).averager k = s.averager k :=
  ⟨rfl, rfl, rfl, rfl, rfl, rfl⟩

end Reads

/-! ## Writes of one track: the last one stands, and each has its place (records, lane, track unit) -/

section Writes
variable (s : State) (t k : Track)

@[simp] theorem putRecords_putRecords (a b : List SweepRecord) :
    (s.putRecords t a).putRecords t b = s.putRecords t b := by
  simp [State.putRecords, State.setIndex]
@[simp] theorem putLane_putLane (a b : Lane) : (s.putLane t a).putLane t b = s.putLane t b := by
  simp [State.putLane, State.setLanes]
@[simp] theorem putTrack_putTrack (a b : TrackUnit) : (s.putTrack t a).putTrack t b = s.putTrack t b := by
  simp [State.putTrack, State.setTracks]
@[simp] theorem putAverager_putAverager (a b : Averager) :
    (s.putAverager t a).putAverager t b = s.putAverager t b := by
  simp [State.putAverager, State.setAveragers]

@[simp] theorem putTrack_putRecords (a : TrackUnit) (b : List SweepRecord) :
    (s.putTrack t a).putRecords k b = (s.putRecords k b).putTrack t a := rfl
@[simp] theorem putTrack_putLane (a : TrackUnit) (b : Lane) :
    (s.putTrack t a).putLane k b = (s.putLane k b).putTrack t a := rfl
@[simp] theorem putLane_putRecords (a : Lane) (b : List SweepRecord) :
    (s.putLane t a).putRecords k b = (s.putRecords k b).putLane t a := rfl

@[simp] theorem putTrack_self : s.putTrack t (s.track t) = s := by
  simp [State.putTrack, State.track, State.setTracks]
@[simp] theorem putLane_self : s.putLane t (s.lane t) = s := by
  simp [State.putLane, State.lane, State.setLanes]
@[simp] theorem putRecords_self : s.putRecords t (s.records t) = s := by
  simp [State.putRecords, State.records, State.setIndex]

end Writes

/-! ## Shared operations of the acquisition path, one equation each -/

section Acquisition
variable (s : State) (t : Track)

/-- The nearest 1024th of n: the one z within a half of it, a tie going away from zero. -/
theorem roundNearest_of_nearest {n z : Int} (near : (2 * (1024 * z - n)).natAbs ≤ 1024)
    (tie : (2 * (1024 * z - n)).natAbs = 1024 → n.natAbs < (1024 * z).natAbs) : roundNearest n 1024 = z := by
  unfold roundNearest
  split <;> omega

/-- An accepted value changes the lane's two accumulators, inside the window of a mode that uses one, and nothing else. -/
theorem addBaseline_eq (pos : Nat) (v : Int) :
    addBaseline t pos v s =
      if (s.track t).active.offsetMode.usesBaseline ∧ (s.track t).active.placement ≤ pos ∧
          pos < (s.track t).active.placement + (s.track t).active.duration then
        s.putLane t { s.lane t with baseSum := (s.lane t).baseSum + v, baseCount := (s.lane t).baseCount + 1 }
      else s := by
  unfold addBaseline
  simp [and_assoc]

/-- An accepted value changes the averager RAM and nothing else. -/
theorem averagerAdd_eq (pos : Nat) (v : Int) :
    averagerAdd t pos v s = s.setAveragerRam (averagerAdd t pos v s).averagerRam := by
  unfold averagerAdd
  simp only
  split <;> rfl

end Acquisition

/-! ## Ended reads and retired sweeps -/

/-- All that an ending of reads changes (R147): the engine's lists, and the bursts in flight of an active one. -/
theorem endReads_eq (p : Read → Bool) (status : EndStatus) (s : State) :
    endReads p status s =
      (s.setReadout (s.readout.endReads p status)).setMem { s.mem with
        granted := s.mem.granted.map (fun b => if b.isRead && s.readout.queue.head?.any p then b.unheed else b) } := by
  unfold endReads
  split <;> rename_i h
  · simp only [h, List.head?_nil, Option.any_none, Bool.and_false, Bool.false_eq_true, if_false, List.map_id']
    rfl
  · split <;> rename_i hp <;>
      simp only [h, List.head?_cons, Option.any_some, hp, Bool.and_true, Bool.and_false, Bool.false_eq_true, if_false,
        List.map_id']
    rfl

/-- The staging entries of the sweep and a cursor on it are all that a track unit loses (R63). -/
theorem TrackUnit.dropSweep_eq (seq : Nat) (u : TrackUnit) :
    u.dropSweep seq =
      { u with fifo := u.fifo.filter (fun e => e.seq ≠ seq), cursor := u.cursor.filter (fun c => c.seq ≠ seq) } := by
  unfold TrackUnit.dropSweep
  cases u.cursor with
  | none => rfl
  | some c => by_cases h : c.seq = seq <;> simp [h, Option.filter]

/-- All that the retirement of a record that is not kept changes (R95). -/
theorem retire_eq (t : Track) (r : SweepRecord) (s : State) (h : r.kept = false) :
    retire t r s =
      (((s.putRecords t ((s.records t).filter (fun x => x.seq ≠ r.seq))).putTrack t
        (if r.state = .draining then (s.track t).dropSweep r.seq else s.track t)).setReadout
          (s.readout.endReads (Read.ofSweep t r.seq) .overtaken)).setMem { s.mem with
            granted := s.mem.granted.map (fun b =>
              if (b.isRead && s.readout.queue.head?.any (Read.ofSweep t r.seq)) ||
                  (!b.isRead && r.state = .draining && b.track = t && b.seq = r.seq) then b.unheed else b) } := by
  by_cases hd : r.state = .draining
  · have hm : (s.mem.granted.map (fun b => if !b.isRead && b.track = t && b.seq = r.seq then b.unheed else b)).map
          (fun b => if b.isRead && s.readout.queue.head?.any (Read.ofSweep t r.seq) then b.unheed else b) =
        s.mem.granted.map (fun b =>
          if (b.isRead && s.readout.queue.head?.any (Read.ofSweep t r.seq)) ||
              (!b.isRead && r.state = .draining && b.track = t && b.seq = r.seq) then b.unheed else b) := by
      rw [List.map_map]
      refine List.map_congr_left fun b _ => ?_
      have hb : b.unheed.isRead = b.isRead := rfl
      cases hr : b.isRead <;> simp [hd, hr]
      split <;> simp_all
    rw [← hm]
    unfold retire removeRecord overtakeSweep
    simp only [h, hd, Bool.false_eq_true, if_false, if_true, endReads_eq]
    rfl
  · unfold retire removeRecord overtakeSweep
    simp only [h, hd, Bool.false_eq_true, if_false, decide_false, Bool.and_false, Bool.false_and, Bool.or_false,
      endReads_eq]
    have ht : ∀ l, (s.putRecords t l).putTrack t (s.track t) = s.putRecords t l :=
      fun l => putTrack_self (s.putRecords t l) t
    rw [ht]
    rfl

end Sys2Proof.Machine
end

