-- ==== Sys2Proof/WellFormed.lean ====
section
/-!
DEFINITION. The checks on a command's operands. `exec` is total and gives every command a meaning; these say which
operands an event of the part can have.
-/

namespace Sys2Proof

/-- Elapsed counts are taken modulo 2^48 (R11, R29), so an interval of 2^48 counts or more between two commands has no
meaning of its own. -/
def Instr.dtOk (i : Instr) : Bool := i.dt < 2 ^ 48

/-- An order in which the eight tracks take one event names each of them once. -/
def Instr.orderOk (i : Instr) : Bool :=
  match i.order? with
  | none => true
  | some o => o.length == 8 && (List.finRange 8).all (fun t => o.contains t)

/-- An end symbol never breaks a frame: it closes it (R168). -/
def Instr.symbolOk (i : Instr) : Bool := i.symbol? != some .stop

/-- A well-formed command. -/
def Instr.wf (i : Instr) : Bool := i.dtOk && i.orderOk && i.symbolOk

end Sys2Proof
end

