-- ==== Sys2Proof/Tests/Slice0.lean ====
section
/-!
SUPPORT. The model's own tests: the checks of WellFormed refuse ill-formed commands; small runs whose values the spec
gives; and for each statement with hypotheses, concrete values that meet them, clause by clause.
-/

-- One theorem after another: many at once, each waiting in the kernel, use up the memory of the check.
set_option Elab.async false

namespace Sys2Proof.Tests

open Sys2Proof.Machine

/-! ## Ill-formed commands -/

theorem test_wf_interval_too_long :
    (Instr.readClock (2 ^ 48)).wf = false ∧ (Instr.readClock (2 ^ 48 - 1)).wf = true := by decide

theorem test_wf_order_repeats_a_track :
    (Instr.windowClose 0 .A [0, 1, 2, 3, 4, 5, 6, 6]).wf = false ∧
      (Instr.windowClose 0 .A [7, 6, 5, 4, 3, 2, 1, 0]).wf = true := by decide

theorem test_wf_order_too_long : (Instr.setMarker 0 [0, 1, 2, 3, 4, 5, 6, 7, 0]).wf = false := by decide

theorem test_wf_end_symbol_breaks_no_frame :
    (Instr.inboundFrameBroken 0 .stop).wf = false ∧ (Instr.inboundFrameBroken 0 .idle).wf = true := by decide

theorem test_no_word_spells_a_command : decodeTableWord 16 0x91 = none := rfl

/-! ## Helpers -/

/-- A state with one request waiting and nothing owed. -/
def ask (r : RawRequest) (s : State) : State := s.setLink { Link.reset with queue := [r], owed := none }

/-- A state out of reset with one track unit given. -/
def withTrack (t : Track) (u : TrackUnit) : State := State.reset.putTrack t u

/-- A record of one page in a state, with a sequence. -/
def record (seq : Nat) (st : RecordState) : SweepRecord :=
  { seq := seq, state := st, markerTime := 0, period := 0, unit := .A, firstPage := 0, length := 64, generation := 0,
    offsetUsed := 0, coasted := false, short := false, clipped := false, offsetRail := false, kept := false,
    averaged := false, damaged := false, losses := none }

/-- A request that parses is served wherever the command unit is free. -/
theorem serves_ask {r : RawRequest} {q : Request} {s : State} (h : s.resetHeld = false)
    (hp : parseRequest r = some q) : Serves (ask r s) r [] q :=
  ⟨h, rfl, Nat.zero_lt_succ 3, rfl, hp⟩

/-- The state after a list of commands, where none stops. -/
def after (l : List Instr) (s : State) : State :=
  match runCommands l s with
  | .next s' => s'
  | .fault _ => s
  | .refused _ => s

/-- A request of a code and payload, with tag 7. -/
def req (code : Nat) (payload : List Byte) : RawRequest := { code := code, tag := 7, payload := payload }

/-- The state right after reset with one request waiting. -/
def asked (code : Nat) (payload : List Byte) : State := ask (req code payload) State.reset

/-- The payload of the one reply after a command. -/
def replyOf (c : Instr) (s : State) : List (List Byte) := (after [c] s).link.replies.map (fun r => r.payload)

/-! ## Every request kind is parsed, and served by its own command -/

/-- A payload of each kind at the length and layout of Table 12.3, with the request it spells: SET_MARKER to CHECK_PAGE. -/
def kindsOfCapture : List (RawRequest × Request) :=
  [(req 0x01 [1, 0, 2, 0, 3, 15, 0], .setMarker 1 [(0, 2), (3, 15)]),
   (req 0x02 [1], .markerStatus 1),
   (req 0x10 [7, 7, 0, 0xE0, 3, 0, 16], .stageTrack 7 [(7, -8192), (3, 4096)]),
   (req 0x11 [7], .commitTrack 7),
   (req 0x12 [7], .updateOffset 7),
   (req 0x13 [7, 1, 2], .armTrack 7 513),
   (req 0x14 [7], .stopTrack 7),
   (req 0x15 [7], .abortTrack 7),
   (req 0x16 [7], .resetTrack 7),
   (req 0x17 [7], .trackStatus 7),
   (req 0x20 [7, 255, 7, 2, 0, 1, 1, 0xFF, 0xFF, 0, 9, 9, 9], .loadMap 7 2047 [.map 0xFFFF true, .unmap]),
   (req 0x21 [7, 255, 7], .checkPage 7 2047)]

/-- The same, from PAGE_OWNER to INJECT_FAULT. -/
def kindsOfStores : List (RawRequest × Request) :=
  [(req 0x22 [255, 255], .pageOwner 65535),
   (req 0x30 [7, 1, 0, 0, 128], .keepSweep 7 2147483649),
   (req 0x31 [7, 1, 0, 0, 128], .releaseSweep 7 2147483649),
   (req 0x32 [7, 1, 0, 0, 128], .dropSweep 7 2147483649),
   (req 0x33 [7, 1, 0, 0, 0, 16], .listSweeps 7 1 16),
   (req 0x34 [7, 1, 0, 0, 0], .sweepInfo 7 1),
   (req 0x40 [], .standby),
   (req 0x41 [], .wake),
   (req 0x42 [1], .setAutoStandby true none),
   (req 0x42 [0, 255], .setAutoStandby false (some 255)),
   (req 0x43 [], .memoryStatus),
   (req 0x50 [2], .setChecking 2),
   (req 0x51 [], .readFault),
   (req 0x52 [], .clearFault),
   (req 0x53 [7, 1], .injectFault 7 1)]

/-- The same, from READ_SWEEP on. -/
def kindsOfReports : List (RawRequest × Request) :=
  [(req 0x60 [7, 1, 0, 0, 0, 2, 1, 0, 1, 1], .readSweep 7 1 258 256 1),
   (req 0x61 [7, 1], .readMean 7 1),
   (req 0x62 [2, 1], .abortRead 258),
   (req 0x70 [7, 0], .setAverager 7 false none none),
   (req 0x70 [7, 1, 0, 1, 2, 0], .setAverager 7 true (some (256, 2)) none),
   (req 0x70 [7, 1, 0, 1, 2, 0, 1], .setAverager 7 true (some (256, 2)) (some true)),
   (req 0x71 [7], .averagerStatus 7),
   (req 0x72 [7], .restartAverage 7),
   (req 0x80 [29, 7], .setNoticeLevel 29 7),
   (req 0x81 [7], .setNoticeThreshold 7),
   (req 0x82 [], .noticeStatus),
   (req 0x83 [2, 29, 0], .clearNotices [29, 0]),
   (req 0x90 [], .queryIdentity),
   (req 0x91 [], .readClock),
   (req 0x92 [], .resetPart)]

/-- All kinds. -/
def kinds : List (RawRequest × Request) := kindsOfCapture ++ kindsOfStores ++ kindsOfReports

theorem test_every_kind_parses : ∀ k ∈ kinds, parseRequest k.1 = some k.2 := by decide +kernel

/-- Each is taken by its own command, leaves the queue and is answered or stays in hand; a wrong command takes none. -/
theorem test_every_kind_is_taken :
    (kinds.all fun k =>
      let s := after [k.2.command 0 []] (ask k.1 State.reset)
      s.link.queue.isEmpty && (s.link.replies.length + s.link.inHand.toList.length = 1)) = true := by
  decide +kernel

theorem test_wrong_command_takes_nothing :
    (after [.resetPart 0] (asked 0x91 [])).link.queue = [req 0x91 []] := by decide +kernel

/-- A duplicated field, an undefined one, a flag byte of 2 and a length off by one are MALFORMED. -/
theorem test_malformed_payloads :
    ([req 0x10 [0, 3, 0, 16, 3, 0, 16], req 0x10 [0, 12, 0, 0], req 0x42 [2], req 0x17 [], req 0x17 [0, 0],
      req 0x20 [0, 0, 0, 2, 0, 0, 0, 0, 0], req 0x20 [0, 0, 0, 1, 0, 2, 0, 0, 0], req 0x83 [2, 0],
      req 0x03 []].all fun r => parseRequest r = none) = true := by decide

/-! ## Small runs -/

/-- R167: the register starts at 65535; one zero byte; the nine digits "1" to "9". -/
theorem test_crc_values :
    crc [] = 0xFFFF ∧ crc [0] = 0xE1F0 ∧ crc [0x31, 0x32, 0x33, 0x34, 0x35, 0x36, 0x37, 0x38, 0x39] = 0x29B1 := by
  decide +kernel

/-- A READ_CLOCK frame symbol by symbol, served 100 counts after reset: status OK and the 6 bytes of the time. -/
theorem test_read_clock_over_the_link :
    replyOf (.readClock 60)
      (after (frameCommands 2 { ftype := .request, code := 0x91, tag := 5, payload := [] }) State.reset) =
      [[0, 84, 0, 0, 0, 0, 0]] := by decide +kernel

/-- R175, Table 10.5. -/
theorem test_query_identity_begins_with_part_code :
    (replyOf (.queryIdentity 0) (asked 0x90 [])).map (fun p => p.take 4) = [[0, 0xD4, 0x12, 1]] := by decide +kernel

theorem test_fifth_request_is_answered_full :
    replyOf (.inboundFrameEnd 0)
      ((State.reset).setLink { Link.reset with
        owed := none, receiver := .body,
        buffer := ({ ftype := .request, code := 0x91, tag := 5, payload := [] } : Frame).wire,
        queue := List.replicate 4 (req 0x91 []) }) = [[3]] := by decide +kernel

/-- The start-up frame goes out first, then the pair idles (R174, R177). -/
theorem test_restarted_is_sent_first :
    (after [.outboundPairFree 0] State.reset).link.outgoing.map (fun f => (f.code, f.payload)) =
        some (31, [0, 0, 0xD4, 0x12, 1]) ∧
      (after [.outboundPairFree 0, .outboundPairFree 0] State.reset).link.outgoing = none := by decide +kernel

/-- Table 2.1: commit of the defaults raises the generation to 1 (R26). -/
theorem test_commit_of_defaults : ((after [.commitTrack 0] (asked 0x11 [0])).track 0).generation = 1 := by decide +kernel

/-- R25: a sweep of 4096 samples needs a window of 16 pages. -/
theorem test_commit_refuses_a_small_window :
    replyOf (.commitTrack 0)
      (ask (req 0x11 [0]) (withTrack 0
        { TrackUnit.reset with staged := { ParamSet.default with length := 4096, windowSize := 15 } })) = [[1]] := by
  decide +kernel

/-- R72: the second item names a page owned by another entry, so one item is applied. -/
theorem test_load_map_applies_a_prefix :
    replyOf (.loadMap 0) (asked 0x20 [0, 5, 0, 2, 0, 1, 0, 9, 0, 1, 0, 9, 0]) = [[6, 1, 0]] := by decide +kernel

/-- Four periods of 100000 counts under RISING lock unit A at the fifth pulse (R8 to R10). -/
theorem test_four_agreeing_periods_lock :
    let pulse : List Instr := [.pulseActiveEdge 99000 ⟨.A, .rising⟩, .pulseTrailingEdge 1000 ⟨.A, .falling⟩ []]
    let s := after ((.setMarker 0 [] :: pulse) ++ pulse ++ pulse ++ pulse ++ pulse) (asked 0x01 [0, 0, 1, 0])
    s.markerA.state = .locked ∧ s.markerA.estimate = 100000 ∧ s.markerA.count = 4 ∧
      s.markerA.window = some { start := 499000, openAfter := 87500, closeAfter := 112500 } := by decide +kernel

/-- R5: under RISING the pulse is the high level, under FALLING the low one; the edge of the other direction starts none. -/
theorem test_edges_of_a_polarity :
    (after [.pulseActiveEdge 5 ⟨.A, .falling⟩]
        (State.reset.setMarkerA { MarkerUnit.reset with detected := some .rising })).markerA.pulse = none ∧
      (after [.pulseActiveEdge 5 ⟨.A, .falling⟩]
        (State.reset.setMarkerA { MarkerUnit.reset with detected := some .falling })).markerA.pulse = some 5 := by
  decide +kernel

/-- R6: shorter lows make FALLING, equal sums RISING. -/
theorem test_polarity_of_sums :
    (Measurement.polarity { highs := [900, 900], lows := [100, 100], levelStart := none }) = .falling ∧
      (Measurement.polarity { highs := [500, 500], lows := [500, 500], levelStart := none }) = .rising := by decide

/-- R34: gain 1536 on raw 3 gives 4.5, rounded away from zero; saturation at −32767 (R34). -/
theorem test_conversion :
    scaled 3 1536 0 = 5 ∧ scaled (-3) 1536 0 = -5 ∧ saturate (scaled (-32768) 2047 (-1)) = -32767 := by decide

/-- R29: strobe 1 of 1024 at phase 16 over 1024000 counts comes 1500 counts after the marker. -/
theorem test_strobe_offset : strobeOffset { ParamSet.default with phase := 16 } 1024000 1 = 1500 := by decide

/-- Table 7.2: the first data columns, and the last three-bit and first five-bit ones. -/
theorem test_columns :
    dataColumns.take 4 = [7, 11, 13, 14] ∧ dataColumns.length = 64 ∧ dataColumns[55]? = some 224 ∧
      dataColumns[56]? = some 31 := by decide +kernel

/-- R128, R136: single and double errors in the word 0. -/
theorem test_codes_of_an_injected_word :
    decodeWord 1 (checkBits 0) = .data 0 ∧ decodeWord 3 (checkBits 0) = .multiple ∧ decodeWord 0 0 = .allZero ∧
      decodeWord (2 ^ 64 - 1) 255 = .allOnes ∧ decodeWord 0 (checkBits 0) = .clean := by decide +kernel

/-- R117, R118, R120: standby entered at once from reset, a wake, and the re-entry flag after it. -/
theorem test_standby_and_wake :
    (after [.standby 0] (asked 0x40 [])).mem.state = .standby ∧
      (after [.standby 0, .wakingExitComplete 0]
        (ask (req 0x40 []) (State.reset.setMem { MemControl.reset with heldWake := true }))).mem.state = .running ∧
      (after [.standby 0, .wakingExitComplete 0]
        (ask (req 0x40 []) (State.reset.setMem { MemControl.reset with heldWake := true }))).mem.reentry = true := by
  decide +kernel

/-- R114: the expiry at B = 8 is an overrun. -/
theorem test_refresh_overrun :
    (after [.refreshIntervalExpiry 312]
      (State.reset.setMem { MemControl.reset with balance := 8, refresh := .waiting, granted := [] })).check.firstUncorrectable
        = some (.refreshOverrun 312) := by decide +kernel

/-- R115: a granted refresh with nothing open goes to flight at once, and its completion lowers B. -/
theorem test_pull_in_refresh :
    (after [.memoryGrant 0, .refreshComplete 0] State.reset).mem.balance = -1 := by decide +kernel

/-- R160: the mean of 5 over 2 rounds away from zero. -/
theorem test_mean_rounds_away :
    roundNearest 5 2 = 3 ∧ roundNearest (-5) 2 = -3 ∧ roundNearest 4 3 = 1 := by decide

/-- R179, R180: the higher level stands first, and a second posting sets the again flag. -/
theorem test_posting_order :
    let n := ((NoticeUnit.reset.post (Source.trackStopped 0) (.trackStopped .stopped 0 0)).post Source.linkError
      (.linkError .crc 0)).post Source.linkError (.linkError .length 1)
    n.entries.map (fun e => (e.source.val, e.again)) = [(29, true), (8, false)] := by decide

/-- R112: the search starts at the pointer and wraps from 7 to 0. -/
theorem test_round_robin : pickTrack (fun t => t = 2 || t = 5) 3 = some 5 ∧ pickTrack (fun t => t = 2) 3 = some 2 := by
  decide

/-! ## Values that meet the statements' hypotheses: link and requests -/

theorem witness_StepRunsFrontCommand :
    (State.reset.setPending [.readClock 0, .wake 0]).pending = .readClock 0 :: [.wake 0] ∧
      State.reset.pending = [] ∧ State.reset.resetHeld = false ∧ (State.reset.setResetHeld true).resetHeld = true := by
  decide

theorem witness_ResetsRestoreAndHold :
    (State.reset.setResetHeld true).resetHeld = true ∧ State.reset.resetHeld = false ∧
      Instr.readClock 5 ≠ .powerOnReset ∧ Instr.resetLineAsserted ≠ .resetLineReleased := by decide

/-- A receiver state with a buffer. -/
def receiving (st : ReceiverState) (buffer : List Byte) : State :=
  State.reset.setLink { Link.reset with receiver := st, buffer := buffer }

theorem witness_ReceiverTakesSymbols :
    State.reset.link.receiver = .hunt ∧
      (receiving .header [1, 0, 0x91, 0, 5, 0]).link.buffer.length < 7 ∧
      (receiving .header [1, 0, 0x91, 0, 5, 0, 0x11]).link.buffer.length = 7 ∧
      1040 < payloadLength ([1, 0, 0x91, 0, 5, 0, 0x11] ++ [4]) ∧
      payloadLength ([1, 0, 0x91, 0, 5, 0, 0x10] ++ [4]) ≤ 1040 ∧
      (receiving .body [1, 0, 0x91, 0, 5, 0, 0, 0, 9]).link.buffer.length <
        8 + payloadLength [1, 0, 0x91, 0, 5, 0, 0, 0, 9] + 2 ∧
      8 + payloadLength [1, 0, 0x91, 0, 5, 0, 0, 0, 9, 9] + 2 ≤
        (receiving .body [1, 0, 0x91, 0, 5, 0, 0, 0, 9, 9]).link.buffer.length := by decide

/-- A whole frame of a type without payload. -/
def bareFrame (ty : FrameType) : List Byte := ({ ftype := ty, code := 0x91, tag := 5, payload := [] } : Frame).wire

theorem witness_ReceiverTakesSymbols_end :
    (receiving .body [1, 0, 0x91, 0, 5, 0, 0, 0, 9]).link.buffer.length <
        8 + payloadLength [1, 0, 0x91, 0, 5, 0, 0, 0, 9] + 2 ∧
      (crc ([1, 0, 0x91, 0, 5, 0, 0, 0, 9, 9].take 8)).toNat ≠ fieldAt [1, 0, 0x91, 0, 5, 0, 0, 0, 9, 9] 8 ∧
      (crc ((bareFrame .reply).take 8)).toNat = fieldAt (bareFrame .reply) 8 ∧ fieldAt (bareFrame .reply) 0 ≠ 1 ∧
      (crc ((bareFrame .request).take 8)).toNat = fieldAt (bareFrame .request) 8 ∧
      fieldAt (bareFrame .request) 0 = 1 ∧ payloadLength (bareFrame .request) = 0 ∧
      8 + 0 + 2 ≤ (bareFrame .request).length ∧ ([1, 2, 3] : List Nat).length < 4 ∧
      4 ≤ ([1, 2, 3, 4] : List Nat).length := by decide +kernel

theorem witness_SentRequestFrameIsQueued :
    (List.replicate 1040 (255 : Byte)).length ≤ 1040 ∧ 65535 < 65536 ∧ State.reset.link.receiver = .hunt ∧
      State.reset.link.queue.length < 4 := by
  refine ⟨?_, by decide, rfl, by decide⟩
  rw [List.length_replicate]

theorem witness_EveryRequestIsTakenAndAnswered :
    Serves (asked 0x92 []) (req 0x92 []) [] .resetPart ∧ Serves (asked 0x40 []) (req 0x40 []) [] .standby :=
  ⟨serves_ask rfl rfl, serves_ask rfl rfl⟩

theorem witness_RefusedRequestChangesNothing :
    Serves (asked 0x14 [8]) (req 0x14 [8]) [] (.stopTrack 8) ∧
      (after [.stopTrack 0] (asked 0x14 [8])).link.replies =
        (asked 0x14 [8]).link.replies ++
          [{ own := true, code := 0x14, tag := 7, payload := Status.code .badField :: [] }] ∧
      Status.badField ≠ .ok :=
  ⟨serves_ask rfl rfl, by decide +kernel, by decide⟩

theorem witness_OutOfRangeTrackIsRefused :
    Serves (asked 0x14 [8]) (req 0x14 [8]) [] (.stopTrack 8) ∧ (Request.stopTrack 8).trackField = some 8 ∧
      Serves (asked 0x20 [255, 0, 0, 0, 0]) (req 0x20 [255, 0, 0, 0, 0]) [] (.loadMap 255 0 []) :=
  ⟨serves_ask rfl rfl, rfl, serves_ask rfl rfl⟩

theorem witness_MalformedRequestIsAnswered :
    (asked 0x03 []).resetHeld = false ∧ (asked 0x03 []).link.inHand = none ∧ ownWaiting (asked 0x03 []) < 4 ∧
      (asked 0x03 []).link.queue = [req 0x03 []] ∧ parseRequest (req 0x03 []) = none ∧
      parseRequest (req 0x91 [0]) = none ∧ parseRequest (req 0x20 [0, 0, 0, 2, 0]) = none := by decide

/-- R189: the reply to a malformed LOAD_MAP carries the applied count 0 behind its status. -/
theorem test_malformed_load_map : replyOf (.malformed 0) (asked 0x20 [0, 0, 0, 2, 0]) = [[8, 0, 0]] := by decide +kernel

/-- A link with nothing owed. -/
def quiet (s : State) : State := s.setLink { Link.reset with owed := none }

/-- An entry of the pending-notice list. -/
def entry (src : Source) : NoticeEntry :=
  { source := src, occurrence := .linkError .crc 0, again := false, order := 0 }

theorem witness_OutboundPairChoosesInOrder :
    State.reset.link.owed = some .powerOn ∧
      (quiet State.reset).link.owed = none ∧ (quiet State.reset).link.replies = [] ∧
      (State.reset.setNotices { NoticeUnit.reset with entries := [entry Source.linkError], threshold := 6 }).notices.level
        Source.linkError = 6 ∧
      (State.reset.setNotices { NoticeUnit.reset with entries := [entry Source.linkError] }).notices.level
        (Source.sweepDone 7) < 1 ∧
      (State.reset.setReadout
        { queue := [], ended := [{ tag := 1, mean := false, position := 0, status := .reset, delivered := 0 }] }
        ).readout.ended ≠ [] ∧
      State.reset.readout.queue = [] := by decide

/-- A read of `count` samples from position 0 with the samples of its first frame gathered. -/
def builtRead (count : Nat) : Read :=
  { tag := 1, kind := .sweep 0 0, track := 0, firstPos := 0, count := count, order := .lowFirst, delivered := 0,
    nextFetch := 8, samples := cells 0 (List.replicate (min 256 count) { value := 1, damaged := false }) }

theorem witness_OutboundPairChoosesInOrder_frames :
    (quiet State.reset).link.owed = none ∧ (quiet State.reset).notices.entries = [] ∧
      ((builtRead 256).builtFrame 0).isSome = true ∧ (builtRead 256).count ≤ 256 * (0 / 256) + 256 ∧
      ((builtRead 257).builtFrame 0).isSome = true ∧ 256 * (0 / 256) + 256 < (builtRead 257).count ∧
      ({ builtRead 2 with samples := [] } : Read).builtFrame 0 = none := by decide +kernel

theorem witness_IdentityAndClockAreReported :
    Serves (asked 0x90 []) (req 0x90 []) [] .queryIdentity ∧ Serves (asked 0x91 []) (req 0x91 []) [] .readClock :=
  ⟨serves_ask rfl rfl, serves_ask rfl rfl⟩

/-- A track unit that captures the FILLING sweep 5. -/
def capturing (st : TrackState) (flag : Option Nat) : State :=
  (((withTrack 0 { TrackUnit.reset with state := st, selected := some .A, seqCounter := 6 }).putRecords 0
    [record 4 .draining, record 5 .filling]).putLane 0 { Lane.reset with flag := flag })

theorem witness_ResetPartActsOnEveryBlock :
    Serves (asked 0x92 []) (req 0x92 []) [] .resetPart ∧
      fillingRecord (capturing .sweeping none) 0 = some (record 5 .filling) ∧ fillingRecord State.reset 0 = none :=
  ⟨serves_ask rfl rfl, by decide +kernel, by decide⟩

/-- A write burst of a track's sweep, attached to its writer. -/
def writeOf (seq : Nat) (heeded : Bool) : Burst :=
  { page := 8, offset := 0, track := 0, seq := seq, first := 0, heeded := heeded, attached := true,
    job := .write [] none }

/-- RESET_PART leaves a writer the burst of a DRAINING sweep, and none of a sweep that left the index before (Table 3.1). -/
theorem test_reset_part_bursts :
    let s := capturing .sweeping none
    (resetPart (s.setMem { s.mem with granted := [writeOf 3 false, writeOf 4 true, writeOf 5 true] })).mem.granted =
      [{ writeOf 3 false with attached := false }, writeOf 4 true,
        { writeOf 5 false with attached := false }] := by decide +kernel

/-! ## Marker units -/

theorem witness_QueriesReportTheirUnits_marker :
    Serves (asked 0x02 [1]) (req 0x02 [1]) [] (.markerStatus 1) ∧ (1 : Nat) = (unitByte .B).toNat ∧
      Serves (asked 0x02 [2]) (req 0x02 [2]) [] (.markerStatus 2) :=
  ⟨serves_ask rfl rfl, rfl, serves_ask rfl rfl⟩

theorem witness_SetMarkerRestartsAcquisition :
    Serves (asked 0x01 [2]) (req 0x01 [2]) [] (.setMarker 2 []) ∧
      Serves (asked 0x01 [0, 2, 0, 0]) (req 0x01 [0, 2, 0, 0]) [] (.setMarker 0 [(2, 0)]) ∧
      MarkerSettings.default.setFields [(2, 0)] = none ∧
      Serves (asked 0x01 [0, 2, 16, 0]) (req 0x01 [0, 2, 16, 0]) [] (.setMarker 0 [(2, 16)]) ∧
      MarkerSettings.default.setFields [(2, 16)] = some { MarkerSettings.default with tolerance := 16 } :=
  ⟨serves_ask rfl rfl, serves_ask rfl rfl, by decide, serves_ask rfl rfl, by decide⟩

theorem witness_FieldsStagingAndCommitAreChecked_fields :
    MarkerSettings.default.setField (0, 2) = some { MarkerSettings.default with polarityMode := .falling } ∧
      MarkerSettings.default.setField (3, 16) = none ∧
      ParamSet.default.setField (3, 4096) = some { ParamSet.default with length := 4096 } ∧
      ParamSet.default.setField (3, 66) = none ∧ ParamSet.default.setField (7, -8193) = none ∧
      ParamSet.default.setField (11, 2) = some { ParamSet.default with interval := .every32 } := by decide

/-- A state in which unit A is as given. -/
def withMarker (m : MarkerUnit) : State := State.reset.setMarkerA m

/-- A unit that acquires under RISING, with a pulse in progress from a time. -/
def acquiring (ref : Option Time) (estimate count : Nat) (p : Time) : MarkerUnit :=
  { MarkerUnit.reset with
    state := .acquiring, detected := some .rising, reference := ref, estimate := estimate, count := count,
    pulse := some p }

theorem witness_PulsesAcquireAndLock :
    (withMarker MarkerUnit.reset).markerA.detected = none ∧
      (withMarker { MarkerUnit.reset with detected := some .rising }).markerA.pulse = none ∧
      -- a pulse of 159 counts is a glitch, one of 160 qualifies
      elapsed 0 159 < MarkerUnit.reset.settings.minWidth * 16 ∧
      MarkerUnit.reset.settings.minWidth * 16 ≤ elapsed 0 160 ∧
      (acquiring none 0 0 0).reference = none ∧
      elapsed 0 39999 < 40000 ∧ 400000000 < elapsed 0 400000001 ∧ 40000 ≤ elapsed 0 40000 ∧
      elapsed 0 400000000 ≤ 400000000 ∧
      -- estimate 40000 allows 5000 to either side
      (acquiring (some 0) 40000 3 45001).estimate + 40000 * MarkerUnit.reset.settings.tolerance / 64 < elapsed 0 45001 ∧
      elapsed 0 45000 ≤ 40000 + 40000 * MarkerUnit.reset.settings.tolerance / 64 ∧
      elapsed 0 40000 + 45714 * MarkerUnit.reset.settings.tolerance / 64 < 45715 ∧
      (acquiring (some 0) 40000 2 40000).count ≠ 0 ∧ (acquiring (some 0) 40000 2 40000).count ≠ 3 := by decide

theorem witness_PulsesAcquireAndLock_lock :
    (acquiring (some 0) 40000 3 45000).detected = some .rising ∧ (acquiring (some 0) 40000 3 45000).pulse = some 45000 ∧ (acquiring (some 0) 40000 3 45000).state = .acquiring ∧
      (acquiring (some 0) 40000 3 45000).reference = some 0 ∧ (acquiring (some 0) 40000 3 45000).count = 3 ∧
      MarkerUnit.reset.settings.minWidth * 16 ≤ elapsed 45000 (0 + BitVec.ofNat 48 45160) ∧
      40000 ≤ elapsed 0 45000 ∧ elapsed 0 45000 ≤ 400000000 ∧ elapsed 0 45000 ≤ 40000 + 40000 * 8 / 64 ∧
      40000 ≤ elapsed 0 45000 + 40000 * 8 / 64 := by decide

/-- A window of a marker at time 0 with estimate 80000. -/
def window : Window := { start := 0, openAfter := 70000, closeAfter := 90000 }

/-- A unit in LOCKED or COASTING with that window. -/
def tracking (st : MarkerState) (coast : Nat) (pulse : Option Time) (held : Bool) : MarkerUnit :=
  { MarkerUnit.reset with
    state := st, detected := some .rising, estimate := 80000, count := 4, coast := coast, lastMarker := some 0,
    window := some window, closeHeld := held, pulse := pulse }

theorem witness_WindowPulseIsEarlyOrAccepted :
    (tracking .locked 0 (some 70000) false).window = some window ∧
      (tracking .locked 0 (some 70000) false).detected = some .rising ∧
      10 * 16 ≤ elapsed 70000 (0 + BitVec.ofNat 48 70160) ∧
      elapsed 70000 (0 + BitVec.ofNat 48 70160) ≤ elapsed window.start (0 + BitVec.ofNat 48 70160) ∧
      elapsed window.start 69999 < window.openAfter ∧ window.openAfter ≤ elapsed window.start 70000 ∧
      elapsed window.start 90000 ≤ window.closeAfter ∧ (tracking .coasting 1 (some 90000) false).estimate = 80000 ∧
      -- a pulse that began 10 counts before the marker, and one that began after the close time
      10 * 16 ≤ elapsed (0 - 10#48) (0 + BitVec.ofNat 48 150) ∧
      elapsed window.start (0 + BitVec.ofNat 48 150) < elapsed (0 - 10#48) (0 + BitVec.ofNat 48 150) ∧
      window.closeAfter < elapsed window.start 90001 := by
  decide

theorem witness_EmptyWindowCoastsOrLoses :
    (tracking .coasting 2 none false).coast + 1 ≤ MarkerSettings.default.coastLimit ∧
      MarkerSettings.default.coastLimit < (tracking .coasting 3 none false).coast + 1 ∧
      elapsed window.start (0 + BitVec.ofNat 48 89999) < window.closeAfter ∧
      window.closeAfter ≤ elapsed window.start (0 + BitVec.ofNat 48 90000) ∧
      (tracking .locked 0 (some 90000) false).pulse = some 90000 ∧
      window.openAfter ≤ elapsed window.start 90000 ∧ elapsed window.start 90000 ≤ window.closeAfter ∧
      elapsed window.start 69999 < window.openAfter ∧ window.closeAfter < elapsed window.start 90001 ∧
      (tracking .locked 0 (some 90000) true).closeHeld = true ∧ elapsed 90000 (0 + BitVec.ofNat 48 90159) < 10 * 16 := by
  decide

theorem witness_LevelsDecidePolarity :
    MarkerUnit.reset.settings.polarityMode = .auto ∧ MarkerUnit.reset.measurement.levelStart = none ∧
      elapsed 0 159 < 10 * 16 ∧ 10 * 16 ≤ elapsed 0 160 ∧
      ([160, 160] : List Nat).length = 2 ∧ ([160] ++ [elapsed 0 160] : List Nat) = [160, 160] ∧
      ([160] : List Nat).length < 2 := by decide

/-! ## Tracks and lanes -/

theorem witness_FieldsStagingAndCommitAreChecked_staging :
    Serves (asked 0x10 [0, 3, 66, 0]) (req 0x10 [0, 3, 66, 0]) [] (.stageTrack 0 [(3, 66)]) ∧
      ParamSet.default.setFields [(3, 66)] = none ∧
      Serves (asked 0x10 [0, 3, 0, 16]) (req 0x10 [0, 3, 0, 16]) [] (.stageTrack 0 [(3, 4096)]) ∧
      (ParamSet.default.setFields [(3, 4096)]).isSome = true ∧
      Serves (asked 0x12 [7]) (req 0x12 [7]) [] (.updateOffset 7) ∧ TrackUnit.reset.active.offsetMode ≠ .onRequest :=
  ⟨serves_ask rfl rfl, by decide, serves_ask rfl rfl, by decide, serves_ask rfl rfl, by decide⟩

/-- A track unit whose staged set differs from the active one in the fields given. -/
def staging (st : TrackState) (base size length : Nat) : TrackUnit :=
  { TrackUnit.reset with
    state := st, staged := { ParamSet.default with base := base, windowSize := size, length := length } }

theorem witness_FieldsStagingAndCommitAreChecked_commit :
    Serves (ask (req 0x11 [0]) (withTrack 0 (staging .armed 1 2047 1024))) (req 0x11 [0]) [] (.commitTrack 0) ∧
      (staging .armed 1 2047 1024).staged.base ≠ (staging .armed 1 2047 1024).active.base ∧
      2048 < (staging .idle 1 2048 1024).staged.base + (staging .idle 1 2048 1024).staged.windowSize ∧
      (staging .idle 0 15 4096).staged.windowSize < 2 * (((staging .idle 0 15 4096).staged.length + 511) / 512) ∧
      (staging .sweeping 0 2048 64).staged.placement + (staging .sweeping 0 2048 64).staged.duration ≤
        (staging .sweeping 0 2048 64).staged.length ∧
      ({ ParamSet.default with length := 64, placement := 49 } : ParamSet).length <
        ({ ParamSet.default with length := 64, placement := 49 } : ParamSet).placement + 16 :=
  ⟨serves_ask rfl rfl, by decide⟩

theorem witness_CommitTakesEffectAtOnce :
    Serves (ask (req 0x11 [0]) (withTrack 0 (staging .idle 0 16 4096))) (req 0x11 [0]) [] (.commitTrack 0) ∧
      0 + 16 ≤ 2048 ∧ 2 * ((4096 + 511) / 512) ≤ 16 ∧ 0 + 16 ≤ 4096 ∧
      (staging .armed 0 2048 64).staged.base = (staging .armed 0 2048 64).active.base ∧
      (staging (.halted .noRoom) 2032 16 4096).state = .halted .noRoom ∧
      -- an averaged track with N 64 set to 64 and to 4096
      (staging .armed 0 2048 64).staged.length = 64 ∧ (staging .idle 0 16 4096).staged.length ≠ 64 ∧
      ({ Averager.reset with region := some { base := 0, length := 64 } } : Averager).region ≠ none :=
  ⟨serves_ask rfl rfl, by decide⟩

theorem witness_ArmStopAndAbortByTrackState :
    Serves (asked 0x13 [7, 0, 0]) (req 0x13 [7, 0, 0]) [] (.armTrack 7 0) ∧
      Serves (asked 0x13 [7, 255, 255]) (req 0x13 [7, 255, 255]) [] (.armTrack 7 65535) ∧
      Serves (asked 0x14 [0]) (req 0x14 [0]) [] (.stopTrack 0) ∧ (capturing .sweeping none |>.track 0).state = .sweeping ∧
      TrackUnit.reset.state = .idle ∧ TrackUnit.reset.active.markerSelect = .auto ∧
      (withMarker (tracking .coasting 1 none false)).markerA.state = .coasting :=
  ⟨serves_ask rfl rfl, serves_ask rfl rfl, serves_ask rfl rfl, by decide⟩

theorem witness_ArmStopAndAbortByTrackState_abort :
    Serves (ask (req 0x15 [0]) (capturing .sweeping none)) (req 0x15 [0]) [] (.abortTrack 0) ∧
      fillingRecord (ask (req 0x15 [0]) (capturing .sweeping none)) 0 = some (record 5 .filling) ∧
      ((ask (req 0x15 [0]) (capturing .sweeping none)).track 0).state ≠ .idle ∧
      fillingRecord (withTrack 0 { TrackUnit.reset with state := .armed }) 0 = none :=
  ⟨serves_ask rfl rfl, by decide +kernel⟩

theorem witness_ResetTrackClearsOneTrack :
    Serves (asked 0x16 [7]) (req 0x16 [7]) [] (.resetTrack 7) ∧
      ({ CheckUnit.reset with inject := some (7, .double) } : CheckUnit).inject = some (7, .double) ∧
      CheckUnit.reset.inject = none :=
  ⟨serves_ask rfl rfl, rfl, rfl⟩

/-- A schedule of a sweep from time 0 over 1024000 counts, with the next strobe given. -/
def schedule (next : Nat) : Schedule := { t0 := 0, estimate := 1024000, pastDue := 0, next := next }

theorem witness_StrobesAreIssuedAndWordsLost :
    TrackUnit.reset.schedule = none ∧ max (schedule 1).next (schedule 1).pastDue = 1 ∧ 1024 ≤ (schedule 1024).next ∧
      elapsed (schedule 1).t0 (0 + BitVec.ofNat 48 999) < (32 * 1 + 0) * 1024000 / (32 * 1024) ∧
      (32 * 1023 + 0) * 1024000 / (32 * 1024) ≤ elapsed (schedule 1023).t0 (0 + BitVec.ofNat 48 1023000) ∧
      (schedule 1023).next < ParamSet.default.length ∧ Lane.reset.flag = none ∧
      ((capturing .sweeping (some 1022)).lane 0).flag = some 1022 ∧
      -- a catch-up run with position 2 outstanding and positions 3 and 4 not issued
      max 3 5 = 5 ∧ (some 2 : Option Nat).toList ++ (List.range (5 - 3)).map (fun j => 3 + j) = [2, 3, 4] := by decide

theorem witness_StrobesAreIssuedAndWordsLost_word :
    (State.reset.lane 7).flag = none ∧ ((capturing .sweeping (some 1022)).lane 0).flag = some 1022 ∧
      fillingRecord (capturing .sweeping (some 1022)) 0 = some (record 5 .filling) ∧
      1022 + 1 < ((capturing .sweeping (some 1022)).track 0).active.length ∧
      (((List.range 16).filter (fun i => (3#16).getLsbD i)).length + false.toNat) % 2 = 0 ∧
      ((capturing .sweeping (some 1022)).track 0).schedule = none := by decide +kernel

/-- Raw 32767 under the default gain and no offset is stored as it is; under gain 2047 the raw −32768 is held to −32767. -/
theorem witness_AcceptedWordIsConvertedAndStaged :
    (((List.range 16).filter (fun i => (32767#16).getLsbD i)).length + false.toNat) % 2 = 1 ∧
      Converts (32767#16).toInt 1024 0 32767 32767 ∧ Converts (32768#16).toInt 2047 0 (-65504) (-32767) ∧
      (((List.range 16).filter (fun i => (32768#16).getLsbD i)).length + false.toNat) % 2 = 1 ∧
      ((capturing .sweeping (some 0)).track 0).schedule = none ∧ (schedule 0).next < { schedule 0 with pastDue := 1 }.pastDue ∧
      (List.replicate 255 (0 : Nat)).length < 256 ∧ 256 ≤ (List.replicate 256 (0 : Nat)).length := by
  unfold Converts
  decide +kernel

/-- A set under AUTO whose baseline window is the positions 8 to 23. -/
def steering : ParamSet := { ParamSet.default with offsetMode := .auto, placement := 8, duration := 16 }

theorem witness_BaselineWindowSteersOffset :
    (((List.range 16).filter (fun i => (1#16).getLsbD i)).length + false.toNat) % 2 = 1 ∧
      Converts (1#16).toInt 1024 0 1 1 ∧ fillingRecord (capturing .sweeping (some 23)) 0 = some (record 5 .filling) ∧
      steering.placement ≤ 8 ∧ 23 < steering.placement + steering.duration ∧
      steering.placement + steering.duration ≤ 24 ∧ 7 < steering.placement ∧
      BaselineAfter { TrackUnit.reset with active := steering, intervalCount := 7 } 23 (-17) 2 0 0 4 0 false := by
  refine ⟨by decide, by unfold Converts; decide, by decide +kernel, by decide, by decide, by decide, by decide, ?_⟩
  exact .updated rfl rfl (by decide) (by decide)

/-- A track that captures stands in order. -/
theorem capturing_inOrder (st : TrackState) (flag : Option Nat) (h : st = .sweeping ∨ st = .stopping) :
    IndexInOrder (capturing st flag) := by
  have h0 : ∀ st, st = .sweeping ∨ st = .stopping → IndexInOrder (capturing st none) := by
    rintro st (rfl | rfl) t <;> revert t <;> decide +kernel
  exact h0 st h

theorem witness_LastPositionEndsCapture :
    IndexInOrder (capturing .sweeping (some 1023)) ∧ IndexInOrder (capturing .stopping (some 1023)) ∧
      ((capturing .sweeping (some 1023)).lane 0).flag = some 1023 ∧
      fillingRecord (capturing .sweeping (some 1023)) 0 = some (record 5 .filling) ∧
      1023 + 1 = ((capturing .sweeping (some 1023)).track 0).active.length ∧
      (1 : Nat) = min 65535 (((capturing .sweeping (some 1023)).track 0).sweepsDone + 1) ∧
      Converts (1#16).toInt 1024 0 1 1 ∧
      ((capturing .sweeping (some 1023)).track 0).state = .sweeping ∧
      ((capturing .stopping (some 1023)).track 0).state = .stopping :=
  ⟨capturing_inOrder _ _ (.inl rfl), capturing_inOrder _ _ (.inr rfl), by decide, by decide +kernel, by decide, by decide,
    by unfold Converts; decide, by decide, by decide⟩

/-- A track in AWAITING with its first 64 pages mapped in order. -/
def awaitingTrack : State :=
  (withTrack 0 { TrackUnit.reset with state := .awaiting, selected := some .A }).putMap 0
    [(0, { page := 8, hostProtect := false, keep := false }), (1, { page := 9, hostProtect := false, keep := false })]

theorem awaitingTrack_inOrder :
    SetsInOrder awaitingTrack ∧ IndexInOrder awaitingTrack ∧ KeepMarksInOrder awaitingTrack := by
  refine ⟨?_, ?_, ?_⟩ <;> intro t
  · have h : ∀ t, (awaitingTrack.track t).staged = .default ∧ (awaitingTrack.track t).active = .default ∧
        (awaitingTrack.track t).pendingSet = none ∧ (awaitingTrack.track t).offsetInUse = 0 ∧
        awaitingTrack.writePosition t = 0 := by decide +kernel
    obtain ⟨h1, h2, h3, h4, h5⟩ := h t
    rw [h1, h2, h3, h4, h5]
    unfold ParamSet.inRange ParamSet.joined
    refine ⟨by decide, by decide, by decide, ?_, by decide, by decide, by decide, by decide⟩
    intro p hp; cases hp
  · have h : ∀ t, awaitingTrack.records t = [] ∧ (awaitingTrack.track t).seqCounter = 0 ∧
        (awaitingTrack.track t).state ≠ .sweeping ∧ (awaitingTrack.track t).state ≠ .stopping := by decide +kernel
    obtain ⟨h1, h2, h3, h4⟩ := h t
    simp [h1, h2, h3, h4]
  · have h : ∀ t, awaitingTrack.records t = [] ∧ ∀ c ∈ awaitingTrack.map t, c.2.keep = false := by decide +kernel
    obtain ⟨h1, h2⟩ := h t
    simp only [h1, List.not_mem_nil, false_and, exists_false, iff_false]
    refine ⟨List.Pairwise.nil, fun _ _ h => h.elim, List.Pairwise.nil, ?_⟩
    intro l e he hk
    have := h2 _ (tget_mem he)
    simp [hk] at this

/-- A track with window 0..3 and sweeps of two pages: page 0 host-protected, page 2 as given, the write position at 2. -/
def smallWindow (third : Bool) : State :=
  ((withTrack 0 { TrackUnit.reset with active := { ParamSet.default with windowSize := 4 } }).putMap 0
    [(0, { page := 8, hostProtect := true, keep := false }), (1, { page := 9, hostProtect := false, keep := false }),
     (2, { page := 10, hostProtect := third, keep := false }),
     (3, { page := 11, hostProtect := false, keep := false })]).putWritePosition 0 2

/-- The scan wraps once from its start; a barred page 0 leads past the start and past the window's end (log 26). -/
theorem test_scan_wraps_once :
    placementScan (smallWindow true) 0 = .noRoom ∧ placementScan (smallWindow false) 0 = .found 2 ∧
      placementScan ((smallWindow false).putWritePosition 0 3) 0 = .found 1 := by decide +kernel

/-- The range found is free, the write position lies in the window, and a hole stands behind the pages. -/
theorem witness_PlacementScanWalksTheWindow :
    SetsInOrder awaitingTrack ∧ IndexInOrder awaitingTrack ∧ KeepMarksInOrder awaitingTrack ∧
      (ParamSet.default.length + 511) / 512 = 2 ∧ placementScan awaitingTrack 0 = .found 0 ∧
      placementScan (awaitingTrack.putWritePosition 0 1) 0 = .mapHole ∧
      ((awaitingTrack.records 0).filter (fun _ => false)).length < 256 :=
  ⟨awaitingTrack_inOrder.1, awaitingTrack_inOrder.2.1, awaitingTrack_inOrder.2.2, by decide, by decide +kernel,
    by decide +kernel, by decide +kernel⟩

theorem witness_SweepStartOpensRecord :
    (awaitingTrack.track 0).pendingSet = none ∧ (awaitingTrack.track 0).spent = false ∧
      placementScan (awaitingTrack.putTrack 0 { awaitingTrack.track 0 with offsetInUse := 0 }) 0 = .found 0 ∧
      placementScan ((awaitingTrack.putTrack 0 { awaitingTrack.track 0 with offsetInUse := 0 }).putMap 0 []) 0 =
        .mapHole ∧
      ({ TrackUnit.reset with pendingSet := some ParamSet.default } : TrackUnit).pendingSet = some ParamSet.default ∧
      Averager.reset.region = none ∧ 4294967294 < 4294967295 := by decide +kernel

theorem witness_MarkerEventActsByTrackState :
    IndexInOrder awaitingTrack ∧ (awaitingTrack.track 0).selected = some .A ∧
      (awaitingTrack.track 0).state = .awaiting ∧
      ((awaitingTrack.records 0).filter (fun y => y.state ≠ .complete)).length < 2 ∧
      IndexInOrder (capturing .sweeping none) ∧ IndexInOrder (capturing .stopping none) ∧
      fillingRecord (capturing .sweeping none) 0 = some (record 5 .filling) ∧
      2 ≤ (((capturing .sweeping none).records 0).filter (fun y => y.state ≠ .complete)).length ∧
      (State.reset.track 0).selected ≠ some .A :=
  ⟨awaitingTrack_inOrder.2.1, by decide +kernel, by decide +kernel, by decide +kernel,
    capturing_inOrder _ _ (.inl rfl), capturing_inOrder _ _ (.inr rfl), by decide +kernel, by decide +kernel, by decide⟩

theorem witness_AnnouncementsActOnTracks :
    (withTrack 7 { TrackUnit.reset with state := .armed }).track 7 = { TrackUnit.reset with state := .armed } ∧
      TrackUnit.reset.active.markerSelect = .auto ∧ TrackUnit.reset.selected = none ∧
      ((capturing .sweeping none).track 0).selected = some .A ∧
      fillingRecord (capturing .sweeping none) 0 = some (record 5 .filling) ∧
      ChosenUnit (State.reset.setMarkerB { MarkerUnit.reset with state := .coasting }) (some .B) ∧
      ChosenUnit State.reset none := by
  unfold ChosenUnit
  decide +kernel

/-! ## Maps and indexes -/

/-- A track in IDLE with sweep 4 on page 0 in a state, with a staging entry, a cursor and a burst of its own. -/
def sweepOn (st : RecordState) : State :=
  let s := (awaitingTrack.putTrack 0
    { TrackUnit.reset with fifo := [{ seq := 4, pos := 32, value := 0 }], cursor := some { seq := 4, next := 32 } }).putRecords
      0 [record 4 st]
  s.setMem { s.mem with granted := [writeOf 4 true] }

theorem witness_LoadItemKeepsMapAndOwners :
    Serves (asked 0x20 [0, 255, 7, 1, 0, 1, 1, 255, 255]) (req 0x20 [0, 255, 7, 1, 0, 1, 1, 255, 255]) []
        (.loadMap 0 2047 [.map 65535 true]) ∧
      Serves (asked 0x20 [0, 0, 0, 1, 0, 0, 0, 0, 0]) (req 0x20 [0, 0, 0, 1, 0, 0, 0, 0, 0]) []
        (.loadMap 0 0 [.unmap]) ∧
      TrackUnit.reset.state = .idle ∧ tget (State.reset.map 0) 2047 = none ∧
      tget State.reset.owners (65535 : Page).toNat = none ∧
      (awaitingTrack.map 0) = [(0, { page := 8, hostProtect := false, keep := false }),
        (1, { page := 9, hostProtect := false, keep := false })] ∧
      itemFault State.reset 0 2047 (.map 65535 true) = none ∧
      -- a DRAINING sweep and a COMPLETE one on page 0, and no sweep on page 1
      (sweepOn .draining).records 0 = [record 4 .draining] ∧ (sweepOn .complete).records 0 = [record 4 .complete] ∧
      occupant (sweepOn .draining) 0 0 = some (record 4 .draining) ∧ (record 4 .draining).kept = false ∧
      occupant (sweepOn .draining) 0 1 = none :=
  ⟨serves_ask rfl rfl, serves_ask rfl rfl, by decide +kernel⟩

/-- An UNMAP under a DRAINING sweep takes its entry, cursor and record, and its burst completes unheeded. -/
theorem test_unmap_retires_draining :
    let x := applyItem 0 0 .unmap (sweepOn .draining)
    x.records 0 = [] ∧ (x.track 0).fifo = [] ∧ (x.track 0).cursor = none ∧
      x.mem.granted = [writeOf 4 false] ∧ (x.map 0).length = 1 := by decide +kernel

theorem witness_LoadMapStopsAtFirstFailingItem :
    Serves (asked 0x20 [0, 5, 0, 2, 0, 1, 0, 9, 0, 1, 0, 9, 0]) (req 0x20 [0, 5, 0, 2, 0, 1, 0, 9, 0, 1, 0, 9, 0]) []
        (.loadMap 0 5 [.map 9 false, .map 9 false]) ∧
      (applyItems 0 5 [.map 9 false] (handed 0 State.reset [])).1 = .ok ∧
      itemFault (applyItems 0 5 [.map 9 false] (handed 0 State.reset [])).2.2 0 6 (.map 9 false) = some .conflict ∧
      (applyItems 0 2047 [.unmap] (handed 0 State.reset [])).2.1 = 1 ∧
      itemFault State.reset 0 2048 .unmap = some .badField ∧ itemFault State.reset 0 2047 .unmap = none ∧
      itemFault State.reset 0 5 (.map 9 false) = none ∧
      (applyItems 0 6 [.unmap] (applyItem 0 5 (.map 9 false) State.reset)).2.1 = 1 ∧
      (applyItems 0 5 [.map 9 false, .unmap] State.reset).2.1 = 2 ∧
      Serves (asked 0x20 [0, 5, 0, 0, 0]) (req 0x20 [0, 5, 0, 0, 0]) [] (.loadMap 0 5 []) :=
  ⟨serves_ask rfl rfl, by decide +kernel, by decide +kernel, by decide +kernel, by decide, by decide,
    by decide, by decide +kernel, by decide +kernel, serves_ask rfl rfl⟩

theorem witness_QueriesReportTheirUnits_capture :
    Serves (asked 0x17 [7]) (req 0x17 [7]) [] (.trackStatus 7) ∧
      Serves (asked 0x21 [7, 255, 7]) (req 0x21 [7, 255, 7]) [] (.checkPage 7 2047) ∧
      Serves (asked 0x21 [7, 0, 8]) (req 0x21 [7, 0, 8]) [] (.checkPage 7 2048) ∧
      Serves (asked 0x22 [255, 255]) (req 0x22 [255, 255]) [] (.pageOwner 65535) ∧
      Serves (asked 0x33 [7, 0, 0, 0, 0, 16]) (req 0x33 [7, 0, 0, 0, 0, 16]) [] (.listSweeps 7 0 16) ∧
      Serves (asked 0x33 [7, 0, 0, 0, 0, 17]) (req 0x33 [7, 0, 0, 0, 0, 17]) [] (.listSweeps 7 0 17) ∧
      Serves (asked 0x34 [0, 5, 0, 0, 0]) (req 0x34 [0, 5, 0, 0, 0]) [] (.sweepInfo 0 5) ∧
      ((capturing .sweeping none).records 0).find? (fun y => y.seq = 5) = some (record 5 .filling) :=
  ⟨serves_ask rfl rfl, serves_ask rfl rfl, serves_ask rfl rfl, serves_ask rfl rfl, serves_ask rfl rfl,
    serves_ask rfl rfl, serves_ask rfl rfl, by decide +kernel⟩

theorem witness_KeptSweepsAndTheirMarks :
    Serves (asked 0x30 [0, 5, 0, 0, 0]) (req 0x30 [0, 5, 0, 0, 0]) [] (.keepSweep 0 5) ∧
      Serves (asked 0x31 [0, 5, 0, 0, 0]) (req 0x31 [0, 5, 0, 0, 0]) [] (.releaseSweep 0 5) ∧
      Serves (asked 0x32 [0, 5, 0, 0, 0]) (req 0x32 [0, 5, 0, 0, 0]) [] (.dropSweep 0 5) ∧
      (record 5 .complete).kept = false ∧ ({ record 5 .complete with kept := true } : SweepRecord).kept = true ∧
      (record 5 .draining).state ≠ .complete ∧
      32 ≤ ((List.replicate 32 { record 5 .complete with kept := true }).filter (fun y => y.kept)).length ∧
      ((List.replicate 31 { record 5 .complete with kept := true }).filter (fun y => y.kept)).length < 32 :=
  ⟨serves_ask rfl rfl, serves_ask rfl rfl, serves_ask rfl rfl, by decide⟩

/-! ## Memory -/

/-- A state with the memory controller given. -/
def withMem (m : MemControl) : State := State.reset.setMem m

/-- A granted write burst of 32 zeros on a page, for sequence 5 of track 0. -/
def writeBurst (page : Page) : Burst :=
  { page := page, offset := 120, track := 0, seq := 5, first := 480, heeded := true, attached := true,
    job := .write (List.replicate 32 0) (some .double) }

theorem witness_StandbyAndWakeByMemoryState :
    Serves (asked 0x40 []) (req 0x40 []) [] .standby ∧ Serves (asked 0x41 []) (req 0x41 []) [] .wake ∧
      (∀ t, (State.reset.track t).state ≠ .sweeping ∧ (State.reset.track t).state ≠ .awaiting ∧
        (State.reset.track t).state ≠ .stopping) ∧
      State.reset.readout.queue = [] ∧ State.reset.mem.reentry = false ∧ State.reset.mem.granted = [] ∧
      State.reset.mem.balance ≤ 0 ∧ (∀ b : BankId, State.reset.mem.banks[b] = { row := none, step := .none }) ∧
      burstRequested State.reset = false ∧
      (withMem { MemControl.reset with granted := [writeBurst 8] }).mem.granted ≠ [] ∧
      (withMem { MemControl.reset with reentry := true }).mem.reentry ≠ false ∧
      (withMem { MemControl.reset with state := .entering .auto }).mem.state = .entering .auto :=
  ⟨serves_ask rfl rfl, serves_ask rfl rfl, by decide +kernel⟩

/-- A controller in an entry with B as given and bank 5 OPEN on row 3 or every bank CLOSED. -/
def entering (balance : Int) (isOpen heldWake : Bool) : State :=
  withMem { MemControl.reset with
    state := .entering .auto, balance := balance, heldWake := heldWake,
    banks := if isOpen then MemControl.reset.banks.set 5 { row := some 3, step := .none } else MemControl.reset.banks }

/-- The stages of an entry: a refresh while B is above 0, the open banks closed, then STANDBY, or WAKING straight away. -/
theorem witness_ControllerReactsAtStepEnd :
    (settle (entering 1 true false)).mem.banks[(5 : BankId)] = { row := none, step := .closing } ∧
      (settle (entering 1 true false)).mem.refresh = .closing ∧ (settle (entering 1 false false)).mem.refresh = .inFlight ∧
      (settle (entering 0 true false)).mem.state = .entering .auto ∧
      (settle (entering 0 false false)).mem.state = .standby ∧
      (settle (entering 0 false true)).mem.state = .waking .wake ∧
      -- a refresh that waits for a burst, and one that waits no more
      (settle (withMem { MemControl.reset with refresh := .waiting, granted := [writeBurst 8] })).mem.refresh = .waiting ∧
      (settle (withMem { MemControl.reset with refresh := .waiting })).mem.refresh = .inFlight := by decide +kernel

/-- A burst request held through an entry wakes the memory at its end, and one presented in STANDBY at once. -/
theorem witness_ControllerReactsAtStepEnd_held (s : State)
    (h : s = (State.reset.putTrack 2 { TrackUnit.reset with
      fifo := (List.range 32).map (fun i => { seq := 5, pos := i, value := 1 }) }).setMem (entering 0 false false).mem) :
    (settle s).mem.state = .waking .burst ∧
      (follow (s.setMem { s.mem with state := .standby })).mem.state = .waking .burst := by
  subst h; decide +kernel

theorem witness_AutoStandbyTimerAndExpiry :
    Serves (asked 0x42 [1, 255]) (req 0x42 [1, 255]) [] (.setAutoStandby true (some 255)) ∧
      Serves (asked 0x42 [1, 0]) (req 0x42 [1, 0]) [] (.setAutoStandby true (some 0)) ∧
      Serves (asked 0x42 [0, 1]) (req 0x42 [0, 1]) [] (.setAutoStandby false (some 1)) ∧
      State.reset.markerA.state = .noSignal ∧ State.reset.markerB.state = .noSignal ∧ State.reset.mem.state = .running ∧
      199999999 < State.reset.mem.autoDelay * 4000000 ∧ State.reset.mem.autoDelay * 4000000 ≤ 199999999 + 1 ∧
      (withMem { MemControl.reset with autoTimer := .running 199999999 }).mem.autoTimer = .running 199999999 ∧
      State.reset.mem.autoTimer = .stopped :=
  ⟨serves_ask rfl rfl, serves_ask rfl rfl, serves_ask rfl rfl, by decide⟩

theorem witness_QueriesReportTheirUnits_units :
    Serves (asked 0x43 []) (req 0x43 []) [] .memoryStatus ∧ Serves (asked 0x51 []) (req 0x51 []) [] .readFault ∧
      Serves (asked 0x71 [7]) (req 0x71 [7]) [] (.averagerStatus 7) ∧
      Serves (asked 0x82 []) (req 0x82 []) [] .noticeStatus :=
  ⟨serves_ask rfl rfl, serves_ask rfl rfl, serves_ask rfl rfl, serves_ask rfl rfl⟩

/-- A staging FIFO of n entries of sequence 5 from position 0 on. -/
def staged (n : Nat) : List FifoEntry := (List.range n).map (fun i => { seq := 5, pos := i, value := 1 })

/-- A state in which track 2 has n staged entries. -/
def filled (n : Nat) : State := withTrack 2 { TrackUnit.reset with fifo := staged n }

theorem witness_GrantsFollowClassOrder :
    State.reset.resetHeld = false ∧ State.reset.mem.state = .running ∧ State.reset.mem.refresh = .none ∧
      (withMem { MemControl.reset with balance := 8 }).mem.balance = 8 ∧
      writerUrgent (filled 192) 2 = true ∧ writerUrgent (filled 191) 2 = false ∧ writerRequests (filled 32) 2 = true ∧
      (∀ k : Track, (k - 0).val < ((2 : Track) - 0).val → writerRequests (filled 192) k = false) ∧
      (∀ t, writerRequests State.reset t = false) ∧ engineBlock State.reset = none ∧
      engineBlock (State.reset.setReadout { queue := [builtRead 4096], ended := [] }) ≠ none ∧
      -8 < State.reset.mem.balance ∧ (withMem { MemControl.reset with balance := -8 }).mem.balance ≤ -8 ∧
      4 ≤ (withMem { MemControl.reset with granted := List.replicate 4 (writeBurst 8) }).mem.granted.length := by
  decide +kernel

/-- Track 2 with a FILLING sweep 5 of 64 samples whose page is mapped, and 33 of its values staged. -/
def writing : State :=
  ((filled 33).putRecords 2 [record 5 .filling]).putMap 2 [(0, { page := 65535, hostProtect := false, keep := false })]

theorem witness_WriterBurstTakesStagedSamples :
    oldestIncomplete writing 2 = some (record 5 .filling) ∧ (writing.track 2).writeNext 5 = 0 ∧
      tget (writing.map 2) (0 + 0 / 512) = some { page := 65535, hostProtect := false, keep := false } ∧
      (writing.track 2).fifo.Pairwise (fun a b => a.seq < b.seq ∨ a.seq = b.seq ∧ a.pos < b.pos) ∧
      (∀ x ∈ (writing.track 2).fifo, 5 < x.seq ∨ x.seq = 5 ∧ 0 ≤ x.pos ∧ x.pos < (record 5 .filling).length) ∧
      State.reset.check.inject ≠ some (2, .single) := by decide +kernel

/-- A part whose active read is the one given. -/
def reading (y : Read) : State := (quiet State.reset).setReadout { queue := [y], ended := [] }

/-- Block 8 of the read holds position 256, the first of its second frame; block 16 holds none of its first two frames. -/
theorem witness_ReadBurstsFetchTheReadsBlocks :
    engineBlock (reading (builtRead 257)) = some (builtRead 257, 0, 0, 8) ∧ 256 < 0 + 256 * (0 / 256 + 2) ∧
      (32 * 8 ≤ 256 ∧ 256 < 32 * 8 + 32) ∧ 0 + 256 * (0 / 256 + 2) ≤ 32 * 16 ∧
      engineBlock (reading { builtRead 4096 with nextFetch := 16 }) = none ∧
      (builtRead 257).firstPos < 32 * (builtRead 257).nextFetch + 32 := by decide +kernel

/-- A controller in which bank 7 has a step in progress and the bursts given are granted. -/
def stepping (step : BankStep) (granted : List Burst) (refresh : RefreshStage) : State :=
  withMem { MemControl.reset with
    banks := MemControl.reset.banks.set 7 { row := none, step := step }, granted := granted, refresh := refresh }

theorem witness_BankStepsServeHeadBurst :
    (stepping .closing [writeBurst 65535] .none).mem.banks[(7 : BankId)] = { row := none, step := .closing } ∧
      (stepping .closing [writeBurst 65535] .none).mem.granted.find? (fun x => x.page.toNat % 8 = 7) =
        some (writeBurst 65535) ∧
      (stepping .closing [] .closing).mem.refresh = .closing ∧
      (∀ c : BankId, c ≠ 7 → (stepping .closing [] .closing).mem.banks[c].step = .none) ∧
      (stepping (.opening 8191) [writeBurst 65535] .none).mem.banks[(7 : BankId)].step = .opening 8191 ∧
      (writeBurst 65535).page.toNat % 8 = 7 ∧ (writeBurst 65535).page.toNat / 8 = 8191 ∧
      State.reset.mem.banks[(7 : BankId)].step ≠ .closing ∧ State.reset.mem.dataPath ≠ some 7 := by decide +kernel

theorem witness_WriteTransferStoresItsWords :
    (withMem { MemControl.reset with granted := [writeBurst 65535], dataPath := some 7 }).mem.granted.find?
        (fun x => x.page.toNat % 8 = (7 : BankId).val) = some (writeBurst 65535) ∧
      (writeBurst 65535).job = .write (List.replicate 32 0) (some .double) ∧ (List.replicate 32 (0 : Int)).length = 32 ∧
      ([record 4 .draining, { record 5 .draining with length := 512 }].find? (fun y => y.seq = (writeBurst 65535).seq)) =
        some { record 5 .draining with length := 512 } ∧
      512 ≤ (writeBurst 65535).first + 32 ∧ (writeBurst 65535).first + 32 < 516 := by decide +kernel

/-- A granted read burst of the same span. -/
def readBurst (asked : List Nat) : Burst := { writeBurst 65535 with job := .read asked }

theorem witness_ReadTransferChecksItsWords :
    (withMem { MemControl.reset with granted := [readBurst [7]], dataPath := some 7 }).mem.granted.find?
        (fun x => x.page.toNat % 8 = (7 : BankId).val) = some (readBurst [7]) ∧
      (readBurst [7]).job = .read [7] ∧ State.reset.check.mode ≠ .off ∧ (readBurst [7]).heeded = true ∧
      (readBurst [7]).first + 4 * 7 + 3 = 511 ∧ [0, 3, 7].Pairwise (· < ·) ∧ (∀ v ∈ [0, 3, 7], v ≤ 7 ∧ 0 ≤ v) ∧ ReadCode.allZero.uncorrectable = true ∧
      (ReadCode.check 7).corrected = true ∧
      decodeWord (storedWord ((State.reset.setDram (cells (byteAddress 65535 127) (List.replicate 8 0))).setDramCheck
          [(wordAddress 65535 127, 3)]) 65535 127)
        (storedCheck ((State.reset.setDram (cells (byteAddress 65535 127) (List.replicate 8 0))).setDramCheck
          [(wordAddress 65535 127, 3)]) 65535 127) = .clean := by decide +kernel

theorem witness_RefreshTimerServiceAndWaking :
    State.reset.refreshElapsed + 311 < 312 ∧ State.reset.refreshElapsed + 312 = 312 + 0 ∧
      (withMem { MemControl.reset with balance := 7 }).mem.balance < 8 ∧
      8 ≤ (withMem { MemControl.reset with balance := 8 }).mem.balance ∧
      (withMem { MemControl.reset with refresh := .inFlight }).mem.autoTimer ≠ .expired ∧
      (withMem { MemControl.reset with
        refresh := .inFlight, autoTimer := .expired, autoEnable := true, reentry := true }).mem.reentry = true ∧
      (∀ c, State.reset.mem.state ≠ .waking c) ∧
      (withMem { MemControl.reset with state := .waking .wake }).mem.state = .waking .wake ∧
      (req 0x41 []).code = 0x41 ∧ (∀ b : BankId, State.reset.mem.banks[b].step = .none) ∧
      (MemControl.reset.banks.set 0 { row := some 8191, step := .none })[(0 : BankId)].row = some 8191 := by
  refine ⟨by decide, by decide, by decide, by decide, by decide, by decide, ?_, rfl, rfl, by decide, rfl⟩
  intro c h
  cases h

/-! ## Check codes, reads, averages, notices -/

theorem witness_CheckingRequestsChangeTheirOwn :
    Serves (asked 0x50 [3]) (req 0x50 [3]) [] (.setChecking 3) ∧ (2 : Nat) = CheckMode.notify.code.toNat ∧
      Serves (asked 0x50 [2]) (req 0x50 [2]) [] (.setChecking 2) ∧
      Serves (asked 0x53 [7, 2]) (req 0x53 [7, 2]) [] (.injectFault 7 2) ∧
      Serves (asked 0x53 [7, 1]) (req 0x53 [7, 1]) [] (.injectFault 7 1) ∧ (1 : Nat) = InjectKind.double.code.toNat ∧
      Serves (asked 0x52 []) (req 0x52 []) [] .clearFault :=
  ⟨serves_ask rfl rfl, rfl, serves_ask rfl rfl, serves_ask rfl rfl, serves_ask rfl rfl, rfl, serves_ask rfl rfl⟩

theorem witness_CodeCorrectsOneDetectsTwo :
    2 ^ 64 - 1 < 2 ^ 64 ∧ 63 < 64 ∧ 7 < 8 ∧ (0 : Nat) ≠ 63 ∧ (0 : Nat) ≠ 7 := by decide

theorem witness_ReadRequestsAreCheckedInOrder :
    Serves (asked 0x60 [0, 5, 0, 0, 0, 0, 0, 64, 0, 1]) (req 0x60 [0, 5, 0, 0, 0, 0, 0, 64, 0, 1]) []
        (.readSweep 0 5 0 64 1) ∧
      Serves (asked 0x60 [0, 5, 0, 0, 0, 0, 0, 0, 0, 2]) (req 0x60 [0, 5, 0, 0, 0, 0, 0, 0, 0, 2]) []
        (.readSweep 0 5 0 0 2) ∧
      (record 5 .complete).length = 0 + 64 ∧ (record 5 .complete).length < 1 + 64 ∧
      Serves (asked 0x61 [7, 0]) (req 0x61 [7, 0]) [] (.readMean 7 0) ∧
      Serves (asked 0x61 [7, 2]) (req 0x61 [7, 2]) [] (.readMean 7 2) ∧
      Serves (asked 0x62 [1, 0]) (req 0x62 [1, 0]) [] (.abortRead 1) ∧ (builtRead 4).tag = 1 ∧
      3 + 0 < 4 ∧ 4 ≤ 3 + 1 ∧ burstRequested (withMem { MemControl.reset with state := .standby }) = false :=
  ⟨serves_ask rfl rfl, serves_ask rfl rfl, rfl, by decide, serves_ask rfl rfl, serves_ask rfl rfl, serves_ask rfl rfl,
    rfl, by decide, by decide, by decide +kernel⟩

/-- An averager of K = 2 on a region of 64 positions, publishing from a position on. -/
def publishing (next : Nat) : Averager :=
  { Averager.reset with
    region := some { base := 0, length := 64 }, k := 2, publication := some { next := next, last := 5 } }

/-- The sum at position 63 is 5, so its mean over 2 is 3. -/
theorem witness_MeansAreWrittenThenBuilt :
    (publishing 63).publication = some { next := 63, last := 5 } ∧ 63 < 64 ∧ 63 + 1 = 64 ∧ 62 + 1 < 64 ∧
      ((State.reset.putAverager 0 (publishing 63)).setAveragerRam [(63, 5)]).ramWord 63 = 5 ∧
      (2 * ((2 : Int) * 3 - (5 : BitVec 32).toInt)).natAbs ≤ 2 ∧ (5 : BitVec 32).toInt.natAbs < ((2 : Int) * 3).natAbs ∧
      ({ builtRead 64 with kind := .mean, nextFetch := 0 } : Read).firstPos = 0 ∧ 256 * 0 < (builtRead 64).count ∧
      0 < (builtRead 64).delivered / 256 + 2 ∧ (builtRead 256).count ≤ 256 * 1 := by decide +kernel

theorem witness_AveragerQualifiesCountsAndPublishes :
    ({ publishing 0 with publication := none, current := some 5, blockCount := 1 } : Averager).blockCount + 1 =
        (publishing 0).k ∧
      (publishing 0).region ≠ none ∧ (publishing 0).publication ≠ none ∧ Averager.reset.current ≠ some 5 ∧
      ({ builtRead 64 with kind := .mean } : Read).kind = .mean ∧ (builtRead 64).kind ≠ .mean := by decide

theorem witness_AveragerRequestsStartAndStop :
    Serves (asked 0x70 [7, 1]) (req 0x70 [7, 1]) [] (.setAverager 7 true none none) ∧
      Serves (asked 0x70 [7, 1, 0, 56, 0, 4]) (req 0x70 [7, 1, 0, 56, 0, 4]) []
        (.setAverager 7 true (some (14336, 1024)) none) ∧
      14336 + 2 * (State.reset.track 7).active.length = 16384 ∧
      Serves (asked 0x70 [7, 1, 1, 56, 1, 0]) (req 0x70 [7, 1, 1, 56, 1, 0]) []
        (.setAverager 7 true (some (14337, 1)) none) ∧
      (publishing 0).region = some { base := 0, length := 64 } ∧ 127 < 0 + 2 * 64 ∧ 0 + 2 * 64 ≤ 128 ∧
      Serves (asked 0x70 [7, 0]) (req 0x70 [7, 0]) [] (.setAverager 7 false none none) ∧ Averager.reset.region = none :=
  ⟨serves_ask rfl rfl, serves_ask rfl rfl, by decide, serves_ask rfl rfl, rfl, by decide, by decide,
    serves_ask rfl rfl, rfl⟩

theorem witness_RestartAverageRestartsTheBlock :
    Serves (asked 0x72 [8]) (req 0x72 [8]) [] (.restartAverage 8) ∧
      Serves (asked 0x72 [7]) (req 0x72 [7]) [] (.restartAverage (7 : Track).val) ∧
      (State.reset.averager 7).region = none ∧ (publishing 0).region = some { base := 0, length := 64 } ∧
      (publishing 0).publication ≠ none ∧ ({ publishing 0 with publication := none } : Averager).publication = none :=
  ⟨serves_ask rfl rfl, serves_ask rfl rfl, by decide⟩

theorem witness_NoticesArePostedAndOrdered :
    NoticeUnit.reset.level (Source.sweepDone 0) = 0 ∧ NoticeUnit.reset.level Source.linkError ≠ 0 ∧
      ({ NoticeUnit.reset with entries := [entry Source.linkError] } : NoticeUnit).entries.any
        (fun e => e.source = Source.linkError) = true ∧
      Serves (asked 0x80 [29, 7]) (req 0x80 [29, 7]) [] (.setNoticeLevel 29 7) ∧
      Serves (asked 0x80 [30, 7]) (req 0x80 [30, 7]) [] (.setNoticeLevel 30 7) ∧
      Serves (asked 0x80 [29, 8]) (req 0x80 [29, 8]) [] (.setNoticeLevel 29 8) ∧
      Serves (asked 0x81 [7]) (req 0x81 [7]) [] (.setNoticeThreshold 7) ∧
      Serves (asked 0x81 [8]) (req 0x81 [8]) [] (.setNoticeThreshold 8) ∧
      Serves (asked 0x83 [1, 29]) (req 0x83 [1, 29]) [] (.clearNotices [29]) ∧
      Serves (asked 0x83 [1, 30]) (req 0x83 [1, 30]) [] (.clearNotices [30]) :=
  ⟨by decide, by decide, by decide, serves_ask rfl rfl, serves_ask rfl rfl, serves_ask rfl rfl, serves_ask rfl rfl,
    serves_ask rfl rfl, serves_ask rfl rfl, serves_ask rfl rfl⟩

/-- A tracking unit meets the order of marker units; the part with its link idle meets the others. -/
theorem witness_MarkerUnitsStayInOrder : MarkersInOrder (withMarker (tracking .coasting 3 (some 70000) true)) := by
  refine ⟨?_, ?_⟩
  · refine ⟨by decide, by decide, by decide, by decide, by decide, by decide, by decide, by decide, by decide,
      by decide, fun _ => ⟨rfl, rfl, by decide, by decide, window, rfl, rfl, by decide, by decide, by decide⟩,
      by decide, by decide⟩
  · refine ⟨by decide, by decide, by decide, by decide, by decide, by decide, by decide, by decide, by decide,
      by decide, fun h => ?_, by decide, by decide⟩
    rcases h with h | h <;> cases h

theorem witness_MemoriesMapsAndOwnersStayInOrder : MemoriesInOrder (quiet State.reset) := by
  have hm : ∀ t, (quiet State.reset).map t = [] := by decide
  refine ⟨List.Pairwise.nil, List.Pairwise.nil, List.Pairwise.nil, List.Pairwise.nil, ?_, ?_, ?_⟩
  · intro t; rw [hm]; exact List.Pairwise.nil
  · intro t l e h; rw [hm] at h; cases h
  · intro a o h; cases h

theorem witness_EveryStepStaysWithinLimits : WithinLimits (quiet State.reset) := by
  have ha : ∀ t, (quiet State.reset).averager t = Averager.reset := by decide
  refine ⟨by decide, by decide, by decide, by decide, by decide, by decide, by decide, fun y h => absurd h List.not_mem_nil,
    by decide, by decide, by decide, by decide, by decide, by decide, List.nodup_nil, by decide, rfl, ?_⟩
  refine ⟨fun t => ?_, fun t g h => ?_⟩
  · rw [ha]; decide
  · rw [ha] at h; cases h

theorem witness_ParameterSetsStayInOrder : SetsInOrder awaitingTrack := awaitingTrack_inOrder.1

theorem witness_SweepIndexesStayInOrder : IndexInOrder (quiet State.reset) := by
  have hr : ∀ t, (quiet State.reset).records t = [] := by decide
  intro t
  rw [hr]
  refine ⟨List.Pairwise.nil, by simp, ?_, by simp, by simp, by simp, by simp, by simp, ?_⟩
  · revert t; decide
  · have : ((quiet State.reset).track t).state = .idle := by revert t; decide
    simp [this]

theorem witness_KeepMarksFollowKeptSweeps : KeepMarksInOrder (quiet State.reset) := by
  have hr : ∀ t, (quiet State.reset).records t = [] := by decide
  have hm : ∀ t, (quiet State.reset).map t = [] := by decide
  intro t
  rw [hr, hm]
  exact ⟨List.Pairwise.nil, by simp, List.Pairwise.nil, fun l e h => by cases h⟩

end Sys2Proof.Tests
end

/-!
PROOF. RESET_TRACK (R57) as one write to each register of the part, and what those writes are read back as.
-/

namespace Sys2Proof.Machine

/-! ## What a step ends with, and reads past it -/

theorem State.writePosition_putWritePosition_other (s : State) {t t' : Track} (p : Nat) (h : t ≠ t') :
    (s.putWritePosition t p).writePosition t' = s.writePosition t' := by
  have : t.val ≠ t'.val := fun e => h (Fin.ext e)
  simp [State.writePosition, State.putWritePosition, this]

@[simp] theorem setCheck_reads (s : State) (c : CheckUnit) (k : Track) :
    (s.setCheck c).track k = s.track k ∧ (s.setCheck c).lane k = s.lane k ∧ (s.setCheck c).map k = s.map k ∧
    (s.setCheck c).records k = s.records k ∧ (s.setCheck c).writePosition k = s.writePosition k ∧
    (s.setCheck c).averager k = s.averager k :=
  ⟨rfl, rfl, rfl, rfl, rfl, rfl⟩

/-- At the end of a step the controller at most begins to wake and lets the delay timer follow. -/
theorem follow_mem (s : State) :
    ∃ st tm, (follow s).mem = { s.mem with state := st, autoTimer := tm } := by
  unfold follow wakeIfRequested
  split
  · exact ⟨.waking .burst, _, rfl⟩
  · exact ⟨s.mem.state, _, rfl⟩

@[simp] theorem follow_mem_kept (s : State) :
    (follow s).mem.granted = s.mem.granted ∧ (follow s).mem.banks = s.mem.banks ∧
    (follow s).mem.balance = s.mem.balance ∧ (follow s).mem.refresh = s.mem.refresh := by
  obtain ⟨st, tm, hm⟩ := follow_mem s
  simp [hm]

@[simp] theorem follow_reads (s : State) (k : Track) :
    (follow s).track k = s.track k ∧ (follow s).lane k = s.lane k ∧ (follow s).map k = s.map k ∧
    (follow s).records k = s.records k ∧ (follow s).writePosition k = s.writePosition k ∧
    (follow s).averager k = s.averager k := by
  simp [State.track, State.lane, State.map, State.records, State.writePosition, State.averager]

@[simp] theorem addReply_reads (own : Bool) (r : RawRequest) (st : Status) (body : List Byte) (s : State) (k : Track) :
    (addReply own r st body s).track k = s.track k ∧ (addReply own r st body s).lane k = s.lane k ∧
    (addReply own r st body s).map k = s.map k ∧ (addReply own r st body s).records k = s.records k ∧
    (addReply own r st body s).writePosition k = s.writePosition k ∧
    (addReply own r st body s).averager k = s.averager k :=
  ⟨rfl, rfl, rfl, rfl, rfl, rfl⟩

theorem addReply_link (own : Bool) (r : RawRequest) (st : Status) (body : List Byte) (s : State) :
    (addReply own r st body s).link = { s.link with
      replies := s.link.replies ++ [{ own := own, code := r.code, tag := r.tag, payload := st.code :: body }] } :=
  rfl

@[simp] theorem addReply_ramWord (own : Bool) (r : RawRequest) (st : Status) (body : List Byte) (s : State) (a : Nat) :
    (addReply own r st body s).ramWord a = s.ramWord a := rfl

@[simp] theorem follow_ramWord (s : State) (a : Nat) : (follow s).ramWord a = s.ramWord a := by
  simp [State.ramWord]

/-! ## Stored sums -/

/-- Storing over the same cells leaves the last values stored. -/
theorem tfill_tfill {α : Type} (m : Table α) (base : Nat) {vs ws : List α} (h : vs.length = ws.length) :
    tfill (tfill m base vs) base ws = tfill m base ws := by
  have below : (cells base vs).filter (fun c => decide (c.1 < base)) = [] :=
    List.filter_eq_nil_iff.mpr fun c hc => by have := mem_cells hc; simp; omega
  have above : (cells base vs).filter (fun c => decide (base + vs.length ≤ c.1)) = [] :=
    List.filter_eq_nil_iff.mpr fun c hc => by have := mem_cells hc; simp; omega
  have apart (c : Nat × α) : (decide (c.1 < base) && decide (base + vs.length ≤ c.1)) = false := by
    simp; omega
  have apart' (c : Nat × α) : (decide (base + vs.length ≤ c.1) && decide (c.1 < base)) = false := by
    rw [Bool.and_comm, apart]
  unfold tfill
  simp only [← h, List.filter_append, List.filter_filter, below, above, apart, apart', Bool.and_self,
    List.filter_false, List.append_nil, List.nil_append]

/-- The averager RAM with the sum area of an averager's region, where it has one, cleared to 0 (R165). -/
def Averager.clearSumsIn (a : Averager) (ram : Table (BitVec 32)) : Table (BitVec 32) :=
  match a.region with
  | none => ram
  | some g => tfill ram g.base (List.replicate g.length 0)

theorem Averager.clearSumsIn_none {a : Averager} (h : a.region = none) (ram : Table (BitVec 32)) :
    a.clearSumsIn ram = ram := by
  unfold Averager.clearSumsIn; rw [h]

theorem Averager.clearSumsIn_some {a : Averager} {g : Region} (h : a.region = some g) (ram : Table (BitVec 32)) :
    a.clearSumsIn ram = tfill ram g.base (List.replicate g.length 0) := by
  unfold Averager.clearSumsIn; rw [h]

/-- Clearing the sums of a region again changes nothing. -/
theorem Averager.clearSumsIn_tfill {a : Averager} {g : Region} (h : a.region = some g) (ram : Table (BitVec 32)) :
    a.clearSumsIn (tfill ram g.base (List.replicate g.length 0)) = a.clearSumsIn ram := by
  rw [Averager.clearSumsIn_some h, Averager.clearSumsIn_some h, tfill_tfill _ _ rfl]

/-- A word of the averager RAM after the sums of a region are cleared. -/
theorem ramWord_clearSums (g : Region) (s : State) (a : Nat) :
    (clearSums g s).ramWord a = if g.base ≤ a ∧ a < g.base + g.length then 0 else s.ramWord a := by
  unfold State.ramWord clearSums
  rw [State.setAveragerRam_averagerRam, State.setAveragerRam_epoch, tget_tfill, List.length_replicate]
  split
  · have : a - g.base < g.length := by omega
    simp [this]
  · rfl

/-! ## Keep marks -/

/-- A page map with every keep mark cleared (R97). -/
def clearKeepMarks (m : Table MapEntry) : Table MapEntry := m.map (fun c => (c.1, { c.2 with keep := false }))

theorem tget_clearKeepMarks (m : Table MapEntry) (p : Nat) :
    tget (clearKeepMarks m) p = (tget m p).map (fun e => { e with keep := false }) :=
  tget_map_value (fun _ (e : MapEntry) => { e with keep := false }) m p

/-- Clearing every keep mark forgets which were set before. -/
theorem clearKeepMarks_markKeep (v : Bool) (first n : Nat) (m : Table MapEntry) :
    clearKeepMarks (markKeep v first n m) = clearKeepMarks m := by
  unfold clearKeepMarks markKeep
  rw [List.map_map]
  refine List.map_congr_left fun c _ => ?_
  simp only [Function.comp_apply]
  split <;> rfl

/-! ## Reads of a track -/

theorem Read.ofTrackSweeps_eq (t : Track) (y : Read) :
    y.ofTrackSweeps t = (decide (y.track = t) && !y.kind.isMean) := by
  unfold Read.ofTrackSweeps ReadKind.isMean
  cases y.kind <;> simp

theorem Read.ofMean_eq (t : Track) (y : Read) : y.ofMean t = (decide (y.track = t) && y.kind.isMean) := by
  unfold Read.ofMean ReadKind.isMean
  cases y.kind <;> simp

/-- The engine when every read of a track has been overtaken, those of its sweeps before those of its mean (R97, R149;
log 20). -/
def Readout.overtakeTrack (t : Track) (q : Readout) : Readout :=
  { queue := q.queue.filter (fun y => y.track ≠ t),
    ended := q.ended ++
      ((q.queue.filter (fun y => y.track = t && !y.kind.isMean)) ++
        (q.queue.filter (fun y => y.track = t && y.kind.isMean))).map (Read.ending .overtaken) }

/-- Whether the active read is one of a track's. -/
def Readout.activeOf (t : Track) (q : Readout) : Bool := q.queue.head?.any (fun y => y.track = t)

/-- Overtaking the reads of the sweeps and then those of the mean overtakes all reads of the track. -/
theorem Readout.endReads_sweeps_means (t : Track) (q : Readout) :
    (q.endReads (Read.ofTrackSweeps t) .overtaken).endReads (Read.ofMean t) .overtaken = q.overtakeTrack t := by
  have hsweeps : Read.ofTrackSweeps t = fun y => decide (y.track = t) && !y.kind.isMean :=
    funext (Read.ofTrackSweeps_eq t)
  have hmeans : Read.ofMean t = fun y => decide (y.track = t) && y.kind.isMean := funext (Read.ofMean_eq t)
  have kept (y : Read) : (!(decide (y.track = t) && y.kind.isMean) && !(decide (y.track = t) && !y.kind.isMean)) =
      decide (y.track ≠ t) := by
    by_cases h : y.track = t <;> cases y.kind.isMean <;> simp [h]
  have means (y : Read) : ((decide (y.track = t) && y.kind.isMean) && !(decide (y.track = t) && !y.kind.isMean)) =
      (decide (y.track = t) && y.kind.isMean) := by
    by_cases h : y.track = t <;> cases y.kind.isMean <;> simp [h]
  unfold Readout.endReads Readout.overtakeTrack
  simp only [hsweeps, hmeans, List.filter_filter, kept, means, List.map_append, List.append_assoc]

/-- The active read is one of the track's when either step ends the active read it finds. -/
theorem Readout.activeOf_eq (t : Track) (q : Readout) :
    q.activeOf t = (q.queue.head?.any (Read.ofTrackSweeps t) ||
      (q.endReads (Read.ofTrackSweeps t) .overtaken).queue.head?.any (Read.ofMean t)) := by
  unfold Readout.activeOf Readout.endReads
  cases q.queue with
  | nil => rfl
  | cons y ys =>
    by_cases sweep : y.ofTrackSweeps t = true
    · have track : y.track = t := by
        rw [Read.ofTrackSweeps_eq, Bool.and_eq_true, decide_eq_true_eq] at sweep
        exact sweep.1
      simp [sweep, track]
    · simp only [Bool.not_eq_true] at sweep
      simp only [List.filter_cons, sweep, Bool.not_false, if_true, List.head?_cons, Option.any_some, Bool.false_or]
      rw [Read.ofTrackSweeps_eq] at sweep
      rw [Read.ofMean_eq]
      cases mean : y.kind.isMean
      · simpa [mean] using sweep
      · simp

/-! ## Bursts -/

/-- A write burst that completes unheeded and is no longer its writer's (log 12). -/
def Burst.disown (b : Burst) : Burst := { b with heeded := false, attached := false }

@[simp] theorem Burst.isRead_unheed (b : Burst) : b.unheed.isRead = b.isRead := rfl
@[simp] theorem Burst.isRead_disown (b : Burst) : b.disown.isRead = b.isRead := rfl

/-- A burst when a track's writer drops its bursts (R57). -/
def Burst.leaveWriter (t : Track) (b : Burst) : Burst := if !b.isRead && b.track = t then b.disown else b

/-- A burst when reads end, `ended` telling whether the active one is among them (R147). -/
def Burst.leaveRead (ended : Bool) (b : Burst) : Burst := if b.isRead && ended then b.unheed else b

/-- A burst when a track is reset: a read burst is unheeded when the active read was the track's, a write burst of the
track is disowned. -/
def Burst.resetTrack (t : Track) (active : Bool) (b : Burst) : Burst :=
  if b.isRead then (if active then b.unheed else b) else if b.track = t then b.disown else b

/-- The writer's bursts are dropped first, then the read bursts unheeded as the reads of the sweeps end, then as those
of the mean end. -/
theorem Burst.resetTrack_of_steps (t : Track) (sweeps means : Bool) (b : Burst) :
    ((b.leaveWriter t).leaveRead sweeps).leaveRead means = b.resetTrack t (sweeps || means) := by
  unfold Burst.resetTrack Burst.leaveRead Burst.leaveWriter
  by_cases read : b.isRead = true
  · cases sweeps <;> cases means <;> simp [read, Burst.unheed]
  · by_cases track : b.track = t <;> simp [read, track]

/-- A write burst of the track ends the same when it was unheeded before. -/
theorem Burst.resetTrack_unheed {t : Track} {active : Bool} {b : Burst} (write : b.isRead = false)
    (track : b.track = t) : b.unheed.resetTrack t active = b.resetTrack t active := by
  have track' : b.unheed.track = t := track
  simp only [Burst.resetTrack, Burst.isRead_unheed, write, track, track', if_true, Bool.false_eq_true, if_false]
  rfl

/-- The memory controller with each granted burst changed. -/
def MemControl.mapBursts (f : Burst → Burst) (m : MemControl) : MemControl := { m with granted := m.granted.map f }

theorem MemControl.mapBursts_mapBursts (f g : Burst → Burst) (m : MemControl) :
    (m.mapBursts f).mapBursts g = m.mapBursts (g ∘ f) := by
  simp [MemControl.mapBursts]

theorem dropWriterBursts_eq (t : Track) (s : State) :
    dropWriterBursts t s = s.setMem (s.mem.mapBursts (Burst.leaveWriter t)) := rfl

/-- An ending of reads changes the engine's lists and the bursts in flight of an active one (R147). -/
theorem endReads_eq_mapBursts (p : Read → Bool) (status : EndStatus) (s : State) :
    endReads p status s = (s.setReadout (s.readout.endReads p status)).setMem
      (s.mem.mapBursts (Burst.leaveRead (s.readout.queue.head?.any p))) :=
  endReads_eq p status s

/-! ## The reset of a track as one write to each register -/

/-- The averager block of a track after RESET_TRACK (R165). -/
def Averager.resetTrack (a : Averager) : Averager :=
  { a with
    current := none, blockCount := 0, blockLast := none, publication := none, published := false, pubLast := none }

/-- What RESET_TRACK writes: the registers of the track, and those of the part that hold something of it. -/
structure TrackReset where
  map : Table MapEntry
  writePosition : Nat
  readout : Readout
  mem : MemControl
  averager : Averager
  ram : Table (BitVec 32)
  unit : TrackUnit
  check : CheckUnit

/-- The values of a state's own reset of a track (R57). -/
def TrackReset.of (t : Track) (s : State) : TrackReset :=
  { map := clearKeepMarks (s.map t), writePosition := (s.track t).active.base, readout := s.readout.overtakeTrack t,
    mem := s.mem.mapBursts (Burst.resetTrack t (s.readout.activeOf t)), averager := (s.averager t).resetTrack,
    ram := (s.averager t).clearSumsIn s.averagerRam, unit := (s.track t).resetTrack, check := s.check.resetTrack t }

/-- One write to each register; the index is emptied and the lane takes its reset values. -/
def TrackReset.write (v : TrackReset) (t : Track) (s : State) : State :=
  (((((((((s.putRecords t []).putMap t v.map).putWritePosition t v.writePosition).setReadout v.readout).setMem
    v.mem).putAverager t v.averager).setAveragerRam v.ram).putTrack t v.unit).putLane t Lane.reset).setCheck v.check

/-- The part with each item that RESET_TRACK names at its value after the reset. -/
def clearTrack (t : Track) (s : State) : State := (TrackReset.of t s).write t s

section
variable (t : Track) (s : State)

/-- All that the index unit's part changes (R97). -/
theorem emptyIndex_eq :
    emptyIndex t s =
      ((((s.putRecords t []).putMap t (clearKeepMarks (s.map t))).putWritePosition t (s.track t).active.base).setReadout
        (s.readout.endReads (Read.ofTrackSweeps t) .overtaken)).setMem
        (s.mem.mapBursts (Burst.leaveRead (s.readout.queue.head?.any (Read.ofTrackSweeps t)))) := by
  unfold emptyIndex
  rw [endReads_eq_mapBursts]
  rfl

/-- All that the discard of a mean changes (R162, R149). -/
theorem discardMean_eq :
    discardMean t s =
      ((s.putAverager t { s.averager t with publication := none, published := false, pubLast := none }).setReadout
        (s.readout.endReads (Read.ofMean t) .overtaken)).setMem
        (s.mem.mapBursts (Burst.leaveRead (s.readout.queue.head?.any (Read.ofMean t)))) := by
  unfold discardMean overtakeMeans
  rw [endReads_eq_mapBursts]
  rfl

/-- All that the averager's part changes (R165). -/
theorem resetAverager_eq :
    resetAverager t s =
      (((s.putAverager t (s.averager t).resetTrack).setAveragerRam
        ((s.averager t).clearSumsIn s.averagerRam)).setReadout
        (s.readout.endReads (Read.ofMean t) .overtaken)).setMem
        (s.mem.mapBursts (Burst.leaveRead (s.readout.queue.head?.any (Read.ofMean t)))) := by
  have order (a b : Averager) (q : Readout) (m : MemControl) :
      (((s.putAverager t a).setReadout q).setMem m).putAverager t b = ((s.putAverager t b).setReadout q).setMem m :=
    congrArg (fun x => (x.setReadout q).setMem m) (putAverager_putAverager s t a b)
  unfold resetAverager
  simp only [discardMean_eq, order, setMem_reads, setReadout_reads, State.averager_putAverager_same]
  split <;> rename_i region
  · rw [Averager.clearSumsIn_none region]; rfl
  · rw [Averager.clearSumsIn_some region]; rfl

/-- After the removal of a FILLING sweep, RESET_TRACK is one write to each register: the stages write registers of their
own, but for the engine and the bursts, where their effects compose. -/
theorem resetTrack_eq_clearTrack_removeFilling : resetTrack t s = clearTrack t (removeFilling t s) := by
  unfold resetTrack
  generalize removeFilling t s = s
  have bursts : Burst.resetTrack t (s.readout.activeOf t) =
      Burst.leaveRead
        ((s.readout.endReads (Read.ofTrackSweeps t) .overtaken).queue.head?.any (Read.ofMean t)) ∘
      Burst.leaveRead (s.readout.queue.head?.any (Read.ofTrackSweeps t)) ∘ Burst.leaveWriter t := by
    funext b
    rw [Readout.activeOf_eq]
    exact (Burst.resetTrack_of_steps t _ _ b).symm
  unfold clearTrack TrackReset.of TrackReset.write
  rw [bursts, ← Readout.endReads_sweeps_means, ← MemControl.mapBursts_mapBursts, ← MemControl.mapBursts_mapBursts]
  simp only [dropWriterBursts_eq, emptyIndex_eq, resetAverager_eq, setMem_reads, setReadout_reads,
    setAveragerRam_reads, putRecords_reads, putMap_reads, putWritePosition_reads, putAverager_reads, putRecords_frame,
    putMap_frame, putWritePosition_frame, putAverager_frame, putTrack_frame, putLane_frame, State.setMem_mem,
    State.setMem_readout, State.setMem_averagerRam, State.setMem_check, State.setReadout_readout,
    State.setReadout_averagerRam, State.setReadout_check, State.setAveragerRam_check]
  rfl

/-! ## What was there before the reset is overwritten -/

/-- The writes of a reset hide what stood in the registers they go to. -/
@[simp] theorem TrackReset.write_overwrites (v : TrackReset) :
    (∀ l, v.write t (s.putLane t l) = v.write t s) ∧ (∀ u, v.write t (s.putTrack t u) = v.write t s) ∧
    (∀ rs, v.write t (s.putRecords t rs) = v.write t s) ∧ (∀ m, v.write t (s.putMap t m) = v.write t s) ∧
    (∀ a, v.write t (s.putAverager t a) = v.write t s) ∧ (∀ m, v.write t (s.setMem m) = v.write t s) ∧
    (∀ ram, v.write t (s.setAveragerRam ram) = v.write t s) := by
  refine ⟨?_, ?_, ?_, ?_, ?_, fun _ => rfl, fun _ => rfl⟩ <;>
    simp [TrackReset.write, State.putLane, State.putTrack, State.putRecords, State.putMap, State.putAverager,
      State.putWritePosition, State.setLanes, State.setTracks, State.setIndex, State.setMaps, State.setAveragers,
      State.setWritePos, State.setReadout, State.setMem, State.setAveragerRam, State.setCheck]

theorem clearTrack_putLane (l : Lane) : clearTrack t (s.putLane t l) = clearTrack t s := by
  simp [clearTrack, TrackReset.of]

theorem clearTrack_putRecords (rs : List SweepRecord) : clearTrack t (s.putRecords t rs) = clearTrack t s := by
  simp [clearTrack, TrackReset.of]

/-- A track unit that differs in what the reset writes alone. -/
theorem clearTrack_putTrack {u : TrackUnit} (h : u.resetTrack = (s.track t).resetTrack) :
    clearTrack t (s.putTrack t u) = clearTrack t s := by
  have active : u.resetTrack.active = (s.track t).resetTrack.active := by rw [h]
  simp only [TrackUnit.resetTrack] at active
  simp [clearTrack, TrackReset.of, h, active]

theorem clearTrack_claimKeep (v : Bool) (r : SweepRecord) : clearTrack t (claimKeep t v r s) = clearTrack t s := by
  simp [claimKeep, clearTrack, TrackReset.of, clearKeepMarks_markKeep]

/-- Write bursts of the track that were unheeded before end as the others do. -/
theorem clearTrack_unheedWrites (seq : Nat) : clearTrack t (unheedWrites t seq s) = clearTrack t s := by
  have bursts (active : Bool) : (s.mem.granted.map (fun b =>
      if !b.isRead && b.track = t && b.seq = seq then b.unheed else b)).map (Burst.resetTrack t active) =
      s.mem.granted.map (Burst.resetTrack t active) := by
    rw [List.map_map]
    refine List.map_congr_left fun b _ => ?_
    simp only [Function.comp_apply]
    split
    · rename_i named
      simp only [Bool.and_eq_true, Bool.not_eq_true', decide_eq_true_eq] at named
      obtain ⟨⟨write, track⟩, -⟩ := named
      exact Burst.resetTrack_unheed write track
    · rfl
  simp only [unheedWrites, clearTrack, TrackReset.write_overwrites, TrackReset.of, setMem_reads, State.setMem_readout,
    State.setMem_mem, State.setMem_check, State.setMem_averagerRam, MemControl.mapBursts, bursts]

/-- An averager block that differs in what the reset writes alone. -/
theorem clearTrack_putAverager {a : Averager} (h : a.resetTrack = (s.averager t).resetTrack) :
    clearTrack t (s.putAverager t a) = clearTrack t s := by
  have region : a.resetTrack.region = (s.averager t).resetTrack.region := by rw [h]
  simp only [Averager.resetTrack] at region
  have sums : a.clearSumsIn s.averagerRam = (s.averager t).clearSumsIn s.averagerRam := by
    unfold Averager.clearSumsIn; rw [region]
  simp [clearTrack, TrackReset.of, h, sums]

/-- Sums of the track's own region that were cleared before. -/
theorem clearTrack_clearSums {g : Region} (h : (s.averager t).region = some g) :
    clearTrack t (clearSums g s) = clearTrack t s := by
  unfold clearSums clearTrack
  simp only [TrackReset.write_overwrites]
  exact congrArg (fun ram => { TrackReset.of t s with ram := ram }.write t s)
    (Averager.clearSumsIn_tfill h s.averagerRam)

theorem clearTrack_restartBlock : clearTrack t (restartBlock t s) = clearTrack t s := by
  have block : clearTrack t (s.putAverager t
      { s.averager t with blockCount := 0, blockLast := none, current := none }) = clearTrack t s :=
    clearTrack_putAverager t s rfl
  unfold restartBlock
  simp only
  split
  · rfl
  · rename_i g region
    split
    · exact block
    · rw [clearTrack_clearSums t _ (by simpa using region)]
      exact block

/-- A reset ends the same whether a FILLING sweep was removed before it or not: all that the removal changes is
overwritten. -/
theorem clearTrack_removeFilling : clearTrack t (removeFilling t s) = clearTrack t s := by
  have staged (seq : Nat) (s : State) : clearTrack t (dropStaged t seq s) = clearTrack t s := by
    unfold dropStaged
    rw [clearTrack_unheedWrites, clearTrack_putTrack]
    rfl
  have record (r : SweepRecord) (s : State) : clearTrack t (removeRecord t r s) = clearTrack t s := by
    unfold removeRecord
    split
    · rw [clearTrack_claimKeep, clearTrack_putRecords]
    · rw [clearTrack_putRecords]
  have lane (s : State) : clearTrack t (stopLane t s) = clearTrack t s := by
    unfold stopLane putSchedule
    rw [clearTrack_putTrack, clearTrack_putLane]
    rfl
  have sums (seq : Nat) (s : State) : clearTrack t (averagerSweepRemoved t seq s) = clearTrack t s := by
    unfold averagerSweepRemoved
    split
    · rw [clearTrack_restartBlock]
    · rfl
  unfold removeFilling
  split
  · rfl
  · simp only [sums, record, staged, lane]

/-- RESET_TRACK is one write to each register it names (R57). -/
theorem resetTrack_eq_clearTrack : resetTrack t s = clearTrack t s := by
  rw [resetTrack_eq_clearTrack_removeFilling, clearTrack_removeFilling]

end

/-! ## The registers after the reset -/

section
variable (v : TrackReset) (t k : Track) (s : State)

/-- The registers of the track itself. -/
@[simp] theorem TrackReset.write_own :
    (v.write t s).track t = v.unit ∧ (v.write t s).lane t = Lane.reset ∧ (v.write t s).records t = [] ∧
    (v.write t s).writePosition t = v.writePosition ∧ (v.write t s).map t = v.map ∧
    (v.write t s).averager t = v.averager := by
  simp [TrackReset.write]

/-- The registers of every other track. -/
theorem TrackReset.write_other (h : k ≠ t) :
    (v.write t s).track k = s.track k ∧ (v.write t s).lane k = s.lane k ∧ (v.write t s).records k = s.records k ∧
    (v.write t s).map k = s.map k ∧ (v.write t s).writePosition k = s.writePosition k ∧
    (v.write t s).averager k = s.averager k := by
  simp [TrackReset.write, State.track_putTrack_other _ _ h.symm, State.lane_putLane_other _ _ h.symm,
    State.records_putRecords_other _ _ h.symm, State.map_putMap_other _ _ h.symm,
    State.writePosition_putWritePosition_other _ _ h.symm, State.averager_putAverager_other _ _ h.symm]

/-- The registers of the part. -/
@[simp] theorem TrackReset.write_frame :
    (v.write t s).epoch = s.epoch ∧ (v.write t s).markerA = s.markerA ∧ (v.write t s).markerB = s.markerB ∧
    (v.write t s).owners = s.owners ∧ (v.write t s).dram = s.dram ∧ (v.write t s).dramCheck = s.dramCheck ∧
    (v.write t s).link = s.link ∧ (v.write t s).notices = s.notices ∧ (v.write t s).readout = v.readout ∧
    (v.write t s).mem = v.mem ∧ (v.write t s).averagerRam = v.ram ∧ (v.write t s).check = v.check := by
  simp [TrackReset.write]

/-- A word of the averager RAM after the reset of a track with a region. -/
theorem clearTrack_ramWord {g : Region} (h : (s.averager t).region = some g) (a : Nat) :
    (clearTrack t s).ramWord a = if g.base ≤ a ∧ a < g.base + g.length then 0 else s.ramWord a := by
  rw [← ramWord_clearSums]
  unfold State.ramWord clearTrack clearSums
  simp only [TrackReset.write_frame, State.setAveragerRam_averagerRam, State.setAveragerRam_epoch]
  rw [← Averager.clearSumsIn_some h]
  rfl

end

/-! ## RESET_TRACK -/

section
variable {t : Track} {c : CheckUnit} {i : Track × InjectKind}

theorem CheckUnit.resetTrack_none (h : c.inject = none) : c.resetTrack t = c := by
  unfold CheckUnit.resetTrack; rw [h]

theorem CheckUnit.resetTrack_same (h : c.inject = some i) (ht : i.1 = t) :
    c.resetTrack t = { c with inject := none } := by
  unfold CheckUnit.resetTrack; rw [h]; exact if_pos ht

theorem CheckUnit.resetTrack_other (h : c.inject = some i) (ht : i.1 ≠ t) : c.resetTrack t = c := by
  unfold CheckUnit.resetTrack; rw [h]; exact if_neg ht

end

/-- A served RESET_TRACK resets the track it names, is answered with OK, and the controller follows. -/
theorem exec_resetTrack_of_serves {dt : Nat} {s : State} {r : RawRequest} {rest : List RawRequest} {t : Track}
    (h : Serves s r rest (.resetTrack t.val)) :
    exec (.resetTrack dt) s = .next (follow (addReply true r .ok [] (clearTrack t (handed dt s rest)))) := by
  have served : serveResetTrack r (.resetTrack t.val) (handed dt s rest) =
      some (follow (addReply true r .ok [] (clearTrack t (handed dt s rest)))) := by
    simp only [serveResetTrack, trackOf_val, resetTrack_eq_clearTrack, answer]
  exact congrArg Host.Outcome.next (onRequest_serves h served)

/-- Settles O23: RESET_TRACK as one write to each register, read back register by register. -/
theorem resetTrackClearsOneTrack : Obligations.ResetTrackClearsOneTrack := by
  unfold Obligations.ResetTrackClearsOneTrack
  intro dt s r rest t h
  refine ⟨_, exec_resetTrack_of_serves h, ?_⟩
  have sums (g : Region) (region : (s.averager t).region = some g) (a : Nat) :=
    clearTrack_ramWord t (handed dt s rest) (g := g) region a
  have others (k : Track) (hk : k ≠ t) :=
    (TrackReset.of t (handed dt s rest)).write_other t k (handed dt s rest) hk
  unfold clearTrack at sums ⊢
  simp only [follow_reads, follow_frame, follow_mem_kept, follow_ramWord, addReply_reads, addReply_frame,
    addReply_ramWord, addReply_link, TrackReset.write_own, TrackReset.write_frame]
  exact ⟨rfl, rfl, trivial, rfl, tget_clearKeepMarks (s.map t), rfl, rfl, rfl, rfl,
    fun disabled => Averager.clearSumsIn_none disabled s.averagerRam, sums,
    fun _ named other => CheckUnit.resetTrack_other named other,
    fun _ named same => CheckUnit.resetTrack_same named same, CheckUnit.resetTrack_none,
    others, rfl, rfl, rfl, rfl, rfl, rfl, rfl, rfl, rfl, rfl⟩

end Sys2Proof.Machine

/-!
PROOF. What the memory controller begins by itself at the end of a step (R106 to R108, R115, R117 to R119, R123; log 17):
one equation for each stage, read off field by field.
-/

namespace Sys2Proof.Machine

/-! ## Who asks for a burst, and who wakes for it -/

/-- Whether a burst is requested depends on the granted bursts, the track units, the index and the reads alone. -/
theorem burstRequested_congr {x s : State} (granted : x.mem.granted = s.mem.granted) (tracks : x.tracks = s.tracks)
    (index : x.index = s.index) (readout : x.readout = s.readout) : burstRequested x = burstRequested s := by
  have writer : writerRequests x = writerRequests s := by
    funext t
    unfold writerRequests writerBusy drainsOn oldestIncomplete State.track State.records
    rw [granted, tracks, index]
  have engine : engineBlock x = engineBlock s := by unfold engineBlock; rw [readout]
  unfold burstRequested
  rw [writer, engine]

/-- The memory state at the end of a step: a burst request in STANDBY starts a waking (R119). -/
def State.woken (s : State) : MemState :=
  if s.mem.state = .standby && burstRequested s then .waking .burst else s.mem.state

theorem wakeIfRequested_eq (s : State) : wakeIfRequested s = s.setMem { s.mem with state := s.woken } := by
  unfold wakeIfRequested State.woken
  split <;> rfl

theorem State.woken_else {s : State} (h : s.mem.state ≠ .standby ∨ ¬ burstRequested s = true) :
    s.woken = s.mem.state := by
  unfold State.woken
  rcases h with h | h <;> simp [h]

/-- The memory state at the end of a step is fixed by what STANDBY under a burst request and what all else goes on to. -/
theorem State.eq_woken {s : State} {wanted : Prop} {woken : MemState} (asked : wanted ↔ burstRequested s = true)
    (waking : s.mem.state = .standby → wanted → woken = .waking .burst)
    (asleep : s.mem.state ≠ .standby ∨ ¬ wanted → woken = s.mem.state) : woken = s.woken := by
  by_cases h : s.mem.state = .standby ∧ wanted
  · obtain ⟨standby, request⟩ := h
    rw [waking standby request]
    simp [State.woken, standby, asked.mp request]
  · have h := not_and_or.mp h
    rw [asleep h, State.woken_else (h.imp_right (mt asked.mpr))]

theorem wakeIfRequested_auto (s : State) :
    (wakeIfRequested s).mem.autoEnable = s.mem.autoEnable ∧ (wakeIfRequested s).mem.autoTimer = s.mem.autoTimer := by
  rw [wakeIfRequested_eq]
  exact ⟨rfl, rfl⟩

/-! ## The delay timer -/

/-- The four conditions of the auto-standby delay timer (R123). -/
theorem autoConditions_iff (s : State) :
    autoConditions s = true ↔ s.markerA.state = .noSignal ∧ s.markerB.state = .noSignal ∧
      (∀ t, (s.track t).state ≠ .sweeping ∧ (s.track t).state ≠ .awaiting ∧ (s.track t).state ≠ .stopping) ∧
      s.readout.queue = [] ∧ s.mem.state = .running := by
  unfold autoConditions
  simp only [Bool.and_eq_true, decide_eq_true_eq, noneCapturing_iff, List.isEmpty_iff, and_assoc]

/-- The delay timer under its conditions starts when it stood, and otherwise goes on. -/
theorem followAuto_timer_of_quiet {s : State} (h : (s.mem.autoEnable && autoConditions s) = true) :
    (followAuto s).mem.autoTimer = if s.mem.autoTimer = .stopped then .running 0 else s.mem.autoTimer := by
  unfold followAuto
  rw [State.setMem_mem, if_pos h]
  cases s.mem.autoTimer <;> rfl

theorem followAuto_timer_of_busy {s : State} (h : ¬ (s.mem.autoEnable && autoConditions s) = true) :
    (followAuto s).mem.autoTimer = .stopped := by
  unfold followAuto
  rw [State.setMem_mem, if_neg h]

/-- The delay timer of a step's last state x, by what stood in s before the controller's reactions. -/
theorem followAuto_timer {s x y : State} {quiet : Prop} (last : x = followAuto y) (markerA : y.markerA = s.markerA)
    (markerB : y.markerB = s.markerB) (tracks : y.tracks = s.tracks) (readout : y.readout = s.readout)
    (enable : y.mem.autoEnable = s.mem.autoEnable) (timer : y.mem.autoTimer = s.mem.autoTimer)
    (hquiet : quiet ↔ s.mem.autoEnable = true ∧ s.markerA.state = .noSignal ∧ s.markerB.state = .noSignal ∧
      (∀ t, (s.track t).state ≠ .sweeping ∧ (s.track t).state ≠ .awaiting ∧ (s.track t).state ≠ .stopping) ∧
      s.readout.queue = [] ∧ x.mem.state = .running) :
    (quiet → s.mem.autoTimer = .stopped → x.mem.autoTimer = .running 0) ∧
    (quiet → s.mem.autoTimer ≠ .stopped → x.mem.autoTimer = s.mem.autoTimer) ∧
    (¬ quiet → x.mem.autoTimer = .stopped) := by
  subst last
  have follows : quiet ↔ (y.mem.autoEnable && autoConditions y) = true := by
    rw [Bool.and_eq_true, autoConditions_iff, enable, markerA, markerB, readout]
    simp only [State.track, tracks]
    exact hquiet
  refine ⟨fun hq stood => ?_, fun hq ran => ?_, fun hq => followAuto_timer_of_busy (mt follows.mpr hq)⟩
  · rw [followAuto_timer_of_quiet (follows.mp hq), timer, if_pos stood]
  · rw [followAuto_timer_of_quiet (follows.mp hq), timer, if_neg ran]

/-- At the end of a step of another block a waking may begin and the delay timer follows. -/
theorem follow_eq (s : State) :
    follow s = s.setMem { s.mem with state := s.woken, autoTimer := (follow s).mem.autoTimer } := by
  unfold follow
  rw [wakeIfRequested_eq]
  rfl

/-! ## Single banks -/

/-- A bank that is the head of no list, transfers or has a step in progress takes none (R107). -/
theorem MemControl.stepBank_keeps {m : MemControl} {b : BankId}
    (h : m.head b = none ∨ m.dataPath = some b ∨ m.banks[b].step ≠ .none) : m.stepBank b = m := by
  unfold MemControl.stepBank
  split
  · rfl
  · rename_i named
    split
    · rfl
    · rename_i free
      rcases h with h | h | h
      · simp [named] at h
      · exact absurd h free
      · split
        · rfl
        · rfl
        · rename_i still; exact absurd still h

section
variable {m : MemControl} {b : BankId} {x : Burst} (head : m.head b = some x) (free : m.dataPath ≠ some b)
  (still : m.banks[b].step = .none)
include head free still

/-- A CLOSED bank opens its head burst's row (R107). -/
theorem MemControl.stepBank_closed (row : m.banks[b].row = none) :
    (m.stepBank b).banks[b] = { row := none, step := .opening x.row } := by
  simp only [MemControl.stepBank, head, if_neg free, still, row]
  simp [MemControl.setBank]

/-- A bank OPEN on its head burst's row takes no step (R107). -/
theorem MemControl.stepBank_openOn (row : m.banks[b].row = some x.row) : m.stepBank b = m := by
  simp only [MemControl.stepBank, head, if_neg free, still, row, if_true]

/-- A bank OPEN on another row is closed (R107). -/
theorem MemControl.stepBank_openElse {r : Nat} (row : m.banks[b].row = some r) (other : r ≠ x.row) :
    (m.stepBank b).banks[b] = { row := none, step := .closing } := by
  simp only [MemControl.stepBank, head, if_neg free, still, row, if_neg other]
  simp [MemControl.setBank]

end

/-- What every bank does at the end of a step, by the page of its head burst (R107). -/
theorem MemControl.stepBanks_bank (m : MemControl) (b : BankId) :
    ((∀ y ∈ m.granted, y.page.toNat % 8 ≠ b.val) ∨ m.dataPath = some b ∨ m.banks[b].step ≠ .none →
      m.stepBanks.banks[b] = m.banks[b]) ∧
    (∀ x, m.granted.find? (fun y => y.page.toNat % 8 = b.val) = some x → m.dataPath ≠ some b →
      m.banks[b].step = .none →
      (m.banks[b].row = none → m.stepBanks.banks[b] = { row := none, step := .opening (x.page.toNat / 8) }) ∧
      (m.banks[b].row = some (x.page.toNat / 8) → m.stepBanks.banks[b] = m.banks[b]) ∧
      (∀ row, m.banks[b].row = some row → row ≠ x.page.toNat / 8 →
        m.stepBanks.banks[b] = { row := none, step := .closing })) := by
  obtain ⟨-, -, -, -, -, -, -, -, -, -, -, -, own⟩ := m.stepBanks_spec
  have head : m.head b = m.granted.find? (fun y => y.page.toNat % 8 = b.val) := find_bank m.granted b
  rw [own b, ← head]
  refine ⟨fun h => ?_, fun x named free still => ⟨?_, fun row => ?_, fun row isOpen other => ?_⟩⟩
  · rw [MemControl.stepBank_keeps (h.imp_left fun apart => ?_)]
    rw [head, List.find?_eq_none]
    simpa using apart
  · exact MemControl.stepBank_closed named free still
  · rw [MemControl.stepBank_openOn named free still row]
  · exact MemControl.stepBank_openElse named free still isOpen other

/-- A closing of the open banks, bank by bank (R106). -/
theorem MemControl.closeOpen_bank {m : MemControl} {b : BankId} {shut : Bank}
    (keeps : m.banks[b].row = none → shut = m.banks[b])
    (closes : m.banks[b].row ≠ none → shut = { row := none, step := .closing }) : m.closeOpen.banks[b] = shut := by
  have own : m.closeOpen.banks[b] = m.banks[b].beginClose := by simp [MemControl.closeOpen]
  rw [own]
  unfold Bank.beginClose
  cases row : m.banks[b].row with
  | none => exact (keeps row).symm
  | some _ => exact (closes (by rw [row]; exact Option.some_ne_none _)).symm

/-- With no bank OPEN there is nothing to close. -/
theorem MemControl.closeOpen_bank_of_none {m : MemControl} (h : ¬ m.anyOpen = true) (b : BankId) :
    m.closeOpen.banks[b] = m.banks[b] :=
  MemControl.closeOpen_bank (fun _ => rfl) fun row => absurd (m.anyOpen_iff.mpr ⟨b, row⟩) h

/-- Whether a step is left in a controller with the banks of another. -/
theorem MemControl.noSteps_of_banks {x m : MemControl} {still : Prop} (banks : x.banks = m.banks)
    (hstill : still ↔ ∀ b : BankId, x.banks[b].step = .none) : still ↔ m.noSteps = true := by
  rw [m.noSteps_iff, ← banks]
  exact hstill

/-- The burst that a free data path may take, by its page (R108). -/
theorem MemControl.ready_eq (m : MemControl) (y : Burst) :
    m.ready y = (m.granted.find? (fun z => z.page.toNat % 8 = y.page.toNat % 8) = some y &&
      m.banks[y.bank] = { row := some (y.page.toNat / 8), step := .none }) := by
  have head : m.head y.bank = m.granted.find? (fun z => z.page.toNat % 8 = y.page.toNat % 8) :=
    find_bank m.granted y.bank
  unfold MemControl.ready
  rw [head, Bool.and_assoc, ← Bool.decide_and]
  congr 2
  cases m.banks[y.bank]
  simp only [Bank.mk.injEq]
  rfl

/-- The data path after the bank steps: a transfer goes on, and a free data path goes to the ready head burst of the
earliest grant (R108). -/
theorem MemControl.startTransfer_stepBanks (m : MemControl) :
    (m.dataPath ≠ none → m.stepBanks.startTransfer.dataPath = m.dataPath) ∧
    (m.dataPath = none →
      m.stepBanks.startTransfer.dataPath = (m.granted.find? (fun y =>
        m.granted.find? (fun z => z.page.toNat % 8 = y.page.toNat % 8) = some y &&
          m.stepBanks.banks[y.bank] = { row := some (y.page.toNat / 8), step := .none })).map Burst.bank) := by
  obtain ⟨granted, dataPath, -⟩ := m.stepBanks_spec
  obtain ⟨d, transfer, taken, free⟩ := m.stepBanks.startTransfer_spec
  rw [granted, funext m.stepBanks.ready_eq, granted, dataPath] at free
  rw [dataPath] at taken
  rw [transfer]
  refine ⟨fun busy => ?_, free⟩
  obtain ⟨b, named⟩ := Option.ne_none_iff_exists'.mp busy
  exact (taken b named).trans named.symm

/-! ## What the controller's own stages may change -/

/-- `n` differs from `m` in what the controller's own stages change besides the data path. -/
def MemControl.Drives (m n : MemControl) : Prop :=
  n = { m with banks := n.banks, refresh := n.refresh, state := n.state }

theorem MemControl.Drives.trans {l m n : MemControl} (h : l.Drives m) (k : m.Drives n) : l.Drives n := by
  unfold MemControl.Drives at h k ⊢
  rw [k, h]

theorem MemControl.Drives.kept {m n : MemControl} (h : m.Drives n) :
    n.dataPath = m.dataPath ∧ n.autoEnable = m.autoEnable ∧ n.autoTimer = m.autoTimer := by
  unfold MemControl.Drives at h
  rw [h]
  exact ⟨rfl, rfl, rfl⟩

theorem MemControl.stepBanks_only (m : MemControl) : ∃ bs, m.stepBanks = { m with banks := bs } := by
  have steps (l : List BankId) (m : MemControl) : ∃ bs, l.foldl MemControl.stepBank m = { m with banks := bs } := by
    induction l generalizing m with
    | nil => exact ⟨m.banks, rfl⟩
    | cons b l ih =>
      obtain ⟨x, stepped⟩ := m.stepBank_only b
      obtain ⟨bs, rest⟩ := ih (m.stepBank b)
      exact ⟨bs, by rw [List.foldl_cons, rest, stepped]⟩
  exact steps _ m

theorem MemControl.drives_driveRefresh (m : MemControl) : m.Drives m.driveRefresh := by
  obtain ⟨bs, r, h, -⟩ := m.driveRefresh_spec
  rw [h]; rfl

/-- The memory state at the end of an entry: a held wake goes before a held burst request (R118, R119). -/
def State.entryEnd (s : State) : MemState :=
  if s.mem.heldWake then .waking .wake else if burstRequested s then .waking .burst else .standby

/-- All that the end of an entry changes (R118, R124). -/
theorem completeEntry_eq (c : EntryCause) (s : State) :
    completeEntry c s =
      ((s.setMem { s.mem with state := s.entryEnd }).setNotices
        (s.notices.post Source.standbyChange (.standbyChange (.standby c) s.time s.mem.balance))).setLink
        (completeInHand 0x40 s).link := by
  have link : completeInHand 0x40 (post Source.standbyChange (.standbyChange (.standby c) s.time s.mem.balance)
      (s.setMem { s.mem with state := .standby })) =
      ((s.setMem { s.mem with state := .standby }).setNotices
        (s.notices.post Source.standbyChange (.standbyChange (.standby c) s.time s.mem.balance))).setLink
        (completeInHand 0x40 s).link := by
    unfold completeInHand
    simp only [post_frame, State.setMem_link]
    split
    · split <;> rfl
    · rfl
  have asked : burstRequested (((s.setMem { s.mem with state := .standby }).setNotices
      (s.notices.post Source.standbyChange (.standbyChange (.standby c) s.time s.mem.balance))).setLink
      (completeInHand 0x40 s).link) = burstRequested s := burstRequested_congr rfl rfl rfl rfl
  unfold completeEntry State.entryEnd
  simp only [State.setMem_mem, State.setMem_time] at link ⊢
  simp only [link, asked, State.setLink_mem, State.setNotices_mem, State.setMem_mem]
  split
  · rfl
  · split <;> rfl

theorem drives_driveEntry (s : State) : s.mem.Drives (driveEntry s).mem := by
  by_cases entry : ∃ c, s.mem.state = .entering c
  · obtain ⟨c, state⟩ := entry
    rw [driveEntry_in s c state]
    split
    · split
      · exact MemControl.Drives.trans (m := { s.mem with refresh := .waiting }) rfl (MemControl.drives_driveRefresh _)
      · split
        · exact rfl
        · split
          · rw [completeEntry_eq]; exact rfl
          · exact rfl
    · exact rfl
  · rw [driveEntry_not s fun c state => entry ⟨c, state⟩]
    exact rfl

theorem drives_drive (s : State) : ∃ d, MemControl.Drives { s.mem with dataPath := d } (drive s).mem := by
  obtain ⟨bs, stepped⟩ := s.mem.stepBanks_only
  obtain ⟨d, transfer, -⟩ := s.mem.stepBanks.startTransfer_spec
  have begun : MemControl.Drives { s.mem with dataPath := d } s.mem.stepBanks.startTransfer := by
    rw [transfer, stepped]; rfl
  have stages := begun.trans (MemControl.drives_driveRefresh _)
  unfold drive
  generalize s.mem.stepBanks.startTransfer.driveRefresh = m at stages ⊢
  exact ⟨d, stages.trans (drives_driveEntry (s.setMem m))⟩

theorem drive_auto (s : State) :
    (drive s).mem.autoEnable = s.mem.autoEnable ∧ (drive s).mem.autoTimer = s.mem.autoTimer := by
  obtain ⟨d, driven⟩ := drives_drive s
  generalize (drive s).mem = m at driven ⊢
  obtain ⟨-, enable, timer⟩ := driven.kept
  exact ⟨enable, timer⟩

/-- What no reaction of the controller changes. -/
theorem settle_mem_rest (s : State) :
    (settle s).mem =
      { s.mem with
        banks := (settle s).mem.banks, dataPath := (settle s).mem.dataPath, refresh := (settle s).mem.refresh,
        state := (settle s).mem.state, autoTimer := (settle s).mem.autoTimer } := by
  obtain ⟨d, driven⟩ := drives_drive s
  unfold MemControl.Drives at driven
  unfold settle
  rw [follow_eq (drive s), State.setMem_mem, driven]

/-- With no burst granted no transfer begins. -/
theorem settle_dataPath {s : State} (granted : s.mem.granted = []) : (settle s).mem.dataPath = s.mem.dataPath := by
  have stages : s.mem.Drives (driveEntry (s.setMem s.mem.driveRefresh)).mem :=
    s.mem.drives_driveRefresh.trans (drives_driveEntry (s.setMem _))
  unfold settle
  rw [follow_eq, drive_idle granted]
  exact stages.kept.1

/-- The controller's reactions write its own registers, the notices and the link. -/
theorem settle_writes (s : State) :
    settle s = ((s.setMem (settle s).mem).setNotices (settle s).notices).setLink (settle s).link := by
  have frame := settle_frame s
  generalize settle s = x at frame ⊢
  cases x
  cases s
  simp only [State.setMem, State.setNotices, State.setLink] at frame ⊢
  simp only [frame]

/-! ## The end of a step, stage by stage -/

/-- A stage of the controller that keeps the memory state, and what the end of a step adds to it. -/
theorem settle_of_drive {s : State} {m : MemControl} (driven : drive s = s.setMem m)
    (state : m.state = s.mem.state) (granted : m.granted = s.mem.granted) :
    (settle s).mem.banks = m.banks ∧ (settle s).mem.dataPath = m.dataPath ∧ (settle s).mem.refresh = m.refresh ∧
    (settle s).mem.state = s.woken ∧ (settle s).notices = s.notices ∧ (settle s).link = s.link := by
  have asked : burstRequested (s.setMem m) = burstRequested s := burstRequested_congr granted rfl rfl rfl
  have woken : (s.setMem m).woken = s.woken := by
    unfold State.woken; rw [asked, State.setMem_mem, state]
  unfold settle
  rw [follow_eq, driven, woken]
  exact ⟨rfl, rfl, rfl, rfl, rfl, rfl⟩

/-- With bursts granted: bank steps, a transfer, and a refresh whose last close step has ended. -/
theorem settle_granted {s : State} (granted : s.mem.granted ≠ []) :
    (settle s).mem.banks = s.mem.stepBanks.banks ∧
    (settle s).mem.dataPath = s.mem.stepBanks.startTransfer.dataPath ∧
    (settle s).mem.refresh =
      (if s.mem.refresh = .closing && s.mem.stepBanks.noSteps then .inFlight else s.mem.refresh) ∧
    (settle s).mem.state = s.woken ∧ (settle s).notices = s.notices ∧ (settle s).link = s.link := by
  obtain ⟨bs, stepped⟩ := s.mem.stepBanks_only
  obtain ⟨d, transfer, -⟩ := s.mem.stepBanks.startTransfer_spec
  have driven := drive_busy granted
  rw [MemControl.driveRefresh_rest _ (.inr (by rw [transfer, stepped]; exact granted)), transfer, stepped] at driven
  rw [transfer, stepped]
  exact settle_of_drive driven rfl rfl

/-- With no burst granted, a refresh that waits, or that an entry grants while B is above 0, closes the open banks and
begins when none has a step left (R115, R117). -/
theorem settle_refreshGranted {s : State} (granted : s.mem.granted = [])
    (refresh : s.mem.refresh = .waiting ∨
      s.mem.refresh = .none ∧ (∃ c, s.mem.state = .entering c) ∧ 0 < s.mem.balance) :
    (settle s).mem.banks = s.mem.closeOpen.banks ∧
    (settle s).mem.refresh = (if s.mem.closeOpen.noSteps then .inFlight else .closing) ∧
    (settle s).mem.state = s.woken ∧ (settle s).notices = s.notices ∧ (settle s).link = s.link := by
  have driven : drive s = s.setMem
      { s.mem with
        banks := s.mem.closeOpen.banks, refresh := if s.mem.closeOpen.noSteps then .inFlight else .closing } := by
    rw [drive_idle granted]
    rcases refresh with waiting | ⟨ungranted, ⟨c, state⟩, above⟩
    · rw [MemControl.driveRefresh_waiting _ granted waiting]
      refine driveEntry_busy _ (.inl ?_)
      simp only [State.setMem_mem]
      split <;> simp
    · rw [MemControl.driveRefresh_none _ ungranted]
      show driveEntry s = _
      rw [driveEntry_in s c state, if_pos (by simp [ungranted, granted]), if_pos above,
        MemControl.driveRefresh_waiting { s.mem with refresh := .waiting } granted rfl]
      rfl
  obtain ⟨banks, -, rest⟩ := settle_of_drive driven rfl rfl
  exact ⟨banks, rest⟩

/-- With no burst granted, a refresh that closes the banks begins when none has a step left (R115). -/
theorem settle_refreshClosing {s : State} (granted : s.mem.granted = []) (refresh : s.mem.refresh = .closing) :
    (settle s).mem.banks = s.mem.banks ∧
    (settle s).mem.refresh = (if s.mem.noSteps then .inFlight else .closing) ∧
    (settle s).mem.state = s.woken ∧ (settle s).notices = s.notices ∧ (settle s).link = s.link := by
  have driven : drive s = s.setMem { s.mem with refresh := if s.mem.noSteps then .inFlight else .closing } := by
    rw [drive_idle granted, MemControl.driveRefresh_rest _ (.inl (by simp [refresh])), refresh]
    simp only [decide_true, Bool.true_and]
    refine driveEntry_busy _ (.inl ?_)
    simp only [State.setMem_mem]
    split <;> simp
  obtain ⟨banks, -, rest⟩ := settle_of_drive driven rfl rfl
  exact ⟨banks, rest⟩

/-- With no burst granted, and a refresh in flight or neither a refresh nor an entry, the controller has no stage. -/
theorem settle_idle {s : State} (granted : s.mem.granted = [])
    (h : s.mem.refresh = .inFlight ∨ s.mem.refresh = .none ∧ (∀ c, s.mem.state ≠ .entering c)) :
    (settle s).mem.banks = s.mem.banks ∧ (settle s).mem.refresh = s.mem.refresh ∧
    (settle s).mem.state = s.woken ∧ (settle s).notices = s.notices ∧ (settle s).link = s.link := by
  have driven : drive s = s.setMem s.mem := by
    rw [drive_idle granted]
    rcases h with flight | ⟨ungranted, away⟩
    · rw [MemControl.driveRefresh_rest _ (.inl (by simp [flight])), if_neg (by simp [flight])]
      exact driveEntry_busy _ (.inl (by simp [flight]))
    · rw [MemControl.driveRefresh_none _ ungranted]
      exact driveEntry_not _ away
  obtain ⟨banks, -, rest⟩ := settle_of_drive driven rfl rfl
  exact ⟨banks, rest⟩

/-! ## The last stages of an entry -/

section
variable {s : State} {c : EntryCause} (granted : s.mem.granted = []) (state : s.mem.state = .entering c)
  (refresh : s.mem.refresh = .none) (balance : s.mem.balance ≤ 0)
include granted state refresh balance

/-- An entry with nothing granted and B not above 0 closes the open banks, waits for their steps, and completes. -/
theorem drive_entryEnds :
    drive s = if s.mem.anyOpen then s.setMem s.mem.closeOpen else if s.mem.noSteps then completeEntry c s else s := by
  rw [drive_idle granted, MemControl.driveRefresh_none _ refresh]
  show driveEntry s = _
  rw [driveEntry_in s c state, if_pos (by simp [refresh, granted]), if_neg (by omega)]

/-- While a bank is OPEN or has a step the entry closes what is open and goes on (R117). -/
theorem settle_entryCloses (left : ∃ b : BankId, s.mem.banks[b].row ≠ none ∨ s.mem.banks[b].step ≠ .none) :
    (∀ b : BankId, (settle s).mem.banks[b] = s.mem.closeOpen.banks[b]) ∧ (settle s).mem.refresh = .none ∧
    (settle s).mem.state = .entering c ∧ (settle s).notices = s.notices ∧ (settle s).link = s.link := by
  have woken : s.woken = .entering c := (State.woken_else (.inl (by simp [state]))).trans state
  have driven := drive_entryEnds granted state refresh balance
  by_cases isOpen : s.mem.anyOpen = true
  · rw [if_pos isOpen] at driven
    obtain ⟨banks, -, stage, rest⟩ := settle_of_drive driven rfl rfl
    rw [banks, stage, ← woken]
    exact ⟨fun _ => rfl, refresh, rest⟩
  · have steps : ¬ s.mem.noSteps = true := by
      intro quiet
      obtain ⟨b, row | step⟩ := left
      · exact isOpen (s.mem.anyOpen_iff.mpr ⟨b, row⟩)
      · exact step (s.mem.noSteps_iff.mp quiet b)
    rw [if_neg isOpen, if_neg steps] at driven
    obtain ⟨banks, -, stage, rest⟩ := settle_of_drive (m := s.mem) driven rfl rfl
    rw [banks, stage, ← woken]
    exact ⟨fun b => (MemControl.closeOpen_bank_of_none isOpen b).symm, refresh, rest⟩

/-- With every bank CLOSED and no step left the entry completes (R118, R119, R124). -/
theorem settle_entryCompletes (closed : ∀ b : BankId, s.mem.banks[b] = { row := none, step := .none }) :
    (settle s).mem.banks = s.mem.banks ∧ (settle s).mem.refresh = .none ∧ (settle s).mem.state = s.entryEnd ∧
    (settle s).notices = s.notices.post Source.standbyChange (.standbyChange (.standby c) s.time s.mem.balance) ∧
    (settle s).link = (completeInHand 0x40 s).link := by
  have shut : ¬ s.mem.anyOpen = true := fun isOpen => by
    obtain ⟨b, row⟩ := s.mem.anyOpen_iff.mp isOpen
    exact row (by rw [closed b])
  have quiet : s.mem.noSteps = true := s.mem.noSteps_iff.mpr fun b => by rw [closed b]
  have driven := drive_entryEnds granted state refresh balance
  rw [if_neg shut, if_pos quiet] at driven
  have woken : (completeEntry c s).woken = s.entryEnd := by
    have asked : burstRequested (completeEntry c s) = burstRequested s := by
      rw [completeEntry_eq]; exact burstRequested_congr rfl rfl rfl rfl
    have now : (completeEntry c s).mem.state = s.entryEnd := by rw [completeEntry_eq]; rfl
    rw [← now]
    refine State.woken_else ?_
    rw [now, asked, or_iff_not_imp_right, not_not]
    intro requested
    unfold State.entryEnd
    rw [if_pos requested]
    split <;> simp
  unfold settle
  rw [follow_eq, driven, woken, completeEntry_eq]
  exact ⟨rfl, refresh, rfl, rfl, rfl⟩

end

/-! ## The request in hand, and the statement -/

section
variable {s : State} {code : Nat}

/-- The request in hand of the awaited kind leaves the hand with an OK reply. -/
theorem completeInHand_link {r : RawRequest} (inHand : s.link.inHand = some r) (kind : r.code = code) :
    (completeInHand code s).link =
      { s.link with
        inHand := none,
        replies := s.link.replies ++ [{ own := true, code := r.code, tag := r.tag, payload := [0] }] } := by
  subst kind
  unfold completeInHand
  rw [inHand]
  simp only [if_true]
  rfl

/-- Any other request stays in hand. -/
theorem completeInHand_other (other : ∀ r, s.link.inHand = some r → r.code ≠ code) : completeInHand code s = s := by
  unfold completeInHand
  split
  · rename_i r inHand
    rw [if_neg (other r inHand)]
  · rfl

end

/-- Settles O37: each stage's equation read off field by field. -/
theorem controllerReactsAtStepEnd : Obligations.ControllerReactsAtStepEnd := by
  unfold Obligations.ControllerReactsAtStepEnd
  intro s x wanted quiet still woken shut hwanted waking asleep hquiet hstill hshut
  have asked : wanted ↔ burstRequested s = true := hwanted.trans (burstRequested_iff s).symm
  obtain rfl : woken = s.woken := State.eq_woken asked waking asleep
  have hclosed (b : BankId) : s.mem.closeOpen.banks[b] = shut b :=
    MemControl.closeOpen_bank (hshut b).1 (hshut b).2
  refine ⟨?timer, ?follow, ?settle⟩
  case timer =>
    rintro (rfl | rfl)
    · obtain ⟨enable, timer⟩ := wakeIfRequested_auto s
      exact followAuto_timer (y := wakeIfRequested s) rfl (by simp) (by simp) (by simp) (by simp) enable timer hquiet
    · obtain ⟨enable, timer⟩ := wakeIfRequested_auto (drive s)
      obtain ⟨enabled, timed⟩ := drive_auto s
      exact followAuto_timer (y := wakeIfRequested (drive s)) rfl (by simp) (by simp) (by simp) (by simp)
        (enable.trans enabled) (timer.trans timed) hquiet
  case follow =>
    rintro rfl
    exact follow_eq s
  case settle =>
    rintro rfl
    refine ⟨settle_writes s, settle_mem_rest s, fun granted => ?granted, fun granted =>
      ⟨settle_dataPath granted, fun refresh => ?begins, fun refresh => ?closing, fun away => ?idle,
        fun c state refresh balance => ?entry⟩⟩
    case granted =>
      obtain ⟨banks, dataPath, refresh, rest⟩ := settle_granted granted
      rw [banks, dataPath, refresh]
      have quiet := MemControl.noSteps_of_banks banks hstill
      obtain ⟨busy, free⟩ := s.mem.startTransfer_stepBanks
      refine ⟨s.mem.stepBanks_bank, busy, free, fun closing done => ?_, fun other => ?_, rest⟩
      · exact if_pos (by simp [closing, quiet.mp done])
      · refine if_neg ?_
        rcases other with other | other
        · simp [other]
        · simp [mt quiet.mpr other]
    case begins =>
      obtain ⟨banks, stage, rest⟩ := settle_refreshGranted granted refresh
      rw [banks, stage]
      have quiet := MemControl.noSteps_of_banks banks hstill
      exact ⟨hclosed, fun done => if_pos (quiet.mp done), fun left => if_neg (mt quiet.mpr left), rest⟩
    case closing =>
      obtain ⟨banks, stage, rest⟩ := settle_refreshClosing granted refresh
      rw [banks, stage]
      have quiet := MemControl.noSteps_of_banks banks hstill
      exact ⟨rfl, fun done => if_pos (quiet.mp done), fun left => if_neg (mt quiet.mpr left), rest⟩
    case idle => exact settle_idle granted away
    case entry =>
      by_cases left : ∃ b : BankId, s.mem.banks[b].row ≠ none ∨ s.mem.banks[b].step ≠ .none
      · obtain ⟨banks, stage, rest⟩ := settle_entryCloses granted state refresh balance left
        refine ⟨stage, fun b => (banks b).trans (hclosed b), fun _ => rest, fun closed => ?_⟩
        obtain ⟨b, h⟩ := left
        simp [closed b] at h
      · have closed (b : BankId) : s.mem.banks[b] = { row := none, step := .none } := by
          obtain ⟨row, step⟩ := not_or.mp (not_exists.mp left b)
          rw [Bank.mk.injEq]
          exact ⟨not_not.mp row, not_not.mp step⟩
        obtain ⟨banks, stage, ends, posted, reply⟩ := settle_entryCompletes granted state refresh balance closed
        rw [banks, ends, reply]
        refine ⟨stage, fun b => ?_, fun h => absurd h left, fun _ => ⟨posted, fun held => ?_, fun held burst => ?_,
          fun held rest => ?_, fun r inHand kind => completeInHand_link inHand kind, fun other => ?_⟩⟩
        · exact ((hshut b).1 (by rw [closed b])).symm
        · simp [State.entryEnd, held]
        · simp [State.entryEnd, held, asked.mp burst]
        · simp [State.entryEnd, held, mt asked.mpr rest]
        · rw [completeInHand_other other]

end Sys2Proof.Machine

/-!
PROOF. The check-code unit's requests (R132, R135, R136): which codes the part takes, and what each request is
answered with and leaves in the unit.
-/

namespace Sys2Proof.Machine

/-! ## The codes of the checking modes and of the inject kinds -/

@[simp] theorem checkModeOf_code (m : CheckMode) : checkModeOf m.code.toNat = some m := by
  cases m <;> rfl

theorem checkModeOf_big {n : Nat} (h : 3 ≤ n) : checkModeOf n = none := by
  obtain ⟨k, rfl⟩ := Nat.exists_eq_add_of_le' h
  rfl

@[simp] theorem injectKindOf_code (k : InjectKind) : injectKindOf k.code.toNat = some k := by
  cases k <;> rfl

theorem injectKindOf_big {n : Nat} (h : 2 ≤ n) : injectKindOf n = none := by
  obtain ⟨k, rfl⟩ := Nat.exists_eq_add_of_le' h
  rfl

/-! ## What the unit does with a request -/

section
variable (r : RawRequest) (s : State)

theorem serveSetChecking_badField {n : Nat} (h : 3 ≤ n) :
    serveSetChecking r (.setChecking n) s = some (addReply true r .badField [] s) := by
  simp only [serveSetChecking, checkModeOf_big h, answer]

theorem serveSetChecking_ok (m : CheckMode) :
    serveSetChecking r (.setChecking m.code.toNat) s =
      some (addReply true r .ok [] (s.setCheck { s.check with mode := m })) := by
  simp only [serveSetChecking, checkModeOf_code, answer]

theorem serveInjectFault_badField (t : Track) {n : Nat} (h : 2 ≤ n) :
    serveInjectFault r (.injectFault t.val n) s = some (addReply true r .badField [] s) := by
  simp only [serveInjectFault, trackOf_val, injectKindOf_big h, answer]

/-- An injection that is still waiting keeps the next one out (R136). -/
theorem serveInjectFault_busy (t : Track) (k : InjectKind) (waiting : s.check.inject ≠ none) :
    serveInjectFault r (.injectFault t.val k.code.toNat) s = some (addReply true r .busy [] s) := by
  simp only [serveInjectFault, trackOf_val, injectKindOf_code, answer, Option.isSome_iff_ne_none.mpr waiting, if_true]

theorem serveInjectFault_ok (t : Track) (k : InjectKind) (idle : s.check.inject = none) :
    serveInjectFault r (.injectFault t.val k.code.toNat) s =
      some (addReply true r .ok [] (s.setCheck { s.check with inject := some (t, k) })) := by
  simp only [serveInjectFault, trackOf_val, injectKindOf_code, answer, idle, Option.isSome_none, Bool.false_eq_true,
    if_false]

theorem serveClearFault_ok :
    serveClearFault r .clearFault s =
      some (addReply true r .ok []
        (s.setCheck { s.check with lastCorrected := none, firstUncorrectable := none, more := false })) :=
  rfl

end

/-! ## The commands, and the statement -/

section
variable {dt : Nat} {s x : State} {r : RawRequest} {rest : List RawRequest} {q : Request} (h : Serves s r rest q)
include h

theorem exec_setChecking_of_serves (served : serveSetChecking r q (handed dt s rest) = some x) :
    exec (.setChecking dt) s = .next x :=
  congrArg Host.Outcome.next (onRequest_serves h served)

theorem exec_injectFault_of_serves (served : serveInjectFault r q (handed dt s rest) = some x) :
    exec (.injectFault dt) s = .next x :=
  congrArg Host.Outcome.next (onRequest_serves h served)

theorem exec_clearFault_of_serves (served : serveClearFault r q (handed dt s rest) = some x) :
    exec (.clearFault dt) s = .next x :=
  congrArg Host.Outcome.next (onRequest_serves h served)

end

/-- Settles O46: each request by the code it carries and, for INJECT_FAULT, by whether an injection waits. -/
theorem checkingRequestsChangeTheirOwn : Obligations.CheckingRequestsChangeTheirOwn := by
  unfold Obligations.CheckingRequestsChangeTheirOwn
  intro dt s r rest
  refine ⟨fun n h => ⟨fun big => ?modeRefused, ?modeSet⟩, fun t n h => ⟨fun big => ?kindRefused, ?kindTaken⟩,
    fun h => ?cleared⟩
  case modeRefused => exact exec_setChecking_of_serves h (serveSetChecking_badField r _ big)
  case modeSet =>
    rintro m rfl
    exact exec_setChecking_of_serves h (serveSetChecking_ok r _ m)
  case kindRefused => exact exec_injectFault_of_serves h (serveInjectFault_badField r _ t big)
  case kindTaken =>
    rintro k rfl
    exact ⟨fun waiting => exec_injectFault_of_serves h (serveInjectFault_busy r (handed dt s rest) t k waiting),
      fun idle => exec_injectFault_of_serves h (serveInjectFault_ok r (handed dt s rest) t k idle)⟩
  case cleared => exact exec_clearFault_of_serves h (serveClearFault_ok r _)

end Sys2Proof.Machine

/-!
PROOF. The averager's requests (R154, R155, R159, R162, R164): the writes a fresh start, a disable and a block restart
come to, the checks before them, and the two statements on SET_AVERAGER and RESTART_AVERAGE.
-/

namespace Sys2Proof.Machine

/-! ## What the owning block reads of the averager RAM -/

@[simp] theorem handed_ramWord (dt : Nat) (s : State) (rest : List RawRequest) (w : Nat) :
    (handed dt s rest).ramWord w = s.ramWord w := rfl

@[simp] theorem putAverager_ramWord (s : State) (t : Track) (a : Averager) (w : Nat) :
    (s.putAverager t a).ramWord w = s.ramWord w := rfl

@[simp] theorem clearSums_averager (g : Region) (s : State) (t : Track) :
    (clearSums g s).averager t = s.averager t := rfl

/-! ## The averager of a track after a request -/

/-- An averager after a fresh start on a new region (R154). -/
def Averager.start (g : Region) (k : Nat) (coasted : Bool) (a : Averager) : Averager :=
  { a with
    region := some g, k := k, includeCoasted := coasted, reason := .none, current := none, blockCount := 0,
    blockLast := none, publication := none, published := false, pubLast := none }

/-- An averager after a disable (R155, R162). -/
def Averager.disable (reason : DisableReason) (a : Averager) : Averager :=
  { a with
    region := none, reason := reason, current := none, blockCount := 0, blockLast := none, publication := none,
    published := false, pubLast := none }

/-- An enabled averager after a restart of its block (R159). -/
def Averager.restart (a : Averager) : Averager := { a with current := none, blockCount := 0, blockLast := none }

/-! ## A discarded mean

A fresh start and a disable both discard the mean and then write the track's averager, so they come to one write of
the averager beside the end of the reads of the mean. -/

/-- A track's averager is written and every READ_MEAN of the track is overtaken (R149, R162). -/
def replaceAverager (t : Track) (a : Averager) (s : State) : State :=
  ((s.putAverager t a).setReadout (s.readout.endReads (Read.ofMean t) .overtaken)).setMem
    (s.mem.mapBursts (Burst.leaveRead (s.readout.queue.head?.any (Read.ofMean t))))

/-- The final frame of an overtaken READ_MEAN (R147, R149). -/
def Read.meanOvertaken (y : Read) : EndFrame :=
  { tag := y.tag, mean := true, position := y.firstPos + y.delivered, status := .overtaken, delivered := y.delivered }

theorem Read.ending_of_ofMean {t : Track} {y : Read} (h : y.ofMean t = true) :
    y.ending .overtaken = y.meanOvertaken := by
  rw [Read.ofMean_eq, Bool.and_eq_true] at h
  obtain ⟨-, mean⟩ := h
  unfold Read.ending Read.meanOvertaken
  rw [mean]

section
variable (t u : Track) (a : Averager) (s : State)

@[simp] theorem replaceAverager_averager_same : (replaceAverager t a s).averager t = a :=
  State.averager_putAverager_same s t a

variable {t u} in
theorem replaceAverager_averager_other (h : u ≠ t) : (replaceAverager t a s).averager u = s.averager u :=
  State.averager_putAverager_other s a h.symm

/-- The last write of the averager stands, and the reads have ended either way. -/
@[simp] theorem replaceAverager_putAverager (b : Averager) :
    (replaceAverager t b s).putAverager t a = replaceAverager t a s := by
  rw [replaceAverager, replaceAverager, ← putAverager_putAverager s t b a]
  rfl

theorem discardMean_eq_replaceAverager :
    discardMean t s =
      replaceAverager t { s.averager t with publication := none, published := false, pubLast := none } s :=
  discardMean_eq t s

@[simp] theorem replaceAverager_ramWord (w : Nat) : (replaceAverager t a s).ramWord w = s.ramWord w := rfl

@[simp] theorem replaceAverager_queue :
    (replaceAverager t a s).readout.queue = s.readout.queue.filter (fun y => !(y.ofMean t)) := rfl

@[simp] theorem replaceAverager_ended :
    (replaceAverager t a s).readout.ended =
      s.readout.ended ++ (s.readout.queue.filter (fun y => y.ofMean t)).map Read.meanOvertaken := by
  refine congrArg (s.readout.ended ++ ·) (List.map_congr_left fun y hy => ?_)
  exact Read.ending_of_ofMean (List.of_mem_filter hy)

@[simp] theorem replaceAverager_frame :
    (replaceAverager t a s).tracks = s.tracks ∧ (replaceAverager t a s).index = s.index ∧
    (replaceAverager t a s).averagerRam = s.averagerRam ∧ (replaceAverager t a s).link = s.link ∧
    (replaceAverager t a s).notices = s.notices := by
  simp [replaceAverager]

/-- A fresh start writes the averager, ends the reads of the old mean and clears the new sums (R154). -/
theorem freshStart_eq (g : Region) (k : Nat) (coasted : Bool) :
    freshStart t g k coasted s = clearSums g (replaceAverager t ((s.averager t).start g k coasted) s) := by
  simp only [freshStart, discardMean_eq_replaceAverager, replaceAverager_averager_same, replaceAverager_putAverager,
    Averager.start]

variable {t s} in
theorem disableAverager_of_disabled (reason : DisableReason) (h : (s.averager t).region = none) :
    disableAverager t reason s = s := by
  unfold disableAverager
  rw [h]
  rfl

variable {t s} in
/-- A disable writes the averager and ends the reads of the mean; the sums stay in the RAM (R155, R162). -/
theorem disableAverager_of_enabled (reason : DisableReason) (h : (s.averager t).region ≠ none) :
    disableAverager t reason s = replaceAverager t ((s.averager t).disable reason) s := by
  simp only [disableAverager, Option.isNone_iff_eq_none, if_neg h, discardMean_eq_replaceAverager,
    replaceAverager_averager_same, replaceAverager_putAverager, Averager.disable]

end

/-! ## A block restart, case by case (R159) -/

section
variable {t : Track} {s : State} {g : Region}

theorem restartBlock_of_disabled (h : (s.averager t).region = none) : restartBlock t s = s := by
  simp only [restartBlock, h]

/-- A publication in flight still reads the sums. -/
theorem restartBlock_of_publishing (h : (s.averager t).region = some g) (p : (s.averager t).publication ≠ none) :
    restartBlock t s = s.putAverager t (s.averager t).restart := by
  simp only [restartBlock, Averager.restart, h, Option.isSome_iff_ne_none.mpr p, if_true]

theorem restartBlock_of_gathering (h : (s.averager t).region = some g) (p : (s.averager t).publication = none) :
    restartBlock t s = clearSums g (s.putAverager t (s.averager t).restart) := by
  simp only [restartBlock, Averager.restart, h, p, Option.isSome_none, Bool.false_eq_true, if_false]

/-- A restart of an enabled averager's block changes the track's averager and words of the averager RAM alone. -/
theorem restartBlock_only (h : (s.averager t).region = some g) :
    restartBlock t s =
      (s.putAverager t (s.averager t).restart).setAveragerRam (restartBlock t s).averagerRam := by
  by_cases p : (s.averager t).publication = none
  · rw [restartBlock_of_gathering h p]; rfl
  · rw [restartBlock_of_publishing h p]; rfl

end

/-! ## The checks of SET_AVERAGER (R154) -/

theorem overlap_iff {a m b n : Nat} : overlap a m b n = true ↔ a < b + n ∧ b < a + m := by
  simp only [overlap, Bool.and_eq_true, decide_eq_true_eq]

/-- A region is taken when it shares a word with the region of another track. -/
theorem regionTaken_iff {s : State} {t : Track} {base n : Nat} :
    regionTaken s t base n = true ↔
      ∃ u g, u ≠ t ∧ (s.averager u).region = some g ∧ base < g.base + 2 * g.length ∧ g.base < base + 2 * n := by
  unfold regionTaken allTracks
  simp only [List.any_eq_true, List.mem_finRange, true_and, Bool.and_eq_true, decide_eq_true_eq]
  refine exists_congr fun u => ?_
  cases (s.averager u).region with
  | none => simp
  | some g => simp [overlap_iff]

theorem regionTaken_eq_false {s : State} {t : Track} {base n : Nat}
    (apart : ∀ u g, u ≠ t → (s.averager u).region = some g →
      g.base + 2 * g.length ≤ base ∨ base + 2 * n ≤ g.base) : regionTaken s t base n = false := by
  rw [← Bool.not_eq_true, regionTaken_iff]
  rintro ⟨u, g, other, region, below, above⟩
  have := apart u g other region
  omega

section
variable (r : RawRequest) (s : State) (t : Track) {base k n : Nat} (coasted : Option Bool)

/-- An enable without the fields of a region is refused. -/
theorem enableAverager_noRegion : enableAverager r t.val none coasted s = addReply true r .badField [] s := by
  unfold enableAverager
  rw [trackOf_val]
  rfl

variable (length : n = (s.track t).active.length)
include length

/-- Check 2: K and the region have to be in range. -/
theorem enableAverager_badField (bad : k < 2 ∨ 1024 < k ∨ 16383 < base ∨ 16384 < base + 2 * n) :
    enableAverager r t.val (some (base, k)) coasted s = addReply true r .badField [] s := by
  unfold enableAverager
  simp only [trackOf_val, ← length, Config.averagerWords]
  exact if_pos bad

/-- Check 3: the region has to be free of the regions of the other tracks. -/
theorem enableAverager_conflict (good : ¬ (k < 2 ∨ 1024 < k ∨ 16383 < base ∨ 16384 < base + 2 * n))
    (taken : regionTaken s t base n = true) :
    enableAverager r t.val (some (base, k)) coasted s = addReply true r .conflict [] s := by
  unfold enableAverager
  simp only [trackOf_val, ← length, Config.averagerWords, if_neg good, taken, if_true]
  rfl

theorem enableAverager_ok (good : ¬ (k < 2 ∨ 1024 < k ∨ 16383 < base ∨ 16384 < base + 2 * n))
    (free : regionTaken s t base n = false) :
    enableAverager r t.val (some (base, k)) coasted s =
      follow (addReply true r .ok [] (freshStart t { base := base, length := n } k (coasted.getD false) s)) := by
  unfold enableAverager
  simp only [trackOf_val, ← length, Config.averagerWords, if_neg good, free, Bool.false_eq_true, if_false]
  rfl

end

/-! ## The commands -/

section
variable {dt : Nat} {s : State} {r : RawRequest} {rest : List RawRequest} {t : Track}

theorem exec_setAveragerEnable_of_serves {track : Nat} {region : Option (Nat × Nat)} {coasted : Option Bool}
    (h : Serves s r rest (.setAverager track true region coasted)) :
    exec (.setAveragerEnable dt) s = .next (enableAverager r track region coasted (handed dt s rest)) :=
  congrArg Host.Outcome.next (onRequest_serves h rfl)

theorem exec_setAveragerDisable_of_serves {region : Option (Nat × Nat)} {coasted : Option Bool}
    (h : Serves s r rest (.setAverager t.val false region coasted)) :
    exec (.setAveragerDisable dt) s =
      .next (follow (addReply true r .ok [] (disableAverager t .request (handed dt s rest)))) := by
  have served : serveSetAveragerDisable r (.setAverager t.val false region coasted) (handed dt s rest) =
      some (follow (addReply true r .ok [] (disableAverager t .request (handed dt s rest)))) := by
    simp only [serveSetAveragerDisable, trackOf_val, answer]
  exact congrArg Host.Outcome.next (onRequest_serves h served)

theorem exec_restartAverage_of_badTrack {n : Nat} (big : 8 ≤ n) (h : Serves s r rest (.restartAverage n)) :
    exec (.restartAverage dt) s = .next (addReply true r .badField [] (handed dt s rest)) := by
  have served : serveRestartAverage r (.restartAverage n) (handed dt s rest) =
      some (addReply true r .badField [] (handed dt s rest)) := by
    simp only [serveRestartAverage, trackOf_big big, answer]
  exact congrArg Host.Outcome.next (onRequest_serves h served)

theorem exec_restartAverage_of_serves (h : Serves s r rest (.restartAverage t.val)) :
    exec (.restartAverage dt) s = .next (addReply true r .ok [] (restartBlock t (handed dt s rest))) := by
  have served : serveRestartAverage r (.restartAverage t.val) (handed dt s rest) =
      some (addReply true r .ok [] (restartBlock t (handed dt s rest))) := by
    simp only [serveRestartAverage, trackOf_val, answer]
  exact congrArg Host.Outcome.next (onRequest_serves h served)

end

/-! ## The statements -/

/-- Settles O52: a track out of range, a disabled averager, and an enabled one, whose sums stay while a publication
reads them. -/
theorem restartAverageRestartsTheBlock : Obligations.RestartAverageRestartsTheBlock := by
  unfold Obligations.RestartAverageRestartsTheBlock
  intro dt s r rest
  refine ⟨fun n big h => exec_restartAverage_of_badTrack big h, ?_⟩
  rintro t _ rfl h
  rw [exec_restartAverage_of_serves h]
  refine ⟨fun disabled => ?disabled, fun g region => ⟨_, rfl, ?written, fun p => ?publishing, fun p w => ?gathering⟩⟩
  case disabled => rw [restartBlock_of_disabled (s := handed dt s rest) disabled]
  case written => exact congrArg (addReply true r .ok []) (restartBlock_only (s := handed dt s rest) region)
  case publishing => simp [restartBlock_of_publishing (s := handed dt s rest) region p]
  case gathering =>
    rw [addReply_ramWord, restartBlock_of_gathering (s := handed dt s rest) region p, ramWord_clearSums,
      putAverager_ramWord, handed_ramWord]

/-- Settles O51: the checks of an enable in their order and the fresh start behind them, and a disable by whether the
averager is enabled. -/
theorem averagerRequestsStartAndStop : Obligations.AveragerRequestsStartAndStop := by
  unfold Obligations.AveragerRequestsStartAndStop
  intro dt s r rest t
  refine ⟨fun coasted h => ?noRegion, fun base k coasted n length h => ?enable, fun region coasted h => ?disable⟩
  case noRegion => rw [exec_setAveragerEnable_of_serves h, enableAverager_noRegion]
  case enable =>
    rw [exec_setAveragerEnable_of_serves h]
    have length' : n = ((handed dt s rest).track t).active.length := length
    refine ⟨fun bad => ?badField, fun kLow kHigh baseHigh fits => ?inRange⟩
    case badField => rw [enableAverager_badField r _ t coasted length' bad]
    case inRange =>
      have good : ¬ (k < 2 ∨ 1024 < k ∨ 16383 < base ∨ 16384 < base + 2 * n) := by omega
      refine ⟨fun shared => ?conflict, fun apart => ?started⟩
      case conflict =>
        rw [enableAverager_conflict r _ t coasted length' good (regionTaken_iff.mpr shared)]
      case started =>
        rw [enableAverager_ok r _ t coasted length' good (regionTaken_eq_false apart), freshStart_eq]
        have others (u : Track) (other : u ≠ t) :=
          replaceAverager_averager_other
            ((s.averager t).start { base := base, length := n } k (coasted.getD false)) (handed dt s rest) other
        refine ⟨_, rfl, ?_⟩
        simp only [follow_reads, follow_frame, follow_ramWord, addReply_reads, addReply_frame, addReply_ramWord,
          addReply_link, clearSums_averager, ramWord_clearSums, clearSums_frame, replaceAverager_averager_same,
          replaceAverager_ramWord, replaceAverager_queue, replaceAverager_ended, replaceAverager_frame,
          handed_averager, handed_ramWord, handed_fields, handed_link]
        exact ⟨rfl, others, fun _ => trivial, trivial, rfl, rfl, trivial, trivial, trivial⟩
  case disable =>
    rw [exec_setAveragerDisable_of_serves h]
    refine ⟨fun disabled => ?already, fun enabled => ?disabled⟩
    case already => rw [disableAverager_of_disabled (s := handed dt s rest) .request disabled]
    case disabled =>
      rw [disableAverager_of_enabled (s := handed dt s rest) .request enabled]
      have others (u : Track) (other : u ≠ t) :=
        replaceAverager_averager_other ((s.averager t).disable .request) (handed dt s rest) other
      refine ⟨_, rfl, ?_⟩
      simp only [follow_reads, follow_frame, addReply_reads, addReply_frame, addReply_link,
        replaceAverager_averager_same, replaceAverager_queue, replaceAverager_frame, handed_averager, handed_fields,
        handed_link]
      exact ⟨rfl, others, trivial, trivial, rfl, trivial, trivial, trivial⟩

end Sys2Proof.Machine

/-!
PROOF. QUERY_IDENTITY and READ_CLOCK (R175): the bytes of the identity reply, the clock the request is handed with, and
the statement that both report and change nothing else.
-/

namespace Sys2Proof.Machine

/-! ## The two reports -/

/-- The identity body spelled out: the part code and the revision, then the 13 capacities of Table 10.5, four bytes
each, low byte first (R175, R186, R189). -/
theorem identityBody_eq :
    identityBody =
      [0xD4, 0x12, 1] ++ [8, 0, 0, 0] ++ [8, 0, 0, 0] ++ [2, 0, 0, 0] ++ [0, 0, 1, 0] ++ [0, 8, 0, 0] ++ [0, 1, 0, 0]
        ++ [32, 0, 0, 0] ++ [0, 1, 0, 0] ++ [4, 0, 0, 0] ++ [4, 0, 0, 0] ++ [0, 64, 0, 0] ++ [16, 4, 0, 0]
        ++ [0, 16, 0, 0] := by
  decide

theorem serveQueryIdentity_ok (r : RawRequest) (s : State) :
    serveQueryIdentity r .queryIdentity s = some (addReply true r .ok identityBody s) :=
  rfl

theorem serveReadClock_ok (r : RawRequest) (s : State) :
    serveReadClock r .readClock s = some (addReply true r .ok (leBytes 6 s.time.toNat) s) :=
  rfl

/-- The clock has moved on by the counts that pass before the request is taken. -/
theorem handed_time (dt : Nat) (s : State) (rest : List RawRequest) :
    (handed dt s rest).time = s.time + BitVec.ofNat 48 dt :=
  (handed_fields dt s rest).1

/-! ## The commands, and the statement -/

section
variable {dt : Nat} {s : State} {r : RawRequest} {rest : List RawRequest}

theorem exec_queryIdentity_of_serves (h : Serves s r rest .queryIdentity) :
    exec (.queryIdentity dt) s = .next (addReply true r .ok identityBody (handed dt s rest)) :=
  congrArg Host.Outcome.next (onRequest_serves h (serveQueryIdentity_ok r _))

theorem exec_readClock_of_serves (h : Serves s r rest .readClock) :
    exec (.readClock dt) s =
      .next (addReply true r .ok (leBytes 6 (handed dt s rest).time.toNat) (handed dt s rest)) :=
  congrArg Host.Outcome.next (onRequest_serves h (serveReadClock_ok r _))

end

/-- Settles O13: each request's one reply, with the identity's bytes written out and the clock read after the counts
that pass with the command. -/
theorem identityAndClockAreReported : Obligations.IdentityAndClockAreReported := by
  unfold Obligations.IdentityAndClockAreReported
  intro dt s r rest
  refine ⟨fun h => ?identity, fun h => ?clock⟩
  case identity => rw [exec_queryIdentity_of_serves h, identityBody_eq]
  case clock => rw [exec_readClock_of_serves h, handed_time]

end Sys2Proof.Machine

/-!
PROOF. The notice unit (R178, R179, R181, R182, R184): the order of the pending-notice list and the place of an entry in
it, what a posting and a change of level do to the list, and the statement on postings and the three requests.
-/

namespace Sys2Proof.Machine

/-! ## The order of the list (R179) -/

/-- The list stands in its order: every entry goes before those behind it. -/
def NoticeUnit.InOrder (n : NoticeUnit) (l : List NoticeEntry) : Prop := l.Pairwise (fun a b => n.before a b = true)

section
variable {n m : NoticeUnit} {a b c e : NoticeEntry} {l : List NoticeEntry}

theorem NoticeUnit.before_iff :
    n.before a b = true ↔
      n.level b.source < n.level a.source ∨ n.level a.source = n.level b.source ∧ a.order < b.order := by
  simp [NoticeUnit.before]

theorem NoticeUnit.before_trans (hab : n.before a b = true) (hbc : n.before b c = true) : n.before a c = true := by
  rw [before_iff] at *
  omega

theorem NoticeUnit.before_of_not_before (hne : a.order ≠ b.order) (h : ¬ n.before a b = true) :
    n.before b a = true := by
  rw [before_iff] at *
  omega

/-- Only the levels of the two sources matter to which entry goes first. -/
theorem NoticeUnit.before_congr (ha : m.level a.source = n.level a.source) (hb : m.level b.source = n.level b.source) :
    m.before a b = n.before a b := by
  simp only [NoticeUnit.before, ha, hb]

theorem NoticeUnit.place_perm (n : NoticeUnit) (e : NoticeEntry) (l : List NoticeEntry) :
    (n.place e l).Perm (e :: l) := by
  induction l with
  | nil => exact .refl _
  | cons x xs ih =>
    rw [place]
    split
    · exact (ih.cons x).trans (.swap e x xs)
    · exact .refl _

/-- An entry whose posting order no other has takes its place without disturbing the order. -/
theorem NoticeUnit.InOrder.place (hl : n.InOrder l) (hne : ∀ x ∈ l, x.order ≠ e.order) :
    n.InOrder (n.place e l) := by
  induction l with
  | nil => exact List.pairwise_singleton _ e
  | cons x xs ih =>
    obtain ⟨hx, hxs⟩ := List.pairwise_cons.mp hl
    obtain ⟨hxe, hxse⟩ := List.forall_mem_cons.mp hne
    rw [NoticeUnit.place]
    split
    case isTrue hbefore =>
      refine List.pairwise_cons.mpr ⟨fun y hy => ?_, ih hxs hxse⟩
      obtain rfl | hy := List.mem_cons.mp ((n.place_perm e xs).mem_iff.mp hy)
      · exact hbefore
      · exact hx y hy
    case isFalse hbefore =>
      have hex : n.before e x = true := before_of_not_before hxe hbefore
      exact List.pairwise_cons.mpr
        ⟨List.forall_mem_cons.mpr ⟨hex, fun y hy => before_trans hex (hx y hy)⟩, hl⟩

theorem NoticeUnit.foldl_place_perm (n : NoticeUnit) (es l : List NoticeEntry) :
    (es.foldl (fun l e => n.place e l) l).Perm (es ++ l) := by
  induction es generalizing l with
  | nil => exact .refl _
  | cons e es ih => exact (ih _).trans (((n.place_perm e l).append_left es).trans List.perm_middle)

theorem NoticeUnit.InOrder.foldl_place {es : List NoticeEntry} (hl : n.InOrder l)
    (hnd : ((es ++ l).map (fun e => e.order)).Nodup) : n.InOrder (es.foldl (fun l e => n.place e l) l) := by
  induction es generalizing l with
  | nil => exact hl
  | cons e es ih =>
    have hhead : ∀ x ∈ l, x.order ≠ e.order := fun x hx heq =>
      (List.nodup_cons.mp hnd).1 (List.mem_map.mpr ⟨x, List.mem_append_right es hx, heq⟩)
    have hperm : (es ++ n.place e l).Perm (e :: (es ++ l)) :=
      ((n.place_perm e l).append_left es).trans List.perm_middle
    exact ih (hl.place hhead) ((hperm.map _).nodup_iff.mpr hnd)

end

/-! ## A posting (R179) -/

section
variable {n : NoticeUnit} {src : Source} (occ : Occurrence)

theorem NoticeUnit.post_of_off (off : n.level src = 0) : n.post src occ = n := if_pos off

theorem NoticeUnit.post_of_pending (on : n.level src ≠ 0) (pending : ∃ e ∈ n.entries, e.source = src) :
    n.post src occ =
      { n with entries := n.entries.map (fun e => if e.source = src then { e with again := true } else e) } := by
  have found : n.entries.any (fun e => e.source = src) = true := by simpa using pending
  rw [post, if_neg on, if_pos found]

theorem NoticeUnit.post_of_new (on : n.level src ≠ 0) (new : ∀ e ∈ n.entries, e.source ≠ src) :
    n.post src occ =
      { n with
        entries := n.place { source := src, occurrence := occ, again := false, order := n.nextOrder } n.entries,
        nextOrder := n.nextOrder + 1 } := by
  have missing : ¬ n.entries.any (fun e => e.source = src) = true := by simpa using new
  rw [post, if_neg on, if_neg missing]

end

/-! ## A change of level (R181) -/

/-- The unit with a source's new level, the source's entry taken out of the list. -/
def NoticeUnit.takeOut (n : NoticeUnit) (src : Source) (level : Nat) : NoticeUnit :=
  { n with levels := n.levels.set src level, entries := n.entries.filter (fun e => e.source ≠ src) }

/-- The list of `takeOut` with the source's entry put at the place of its new level. -/
def NoticeUnit.putBack (n : NoticeUnit) (src : Source) (level : Nat) : List NoticeEntry :=
  (n.entries.filter (fun e => e.source = src)).foldl (fun l e => (n.takeOut src level).place e l)
    (n.takeOut src level).entries

section
variable {n : NoticeUnit} {src : Source} {level : Nat}

theorem NoticeUnit.relevel_of_same (same : n.level src = level) : n.relevel src level = n := if_pos same

theorem NoticeUnit.relevel_zero (differs : n.level src ≠ 0) : n.relevel src 0 = n.takeOut src 0 := by
  rw [relevel, if_neg differs, takeOut]
  rfl

theorem NoticeUnit.relevel_of_on (differs : n.level src ≠ level) (on : level ≠ 0) :
    n.relevel src level = { n.takeOut src level with entries := n.putBack src level } := by
  rw [relevel, if_neg differs]
  exact if_neg on

theorem NoticeUnit.takeOut_level_same : (n.takeOut src level).level src = level := by
  simp [NoticeUnit.level, takeOut]

theorem NoticeUnit.takeOut_level_other {k : Source} (h : k ≠ src) : (n.takeOut src level).level k = n.level k :=
  Vector.getElem_set_ne src.isLt k.isLt (fun eq => h (Fin.ext eq.symm))

theorem NoticeUnit.split_perm (n : NoticeUnit) (src : Source) (level : Nat) :
    (n.entries.filter (fun e => e.source = src) ++ (n.takeOut src level).entries).Perm n.entries := by
  simpa [takeOut] using List.filter_append_perm (fun e => decide (e.source = src)) n.entries

theorem NoticeUnit.putBack_perm (n : NoticeUnit) (src : Source) (level : Nat) :
    (n.putBack src level).Perm n.entries :=
  (foldl_place_perm _ _ _).trans (n.split_perm src level)

/-- The entries of the other sources keep their levels, and with them their order. -/
theorem NoticeUnit.InOrder.takeOut (h : n.InOrder n.entries) :
    (n.takeOut src level).InOrder (n.takeOut src level).entries := by
  refine (h.filter _).imp_of_mem fun {a b} ha hb hab => ?_
  have other : ∀ e ∈ n.entries.filter (fun e => e.source ≠ src), e.source ≠ src := fun e he => by
    simpa using (List.mem_filter.mp he).2
  rwa [before_congr (takeOut_level_other (other a ha)) (takeOut_level_other (other b hb))]

theorem NoticeUnit.InOrder.putBack (h : n.InOrder n.entries) (hnd : (n.entries.map (fun e => e.order)).Nodup) :
    (n.takeOut src level).InOrder (n.putBack src level) :=
  h.takeOut.foldl_place (((n.split_perm src level).map _).nodup_iff.mpr hnd)

end

/-! ## What the unit does with a request (R181, R182, R184) -/

theorem sourceOf_val (src : Source) : sourceOf src.val = some src := dif_pos src.isLt

theorem sourceOf_big {k : Nat} (h : 30 ≤ k) : sourceOf k = none := dif_neg (Nat.not_lt.mpr h)

section
variable (r : RawRequest) (s : State)

theorem serveSetNoticeLevel_badField {src level : Nat} (h : 30 ≤ src ∨ 8 ≤ level) :
    serveSetNoticeLevel r (.setNoticeLevel src level) s = some (addReply true r .badField [] s) := by
  by_cases big : 30 ≤ src
  · simp only [serveSetNoticeLevel, sourceOf_big big, answer]
  · have known : sourceOf src = some ⟨src, Nat.not_le.mp big⟩ := sourceOf_val ⟨src, Nat.not_le.mp big⟩
    simp only [serveSetNoticeLevel, known, if_pos (show 7 < level from h.resolve_left big), answer]

theorem serveSetNoticeLevel_ok (src : Source) {level : Nat} (h : level ≤ 7) :
    serveSetNoticeLevel r (.setNoticeLevel src.val level) s =
      some (addReply true r .ok [] (s.setNotices (s.notices.relevel src level))) := by
  simp only [serveSetNoticeLevel, sourceOf_val, if_neg (Nat.not_lt.mpr h), answer]

theorem serveSetNoticeThreshold_badField {level : Nat} (h : level = 0 ∨ 8 ≤ level) :
    serveSetNoticeThreshold r (.setNoticeThreshold level) s = some (addReply true r .badField [] s) :=
  congrArg some (if_pos h)

theorem serveSetNoticeThreshold_ok {level : Nat} (low : 1 ≤ level) (high : level ≤ 7) :
    serveSetNoticeThreshold r (.setNoticeThreshold level) s =
      some (addReply true r .ok [] (s.setNotices { s.notices with threshold := level })) :=
  congrArg some (if_neg (by omega))

theorem serveClearNotices_badField {sources : List Nat}
    (h : sources = [] ∨ 30 < sources.length ∨ ∃ c ∈ sources, 30 ≤ c) :
    serveClearNotices r (.clearNotices sources) s = some (addReply true r .badField [] s) := by
  have bad : sources.length = 0 ∨ 30 < sources.length ∨ sources.any (fun c => 29 < c) = true := by
    simpa [Nat.lt_iff_add_one_le] using h
  exact congrArg some (if_pos bad)

theorem serveClearNotices_ok {sources : List Nat} (named : sources ≠ []) (few : sources.length ≤ 30)
    (known : ∀ c ∈ sources, c < 30) :
    serveClearNotices r (.clearNotices sources) s =
      some (addReply true r .ok [] (s.setNotices { s.notices with
        entries := s.notices.entries.filter (fun e => decide (e.source.val ∉ sources)) })) := by
  have good : ¬ (sources.length = 0 ∨ 30 < sources.length ∨ sources.any (fun c => 29 < c) = true) := by
    simp only [List.length_eq_zero_iff, List.any_eq_true, decide_eq_true_eq]
    rintro (none | many | ⟨c, hc, big⟩)
    · exact named none
    · omega
    · exact absurd (known c hc) (by omega)
  simp only [serveClearNotices, if_neg good, answer, List.contains_eq_mem, decide_not]

end

/-! ## The commands, and the statement -/

section
variable {dt : Nat} {s x : State} {r : RawRequest} {rest : List RawRequest} {q : Request} (h : Serves s r rest q)
include h

theorem exec_setNoticeLevel_of_serves (served : serveSetNoticeLevel r q (handed dt s rest) = some x) :
    exec (.setNoticeLevel dt) s = .next x :=
  congrArg Host.Outcome.next (onRequest_serves h served)

theorem exec_setNoticeThreshold_of_serves (served : serveSetNoticeThreshold r q (handed dt s rest) = some x) :
    exec (.setNoticeThreshold dt) s = .next x :=
  congrArg Host.Outcome.next (onRequest_serves h served)

theorem exec_clearNotices_of_serves (served : serveClearNotices r q (handed dt s rest) = some x) :
    exec (.clearNotices dt) s = .next x :=
  congrArg Host.Outcome.next (onRequest_serves h served)

end

/-- SET_NOTICE_LEVEL with fields in range is `relevel` and its reply. -/
theorem exec_setNoticeLevel_relevels {dt : Nat} {s : State} {r : RawRequest} {rest : List RawRequest} {src : Source}
    {level : Nat} (h : Serves s r rest (.setNoticeLevel src.val level)) (inRange : level ≤ 7) :
    exec (.setNoticeLevel dt) s =
      .next (addReply true r .ok [] ((handed dt s rest).setNotices (s.notices.relevel src level))) :=
  exec_setNoticeLevel_of_serves h (serveSetNoticeLevel_ok r (handed dt s rest) src inRange)

/-- Settles O53: a posting by the level and the list, and each request by its checks. A new entry, and an entry at a new
level, goes to its place among entries in order, which leaves them in order. -/
theorem noticesArePostedAndOrdered : Obligations.NoticesArePostedAndOrdered := by
  unfold Obligations.NoticesArePostedAndOrdered
  refine ⟨fun n src occ => ⟨n.post_of_off occ, n.post_of_pending occ, fun on new => ?posted⟩, fun dt s r rest =>
    ⟨fun src level h bad => ?levelRefused,
      fun src level h inRange => ⟨fun same => ?levelSame, fun differs => ?levelSet⟩,
      fun level h => ⟨fun bad => ?thresholdRefused, fun low high => ?thresholdSet⟩,
      fun sources h => ⟨fun bad => ?clearRefused, fun named few known => ?cleared⟩⟩⟩
  case posted =>
    exact ⟨_, n.post_of_new occ on new, n.place_perm _ _,
      fun inOrder earlier => NoticeUnit.InOrder.place inOrder fun e he => (earlier e he).ne⟩
  case levelRefused => exact exec_setNoticeLevel_of_serves h (serveSetNoticeLevel_badField r _ bad)
  case levelSame =>
    rw [exec_setNoticeLevel_relevels h inRange, NoticeUnit.relevel_of_same same]
    rfl
  case levelSet =>
    refine ⟨_, exec_setNoticeLevel_relevels h inRange, ?_⟩
    by_cases off : level = 0
    · subst off
      rw [NoticeUnit.relevel_zero differs]
      exact ⟨rfl, rfl, NoticeUnit.takeOut_level_same, fun k => NoticeUnit.takeOut_level_other, fun _ => rfl,
        fun on => absurd rfl on⟩
    · rw [NoticeUnit.relevel_of_on differs off]
      exact ⟨rfl, rfl, NoticeUnit.takeOut_level_same, fun k => NoticeUnit.takeOut_level_other,
        fun zero => absurd zero off,
        fun _ => ⟨s.notices.putBack_perm src level, fun inOrder => NoticeUnit.InOrder.putBack inOrder⟩⟩
  case thresholdRefused => exact exec_setNoticeThreshold_of_serves h (serveSetNoticeThreshold_badField r _ bad)
  case thresholdSet =>
    exact exec_setNoticeThreshold_of_serves h (serveSetNoticeThreshold_ok r (handed dt s rest) low high)
  case clearRefused => exact exec_clearNotices_of_serves h (serveClearNotices_badField r _ bad)
  case cleared => exact exec_clearNotices_of_serves h (serveClearNotices_ok r (handed dt s rest) named few known)

end Sys2Proof.Machine

/-!
PROOF. What one command can do, said once: the ways a served request ends (`Served`), the events of the part (`Event`),
and the outcome of any command in terms of the two (`exec_stepped`).
-/

namespace Sys2Proof.Machine

/-! ## The ways a served request ends -/

/-- The request q of the command unit, with the raw request r, is given to its block in the state s and leaves the
state that comes last. Each way carries the checks it has passed. -/
inductive Served (order : List Track) (r : RawRequest) : Request → State → State → Prop
  | refused {q s} (st : Status) (body : List Byte) : st ≠ .ok →
      ((∀ n f i, q ≠ .loadMap n f i) → body = []) → Served order r q s (addReply true r st body s)
  | told {q s} (body : List Byte) : Served order r q s (addReply true r .ok body s)
  | setMarker {s} (unit : Nat) (items : List (Nat × Int)) (u : MarkerId) (x : MarkerSettings) :
      (s.marker u).settings.setFields items = some x →
      Served order r (.setMarker unit items) s (follow (answer r .ok (setMarker order u x s)))
  | markerStatus {s} (unit : Nat) (u : MarkerId) :
      Served order r (.markerStatus unit) s
        (answerWith r (markerStatusBody (s.marker u)) (s.putMarker u { s.marker u with early := false }))
  | stage {s} (n : Nat) (items : List (Nat × Int)) (t : Track) (x : ParamSet) :
      (s.track t).staged.setFields items = some x →
      Served order r (.stageTrack n items) s (answer r .ok (s.putTrack t { s.track t with staged := x }))
  | commit {s} (n : Nat) (t : Track) :
      ((s.track t).staged.structurallyDiffers (s.track t).active = true → (s.track t).state.bound = false) →
      (s.track t).staged.limitsHold = true →
      Served order r (.commitTrack n) s (follow (answer r .ok (commit t s)))
  | updateOffset {s} (n : Nat) (t : Track) : (s.track t).active.offsetMode = .onRequest →
      Served order r (.updateOffset n) s (answer r .ok (s.putTrack t { s.track t with updateRequest := true }))
  | arm {s} (n : Nat) (count : Nat) (t : Track) : (s.track t).state.bound = false →
      Served order r (.armTrack n count) s (answer r .ok (armTrack t count s))
  | stop {s} (n : Nat) (t : Track) : Served order r (.stopTrack n) s (follow (answer r .ok (stopTrack t s)))
  | abort {s} (n : Nat) (t : Track) : Served order r (.abortTrack n) s (follow (answer r .ok (abortTrack t s)))
  | reset {s} (n : Nat) (t : Track) : Served order r (.resetTrack n) s (follow (answer r .ok (resetTrack t s)))
  | load {s} (n first : Nat) (items : List LoadItem) (t : Track) : (s.track t).state.bound = false →
      Served order r (.loadMap n first items) s
        (follow (answerLoad r (applyItems t first items s).1 (applyItems t first items s).2.1
          (applyItems t first items s).2.2))
  | keep {s} (n seq : Nat) (t : Track) (x : SweepRecord) : findRecord s t seq = some x → x.kept = false →
      keptCount s t < 32 → Served order r (.keepSweep n seq) s (answer r .ok (setKept t true x s))
  | release {s} (n seq : Nat) (t : Track) (x : SweepRecord) : findRecord s t seq = some x → x.kept = true →
      Served order r (.releaseSweep n seq) s (answer r .ok (setKept t false x s))
  | drop {s} (n seq : Nat) (t : Track) (x : SweepRecord) : findRecord s t seq = some x → x.incomplete = false →
      Served order r (.dropSweep n seq) s (follow (answer r .ok (retire t x s)))
  | standby {s} : s.mem.state = .running → standbyAllowed s = true →
      Served order r .standby s (settle (setMemState (.entering .request) (holdInHand r s)))
  | standbyAgain {s} : Served order r .standby s (holdInHand r s)
  | wake {s} : Served order r .wake s (beginWaking .wake (holdInHand r s))
  | wakeAgain {s} : Served order r .wake s (holdInHand r s)
  | wakeHeld {s} : Served order r .wake s ((holdInHand r s).setMem { s.mem with heldWake := true })
  | autoStandby {s} (enable : Bool) (delay : Option Nat) : (∀ d, delay = some d → 1 ≤ d ∧ d ≤ 255) →
      Served order r (.setAutoStandby enable delay) s
        (followAuto (answer r .ok (s.setMem { s.mem with
          autoEnable := enable, autoDelay := delay.getD s.mem.autoDelay, autoTimer := .stopped })))
  | check {q s} (c : CheckUnit) : Served order r q s (answer r .ok (s.setCheck c))
  | readSweep {s} (n seq first count o : Nat) (t : Track) (b : ByteOrder) (x : Read) :
      admitSweep s r.tag t seq first count b = .ok x →
      Served order r (.readSweep n seq first count o) s (follow (answer r .ok (addRead x s)))
  | readMean {s} (n o : Nat) (t : Track) (b : ByteOrder) (x : Read) : admitMean s r.tag t b = .ok x →
      Served order r (.readMean n o) s (follow (answer r .ok (addRead x s)))
  | abortRead {s} (tag : Nat) :
      Served order r (.abortRead tag) s (follow (answer r .ok (endReads (fun x => x.tag = tag) .aborted s)))
  | averagerOn {s} (n base k : Nat) (coasted : Option Bool) (t : Track) :
      ¬ (k < 2 ∨ 1024 < k ∨ 16383 < base ∨ Config.averagerWords < base + 2 * (s.track t).active.length) →
      regionTaken s t base (s.track t).active.length = false →
      Served order r (.setAverager n true (some (base, k)) coasted) s
        (follow (answer r .ok
          (freshStart t { base := base, length := (s.track t).active.length } k (coasted.getD false) s)))
  | averagerOff {s} (n : Nat) (region : Option (Nat × Nat)) (coasted : Option Bool) (t : Track) :
      Served order r (.setAverager n false region coasted) s
        (follow (answer r .ok (disableAverager t .request s)))
  | restartAverage {s} (n : Nat) (t : Track) :
      Served order r (.restartAverage n) s (answer r .ok (restartBlock t s))
  | noticeLevel {s} (n level : Nat) (src : Source) : level ≤ 7 →
      Served order r (.setNoticeLevel n level) s (answer r .ok (s.setNotices (s.notices.relevel src level)))
  | threshold {s} (level : Nat) : 1 ≤ level → level ≤ 7 →
      Served order r (.setNoticeThreshold level) s (answer r .ok (s.setNotices { s.notices with threshold := level }))
  | clearNotices {s} (sources : List Nat) :
      Served order r (.clearNotices sources) s
        (answer r .ok (s.setNotices { s.notices with
          entries := s.notices.entries.filter (fun e => !sources.contains e.source.val) }))
  | resetPart {s} : Served order r .resetPart s (follow (answer r .ok (resetPart s)))

/-! ### Each handler ends in one of these ways -/

section Handlers
variable {order : List Track} {r : RawRequest} {q : Request} {s x : State}

/-- A refusal of a request other than LOAD_MAP: the status alone. -/
theorem Served.answered (st : Status) (h : st ≠ .ok) : Served order r q s (answer r st s) :=
  .refused st [] h (fun _ => rfl)

theorem served_setMarker (h : serveSetMarker order r q s = some x) : Served order r q s x := by
  cases q <;> simp only [serveSetMarker, Option.some.injEq, reduceCtorEq] at h
  subst h
  split
  · exact .answered .badField (by decide)
  · split
    · exact .answered .badField (by decide)
    · next hx => exact .setMarker _ _ _ _ hx

theorem served_markerStatus (h : serveMarkerStatus r q s = some x) : Served order r q s x := by
  cases q <;> simp only [serveMarkerStatus, Option.some.injEq, reduceCtorEq] at h
  subst h
  split
  · exact .answered .badField (by decide)
  · exact .markerStatus _ _

theorem served_stageTrack (h : serveStageTrack r q s = some x) : Served order r q s x := by
  cases q <;> simp only [serveStageTrack, Option.some.injEq, reduceCtorEq] at h
  subst h
  split
  · exact .answered .badField (by decide)
  · split
    · exact .answered .badField (by decide)
    · next hx => exact .stage _ _ _ _ hx

theorem served_commitTrack (h : serveCommitTrack r q s = some x) : Served order r q s x := by
  cases q <;> simp only [serveCommitTrack, Option.some.injEq, reduceCtorEq] at h
  subst h
  split
  · exact .answered .badField (by decide)
  · split
    · exact .answered .busy (by decide)
    · next hb =>
      split
      · next hl => exact .commit _ _ (by simpa using hb) hl
      · exact .answered .badField (by decide)

theorem served_updateOffset (h : serveUpdateOffset r q s = some x) : Served order r q s x := by
  cases q <;> simp only [serveUpdateOffset, Option.some.injEq, reduceCtorEq] at h
  subst h
  split
  · exact .answered .badField (by decide)
  · split
    · next ho => exact .updateOffset _ _ ho
    · exact .answered .busy (by decide)

theorem served_armTrack (h : serveArmTrack r q s = some x) : Served order r q s x := by
  cases q <;> simp only [serveArmTrack, Option.some.injEq, reduceCtorEq] at h
  subst h
  split
  · exact .answered .badField (by decide)
  · split
    · exact .answered .busy (by decide)
    · next hb => exact .arm _ _ _ (by simpa using hb)

theorem served_stopTrack (h : serveStopTrack r q s = some x) : Served order r q s x := by
  cases q <;> simp only [serveStopTrack, Option.some.injEq, reduceCtorEq] at h
  subst h
  split
  · exact .answered .badField (by decide)
  · exact .stop _ _

theorem served_abortTrack (h : serveAbortTrack r q s = some x) : Served order r q s x := by
  cases q <;> simp only [serveAbortTrack, Option.some.injEq, reduceCtorEq] at h
  subst h
  split
  · exact .answered .badField (by decide)
  · exact .abort _ _

theorem served_resetTrack (h : serveResetTrack r q s = some x) : Served order r q s x := by
  cases q <;> simp only [serveResetTrack, Option.some.injEq, reduceCtorEq] at h
  subst h
  split
  · exact .answered .badField (by decide)
  · exact .reset _ _

theorem served_trackStatus (h : serveTrackStatus r q s = some x) : Served order r q s x := by
  cases q <;> simp only [serveTrackStatus, Option.some.injEq, reduceCtorEq] at h
  subst h
  split
  · exact .answered .badField (by decide)
  · exact .told _

theorem served_loadMap (h : serveLoadMap r q s = some x) : Served order r q s x := by
  cases q <;> simp only [serveLoadMap, Option.some.injEq, reduceCtorEq] at h
  subst h
  split
  · exact .refused _ _ (by decide) (fun k => absurd rfl (k _ _ _))
  · split
    · exact .refused _ _ (by decide) (fun k => absurd rfl (k _ _ _))
    · split
      · exact .refused _ _ (by decide) (fun k => absurd rfl (k _ _ _))
      · next hb => exact .load _ _ _ _ (by simpa using hb)

theorem served_checkPage (h : serveCheckPage r q s = some x) : Served order r q s x := by
  cases q <;> simp only [serveCheckPage, Option.some.injEq, reduceCtorEq] at h
  subst h
  split
  · exact .answered .badField (by decide)
  · split
    · exact .answered .badField (by decide)
    · exact .told _

theorem served_pageOwner (h : servePageOwner r q s = some x) : Served order r q s x := by
  cases q <;> simp only [servePageOwner, Option.some.injEq, reduceCtorEq] at h
  subst h
  exact .told _

theorem served_keepSweep (h : serveKeepSweep r q s = some x) : Served order r q s x := by
  cases q <;> simp only [serveKeepSweep, Option.some.injEq, reduceCtorEq] at h
  subst h
  split
  · exact .answered .badField (by decide)
  · split
    · exact .answered .noSuch (by decide)
    · next hf =>
      split
      · exact .told _
      · next hk =>
        split
        · exact .answered .full (by decide)
        · next hc => exact .keep _ _ _ _ hf (by simpa using hk) (by simpa [Config.maxKept] using hc)

theorem served_releaseSweep (h : serveReleaseSweep r q s = some x) : Served order r q s x := by
  cases q <;> simp only [serveReleaseSweep, Option.some.injEq, reduceCtorEq] at h
  subst h
  split
  · exact .answered .badField (by decide)
  · split
    · exact .answered .noSuch (by decide)
    · next hf =>
      split
      · next hk => exact .release _ _ _ _ hf hk
      · exact .told _

theorem served_dropSweep (h : serveDropSweep r q s = some x) : Served order r q s x := by
  cases q <;> simp only [serveDropSweep, Option.some.injEq, reduceCtorEq] at h
  subst h
  split
  · exact .answered .badField (by decide)
  · split
    · exact .answered .noSuch (by decide)
    · next hf =>
      split
      · exact .answered .busy (by decide)
      · next hk => exact .drop _ _ _ _ hf (by simpa using hk)

theorem served_listSweeps (h : serveListSweeps r q s = some x) : Served order r q s x := by
  cases q <;> simp only [serveListSweeps, Option.some.injEq, reduceCtorEq] at h
  subst h
  split
  · exact .answered .badField (by decide)
  · split
    · exact .answered .badField (by decide)
    · exact .told _

theorem served_sweepInfo (h : serveSweepInfo r q s = some x) : Served order r q s x := by
  cases q <;> simp only [serveSweepInfo, Option.some.injEq, reduceCtorEq] at h
  subst h
  split
  · exact .answered .badField (by decide)
  · split
    · exact .answered .noSuch (by decide)
    · exact .told _

theorem served_standby (h : serveStandby r q s = some x) : Served order r q s x := by
  cases q <;> simp only [serveStandby, Option.some.injEq, reduceCtorEq] at h
  subst h
  split
  · next hm =>
    split
    · next ha => exact .standby hm ha
    · exact .answered .busy (by decide)
  · split
    · exact .standbyAgain
    · exact .answered .busy (by decide)
  · exact .told _
  · exact .answered .busy (by decide)

theorem served_wake (h : serveWake r q s = some x) : Served order r q s x := by
  cases q <;> simp only [serveWake, Option.some.injEq, reduceCtorEq] at h
  subst h
  split
  · exact .told _
  · exact .wake
  · exact .wakeAgain
  · exact .wakeHeld

theorem served_setAutoStandby (h : serveSetAutoStandby r q s = some x) : Served order r q s x := by
  cases q <;> simp only [serveSetAutoStandby, Option.some.injEq, reduceCtorEq] at h
  subst h
  split
  · exact .answered .badField (by decide)
  · next hd =>
    refine .autoStandby _ _ (fun d e => ?_)
    subst e
    simp at hd
    omega

theorem served_memoryStatus (h : serveMemoryStatus r q s = some x) : Served order r q s x := by
  cases q <;> simp only [serveMemoryStatus, Option.some.injEq, reduceCtorEq] at h
  subst h
  exact .told _

theorem served_setChecking (h : serveSetChecking r q s = some x) : Served order r q s x := by
  cases q <;> simp only [serveSetChecking, Option.some.injEq, reduceCtorEq] at h
  subst h
  split
  · exact .answered .badField (by decide)
  · exact .check _

theorem served_readFault (h : serveReadFault r q s = some x) : Served order r q s x := by
  cases q <;> simp only [serveReadFault, Option.some.injEq, reduceCtorEq] at h
  subst h
  exact .told _

theorem served_clearFault (h : serveClearFault r q s = some x) : Served order r q s x := by
  cases q <;> simp only [serveClearFault, Option.some.injEq, reduceCtorEq] at h
  subst h
  exact .check _

theorem served_injectFault (h : serveInjectFault r q s = some x) : Served order r q s x := by
  cases q <;> simp only [serveInjectFault, Option.some.injEq, reduceCtorEq] at h
  subst h
  split
  · split
    · exact .answered .busy (by decide)
    · exact .check _
  · exact .answered .badField (by decide)
  · exact .answered .badField (by decide)

theorem admitSweep_error {tag : Nat} {t : Track} {seq first count : Nat} {o : ByteOrder} {st : Status}
    (h : admitSweep s tag t seq first count o = .error st) : st ≠ .ok := by
  unfold admitSweep at h
  repeat' split at h
  all_goals cases h <;> decide

theorem admitMean_error {tag : Nat} {t : Track} {o : ByteOrder} {st : Status}
    (h : admitMean s tag t o = .error st) : st ≠ .ok := by
  unfold admitMean at h
  repeat' split at h
  all_goals cases h <;> decide

theorem served_readSweep (h : serveReadSweep r q s = some x) : Served order r q s x := by
  cases q <;> simp only [serveReadSweep, Option.some.injEq, reduceCtorEq] at h
  subst h
  split
  · split
    · exact .answered .badField (by decide)
    · split
      · next he => exact .answered _ (admitSweep_error he)
      · next hx => exact .readSweep _ _ _ _ _ _ _ _ hx
  · exact .answered .badField (by decide)
  · exact .answered .badField (by decide)

theorem served_readMean (h : serveReadMean r q s = some x) : Served order r q s x := by
  cases q <;> simp only [serveReadMean, Option.some.injEq, reduceCtorEq] at h
  subst h
  split
  · split
    · next he => exact .answered _ (admitMean_error he)
    · next hx => exact .readMean _ _ _ _ _ hx
  · exact .answered .badField (by decide)
  · exact .answered .badField (by decide)

theorem served_abortRead (h : serveAbortRead r q s = some x) : Served order r q s x := by
  cases q <;> simp only [serveAbortRead, Option.some.injEq, reduceCtorEq] at h
  subst h
  split
  · exact .abortRead _
  · split
    · exact .told _
    · exact .answered .noSuch (by decide)

theorem served_setAveragerEnable (h : serveSetAveragerEnable r q s = some x) : Served order r q s x := by
  unfold serveSetAveragerEnable at h
  split at h
  · simp only [Option.some.injEq] at h
    subst h
    unfold enableAverager
    split
    · simp only
      split
      · exact .answered .badField (by decide)
      · next hg =>
        split
        · exact .answered .conflict (by decide)
        · next ht => exact .averagerOn _ _ _ _ _ hg (by simpa using ht)
    · exact .answered .badField (by decide)
    · exact .answered .badField (by decide)
  · cases h

theorem served_setAveragerDisable (h : serveSetAveragerDisable r q s = some x) : Served order r q s x := by
  unfold serveSetAveragerDisable at h
  split at h
  · simp only [Option.some.injEq] at h
    subst h
    split
    · exact .answered .badField (by decide)
    · exact .averagerOff _ _ _ _
  · cases h

theorem served_averagerStatus (h : serveAveragerStatus r q s = some x) : Served order r q s x := by
  cases q <;> simp only [serveAveragerStatus, Option.some.injEq, reduceCtorEq] at h
  subst h
  split
  · exact .answered .badField (by decide)
  · exact .told _

theorem served_restartAverage (h : serveRestartAverage r q s = some x) : Served order r q s x := by
  cases q <;> simp only [serveRestartAverage, Option.some.injEq, reduceCtorEq] at h
  subst h
  split
  · exact .answered .badField (by decide)
  · exact .restartAverage _ _

theorem served_setNoticeLevel (h : serveSetNoticeLevel r q s = some x) : Served order r q s x := by
  cases q <;> simp only [serveSetNoticeLevel, Option.some.injEq, reduceCtorEq] at h
  subst h
  split
  · exact .answered .badField (by decide)
  · split
    · exact .answered .badField (by decide)
    · exact .noticeLevel _ _ _ (by omega)

theorem served_setNoticeThreshold (h : serveSetNoticeThreshold r q s = some x) : Served order r q s x := by
  cases q <;> simp only [serveSetNoticeThreshold, Option.some.injEq, reduceCtorEq] at h
  subst h
  split
  · exact .answered .badField (by decide)
  · exact .threshold _ (by omega) (by omega)

theorem served_noticeStatus (h : serveNoticeStatus r q s = some x) : Served order r q s x := by
  cases q <;> simp only [serveNoticeStatus, Option.some.injEq, reduceCtorEq] at h
  subst h
  exact .told _

theorem served_clearNotices (h : serveClearNotices r q s = some x) : Served order r q s x := by
  cases q <;> simp only [serveClearNotices, Option.some.injEq, reduceCtorEq] at h
  subst h
  split
  · exact .answered .badField (by decide)
  · exact .clearNotices _

theorem served_queryIdentity (h : serveQueryIdentity r q s = some x) : Served order r q s x := by
  cases q <;> simp only [serveQueryIdentity, Option.some.injEq, reduceCtorEq] at h
  subst h
  exact .told _

theorem served_readClock (h : serveReadClock r q s = some x) : Served order r q s x := by
  cases q <;> simp only [serveReadClock, Option.some.injEq, reduceCtorEq] at h
  subst h
  exact .told _

theorem served_resetPart (h : serveResetPart r q s = some x) : Served order r q s x := by
  cases q <;> simp only [serveResetPart, Option.some.injEq, reduceCtorEq] at h
  subst h
  exact .resetPart

end Handlers

/-! ## The events of the part -/

/-- What an event that is no request does, in the state in which its counts have passed. -/
inductive Event (s : State) : State → Prop
  | receive (sym : Symbol) : Event s (receive sym s)
  | activeEdge (u : MarkerId) (e : Edge) : Event s (activeEdge u e s)
  | trailingEdge (u : MarkerId) (e : Edge) (order : List Track) : Event s (follow (trailingEdge u e order s))
  | levelEdge (u : MarkerId) (ended : Level) : Event s (follow (levelEdge u ended s))
  | closeWindow (u : MarkerId) (order : List Track) : Event s (follow (closeWindow u order s))
  | strobe (t : Track) : Event s (strobe t s)
  | takeWord (t : Track) (word : BitVec 16) (parity : Bool) : Event s (follow (takeWord t word parity s))
  | grant : Event s (settle (arbitrate s))
  | endClose (b : BankId) : Event s (settle (endClose b s))
  | endOpen (b : BankId) : Event s (settle (endOpen b s))
  | transfer : Event s (settle (completeTransfer s))
  | endRefresh : Event s (settle (endRefresh s))
  | refreshExpiry : Event s (settle (refreshExpiry s))
  | endWaking : Event s (settle (endWaking s))
  | delayExpiry : Event s (settle (delayExpiry s))
  | writeMean (t : Track) : Event s (writeMean t s)
  | buildMeanFrame : Event s (buildMeanFrame s)
  | sendNext : Event s (follow (sendNext s))

/-! ## The outcome of any command -/

/-- The next states of a command in the state s. -/
inductive Stepped (s : State) : State → Prop
  | reset (held : Bool) (owed : Option RestartCause) : Stepped s (resetValues held owed s)
  | idle : Stepped s s
  | pass (dt : Nat) : Stepped s (elapse dt s)
  | event {x : State} (dt : Nat) : Event (elapse dt s) x → Stepped s x
  | served {x : State} (dt : Nat) (order : List Track) (r : RawRequest) (rest : List RawRequest) (q : Request) :
      Serves s r rest q → Served order r q (handed dt s rest) x → Stepped s x
  | malformed (dt : Nat) (r : RawRequest) (rest : List RawRequest) (body : List Byte) :
      s.link.inHand = none → ownWaiting s < 4 → s.link.queue = r :: rest →
      Stepped s (addReply true r .malformed body (handed dt s rest))

theorem takeRequest_elapse {dt : Nat} {s s' : State} {r : RawRequest}
    (h : takeRequest (elapse dt s) = some (r, s')) :
    ∃ rest, s.link.inHand = none ∧ ownWaiting s < 4 ∧ s.link.queue = r :: rest ∧ s' = handed dt s rest := by
  unfold takeRequest at h
  split at h
  · cases h
  · next r' rest hq =>
    split at h
    · next hc =>
      simp only [Option.some.injEq, Prod.mk.injEq] at h
      obtain ⟨rfl, rfl⟩ := h
      simp only [Bool.and_eq_true, Option.isNone_iff_eq_none, decide_eq_true_eq] at hc
      exact ⟨rest, hc.1, hc.2, hq, rfl⟩
    · cases h

/-- A command that takes a request. -/
theorem onRequest_stepped {dt : Nat} {s : State} (order : List Track)
    {act : RawRequest → Request → State → Option State}
    (h : ∀ r q s x, act r q s = some x → Served order r q s x) : Stepped s (onRequest dt s act) := by
  unfold onRequest live
  split
  · exact .idle
  · next hh =>
    simp only
    split
    · exact .pass dt
    · next r s' ht =>
      obtain ⟨rest, hi, ho, hq, rfl⟩ := takeRequest_elapse ht
      split
      · exact .pass dt
      · next q hp =>
        cases ha : act r q (handed dt s rest) with
        | none => exact .pass dt
        | some x => exact .served dt order r rest q ⟨by simpa using hh, hi, ho, hq, hp⟩ (h _ _ _ _ ha)

/-- A command that is an event. -/
theorem live_stepped {dt : Nat} {s : State} {f : State → State} (h : ∀ x, Event x (f x)) :
    Stepped s (live dt s f) := by
  unfold live
  split
  · exact .idle
  · exact .event dt (h _)

theorem serveMalformed_stepped (dt : Nat) (s : State) : Stepped s (live dt s serveMalformed) := by
  unfold live
  split
  · exact .idle
  · unfold serveMalformed
    split
    · exact .pass dt
    · next r s' ht =>
      obtain ⟨rest, hi, ho, hq, rfl⟩ := takeRequest_elapse ht
      split
      · exact .malformed dt r rest _ hi ho hq
      · exact .pass dt

/-- Every command answers a next state, by one of these ways. -/
theorem exec_stepped (c : Instr) (s : State) : ∃ x, exec c s = .next x ∧ Stepped s x := by
  cases c with
  | powerOnReset => exact ⟨_, rfl, .reset _ _⟩
  | resetLineAsserted =>
    refine ⟨_, rfl, ?_⟩
    split
    · exact .idle
    · exact .reset _ _
  | resetLineReleased =>
    refine ⟨_, rfl, ?_⟩
    split
    · exact .reset _ _
    · exact .idle
  | inboundFrameEnd dt => exact ⟨_, rfl, live_stepped (fun x => .receive .stop)⟩
  | inboundFrameBroken dt sym => exact ⟨_, rfl, live_stepped (fun x => .receive sym)⟩
  | malformed dt => exact ⟨_, rfl, serveMalformed_stepped dt s⟩
  | setMarker dt order => exact ⟨_, rfl, onRequest_stepped order (fun _ _ _ _ => served_setMarker)⟩
  | markerStatus dt => exact ⟨_, rfl, onRequest_stepped [] (fun _ _ _ _ => served_markerStatus)⟩
  | stageTrack dt => exact ⟨_, rfl, onRequest_stepped [] (fun _ _ _ _ => served_stageTrack)⟩
  | commitTrack dt => exact ⟨_, rfl, onRequest_stepped [] (fun _ _ _ _ => served_commitTrack)⟩
  | updateOffset dt => exact ⟨_, rfl, onRequest_stepped [] (fun _ _ _ _ => served_updateOffset)⟩
  | armTrack dt => exact ⟨_, rfl, onRequest_stepped [] (fun _ _ _ _ => served_armTrack)⟩
  | stopTrack dt => exact ⟨_, rfl, onRequest_stepped [] (fun _ _ _ _ => served_stopTrack)⟩
  | abortTrack dt => exact ⟨_, rfl, onRequest_stepped [] (fun _ _ _ _ => served_abortTrack)⟩
  | resetTrack dt => exact ⟨_, rfl, onRequest_stepped [] (fun _ _ _ _ => served_resetTrack)⟩
  | trackStatus dt => exact ⟨_, rfl, onRequest_stepped [] (fun _ _ _ _ => served_trackStatus)⟩
  | loadMap dt => exact ⟨_, rfl, onRequest_stepped [] (fun _ _ _ _ => served_loadMap)⟩
  | checkPage dt => exact ⟨_, rfl, onRequest_stepped [] (fun _ _ _ _ => served_checkPage)⟩
  | pageOwner dt => exact ⟨_, rfl, onRequest_stepped [] (fun _ _ _ _ => served_pageOwner)⟩
  | keepSweep dt => exact ⟨_, rfl, onRequest_stepped [] (fun _ _ _ _ => served_keepSweep)⟩
  | releaseSweep dt => exact ⟨_, rfl, onRequest_stepped [] (fun _ _ _ _ => served_releaseSweep)⟩
  | dropSweep dt => exact ⟨_, rfl, onRequest_stepped [] (fun _ _ _ _ => served_dropSweep)⟩
  | listSweeps dt => exact ⟨_, rfl, onRequest_stepped [] (fun _ _ _ _ => served_listSweeps)⟩
  | sweepInfo dt => exact ⟨_, rfl, onRequest_stepped [] (fun _ _ _ _ => served_sweepInfo)⟩
  | standby dt => exact ⟨_, rfl, onRequest_stepped [] (fun _ _ _ _ => served_standby)⟩
  | wake dt => exact ⟨_, rfl, onRequest_stepped [] (fun _ _ _ _ => served_wake)⟩
  | setAutoStandby dt => exact ⟨_, rfl, onRequest_stepped [] (fun _ _ _ _ => served_setAutoStandby)⟩
  | memoryStatus dt => exact ⟨_, rfl, onRequest_stepped [] (fun _ _ _ _ => served_memoryStatus)⟩
  | setChecking dt => exact ⟨_, rfl, onRequest_stepped [] (fun _ _ _ _ => served_setChecking)⟩
  | readFault dt => exact ⟨_, rfl, onRequest_stepped [] (fun _ _ _ _ => served_readFault)⟩
  | clearFault dt => exact ⟨_, rfl, onRequest_stepped [] (fun _ _ _ _ => served_clearFault)⟩
  | injectFault dt => exact ⟨_, rfl, onRequest_stepped [] (fun _ _ _ _ => served_injectFault)⟩
  | readSweep dt => exact ⟨_, rfl, onRequest_stepped [] (fun _ _ _ _ => served_readSweep)⟩
  | readMean dt => exact ⟨_, rfl, onRequest_stepped [] (fun _ _ _ _ => served_readMean)⟩
  | abortRead dt => exact ⟨_, rfl, onRequest_stepped [] (fun _ _ _ _ => served_abortRead)⟩
  | setAveragerEnable dt => exact ⟨_, rfl, onRequest_stepped [] (fun _ _ _ _ => served_setAveragerEnable)⟩
  | setAveragerDisable dt => exact ⟨_, rfl, onRequest_stepped [] (fun _ _ _ _ => served_setAveragerDisable)⟩
  | averagerStatus dt => exact ⟨_, rfl, onRequest_stepped [] (fun _ _ _ _ => served_averagerStatus)⟩
  | restartAverage dt => exact ⟨_, rfl, onRequest_stepped [] (fun _ _ _ _ => served_restartAverage)⟩
  | setNoticeLevel dt => exact ⟨_, rfl, onRequest_stepped [] (fun _ _ _ _ => served_setNoticeLevel)⟩
  | setNoticeThreshold dt => exact ⟨_, rfl, onRequest_stepped [] (fun _ _ _ _ => served_setNoticeThreshold)⟩
  | noticeStatus dt => exact ⟨_, rfl, onRequest_stepped [] (fun _ _ _ _ => served_noticeStatus)⟩
  | clearNotices dt => exact ⟨_, rfl, onRequest_stepped [] (fun _ _ _ _ => served_clearNotices)⟩
  | queryIdentity dt => exact ⟨_, rfl, onRequest_stepped [] (fun _ _ _ _ => served_queryIdentity)⟩
  | readClock dt => exact ⟨_, rfl, onRequest_stepped [] (fun _ _ _ _ => served_readClock)⟩
  | resetPart dt => exact ⟨_, rfl, onRequest_stepped [] (fun _ _ _ _ => served_resetPart)⟩
  | pulseActiveEdge dt edge => exact ⟨_, rfl, live_stepped (fun x => .activeEdge _ _)⟩
  | pulseTrailingEdge dt edge order => exact ⟨_, rfl, live_stepped (fun x => .trailingEdge _ _ _)⟩
  | levelComplete dt unit ended => exact ⟨_, rfl, live_stepped (fun x => .levelEdge _ _)⟩
  | windowClose dt unit order => exact ⟨_, rfl, live_stepped (fun x => .closeWindow _ _)⟩
  | strobeInstant dt track => exact ⟨_, rfl, live_stepped (fun x => .strobe _)⟩
  | laneWord dt track word parity => exact ⟨_, rfl, live_stepped (fun x => .takeWord _ _ _)⟩
  | memoryGrant dt => exact ⟨_, rfl, live_stepped (fun x => .grant)⟩
  | closeStepComplete dt bank => exact ⟨_, rfl, live_stepped (fun x => .endClose _)⟩
  | openStepComplete dt bank => exact ⟨_, rfl, live_stepped (fun x => .endOpen _)⟩
  | transferComplete dt => exact ⟨_, rfl, live_stepped (fun x => .transfer)⟩
  | refreshComplete dt => exact ⟨_, rfl, live_stepped (fun x => .endRefresh)⟩
  | refreshIntervalExpiry dt => exact ⟨_, rfl, live_stepped (fun x => .refreshExpiry)⟩
  | wakingExitComplete dt => exact ⟨_, rfl, live_stepped (fun x => .endWaking)⟩
  | autoStandbyDelayExpiry dt => exact ⟨_, rfl, live_stepped (fun x => .delayExpiry)⟩
  | meanWritten dt track => exact ⟨_, rfl, live_stepped (fun x => .writeMean _)⟩
  | meanFrameBuilt dt => exact ⟨_, rfl, live_stepped (fun x => .buildMeanFrame)⟩
  | outboundPairFree dt => exact ⟨_, rfl, live_stepped (fun x => .sendNext)⟩
  | inboundStartSymbol dt => exact ⟨_, rfl, live_stepped (fun x => .receive .start)⟩
  | inboundDataByte dt b => exact ⟨_, rfl, live_stepped (fun x => .receive (.data b))⟩

/-- A property that any command's outcomes keep is kept by every step. -/
theorem kept_of_stepped {p : State → Prop} (pending : ∀ s l, p s → p (s.setPending l))
    (outcome : ∀ s x, p s → Stepped s x → p x) : Kept p := by
  intro s s' hs h
  unfold step at h
  split at h
  · injection h with h
    subst h
    unfold live
    split
    · exact hs
    · exact outcome s _ hs (.pass 1)
  · next c rest _ =>
    obtain ⟨x, hx, hst⟩ := exec_stepped c (s.setPending rest)
    rw [hx] at h
    injection h with h
    subst h
    exact outcome _ _ (pending s rest hs) hst

/-- The command of a served request, when its handler serves the kind. -/
theorem command_served {s x : State} {r : RawRequest} {rest : List RawRequest} {q : Request} {dt : Nat}
    {order : List Track} {act : RawRequest → Request → State → Option State} (h : Serves s r rest q)
    (serves : act r q (handed dt s rest) = some x)
    (served : act r q (handed dt s rest) = some x → Served order r q (handed dt s rest) x) :
    ∃ y, (.next (onRequest dt s act) : Result) = .next y ∧ Served order r q (handed dt s rest) y :=
  ⟨x, congrArg _ (onRequest_serves h serves), served serves⟩

/-- What a served request's command does. -/
theorem exec_command_served {s : State} {r : RawRequest} {rest : List RawRequest} {q : Request} (dt : Nat)
    (order : List Track) (h : Serves s r rest q) :
    ∃ x, exec (q.command dt order) s = .next x ∧ Served order r q (handed dt s rest) x := by
  cases q with
  | setMarker => exact command_served h rfl served_setMarker
  | markerStatus => exact command_served h rfl served_markerStatus
  | stageTrack => exact command_served h rfl served_stageTrack
  | commitTrack => exact command_served h rfl served_commitTrack
  | updateOffset => exact command_served h rfl served_updateOffset
  | armTrack => exact command_served h rfl served_armTrack
  | stopTrack => exact command_served h rfl served_stopTrack
  | abortTrack => exact command_served h rfl served_abortTrack
  | resetTrack => exact command_served h rfl served_resetTrack
  | trackStatus => exact command_served h rfl served_trackStatus
  | loadMap => exact command_served h rfl served_loadMap
  | checkPage => exact command_served h rfl served_checkPage
  | pageOwner => exact command_served h rfl served_pageOwner
  | keepSweep => exact command_served h rfl served_keepSweep
  | releaseSweep => exact command_served h rfl served_releaseSweep
  | dropSweep => exact command_served h rfl served_dropSweep
  | listSweeps => exact command_served h rfl served_listSweeps
  | sweepInfo => exact command_served h rfl served_sweepInfo
  | standby => exact command_served h rfl served_standby
  | wake => exact command_served h rfl served_wake
  | setAutoStandby => exact command_served h rfl served_setAutoStandby
  | memoryStatus => exact command_served h rfl served_memoryStatus
  | setChecking => exact command_served h rfl served_setChecking
  | readFault => exact command_served h rfl served_readFault
  | clearFault => exact command_served h rfl served_clearFault
  | injectFault => exact command_served h rfl served_injectFault
  | readSweep => exact command_served h rfl served_readSweep
  | readMean => exact command_served h rfl served_readMean
  | abortRead => exact command_served h rfl served_abortRead
  | setAverager n enable =>
    cases enable with
    | true => exact command_served h rfl served_setAveragerEnable
    | false => exact command_served h rfl served_setAveragerDisable
  | averagerStatus => exact command_served h rfl served_averagerStatus
  | restartAverage => exact command_served h rfl served_restartAverage
  | setNoticeLevel => exact command_served h rfl served_setNoticeLevel
  | setNoticeThreshold => exact command_served h rfl served_setNoticeThreshold
  | noticeStatus => exact command_served h rfl served_noticeStatus
  | clearNotices => exact command_served h rfl served_clearNotices
  | queryIdentity => exact command_served h rfl served_queryIdentity
  | readClock => exact command_served h rfl served_readClock
  | resetPart => exact command_served h rfl served_resetPart

end Sys2Proof.Machine

/-!
PROOF. What the shared operations write. `Writes p` says that p is kept by every write of a register that keeps the
register's own limits; from it every operation that is made of such writes keeps p.
-/

namespace Sys2Proof.Machine

/-! ## The limits of one register -/

/-- The limits of the memory controller (R109, R114, R115, R122). -/
def MemControl.fits (m : MemControl) : Prop :=
  -8 ≤ m.balance ∧ m.balance ≤ 8 ∧ (m.refresh ≠ .none → -8 < m.balance) ∧ m.granted.length ≤ 4 ∧
  1 ≤ m.autoDelay ∧ m.autoDelay ≤ 255

/-- The limits of the readout engine (R138, R142). -/
def Readout.fits (q : Readout) : Prop :=
  q.queue.length + q.ended.length ≤ 4 ∧
  ∀ y ∈ q.queue, y.kind.isMean = false → y.firstPos < 32 * y.nextFetch + 32

/-- The limits of the notice unit (R179, R181, R182). -/
def NoticeUnit.fits (n : NoticeUnit) : Prop :=
  1 ≤ n.threshold ∧ n.threshold ≤ 7 ∧ (∀ src, n.level src ≤ 7) ∧ (n.entries.map (fun e => e.source)).Nodup

/-- The limits of a track unit's counts and FIFO (R59, R37, Tables 2.2 and 3.1). -/
def TrackUnit.countsFit (u : TrackUnit) : Prop :=
  u.fifo.length ≤ 256 ∧ u.sweepsDone ≤ 65535 ∧ u.armCount ≤ 65535 ∧ u.intervalCount < u.active.interval.count

/-- The limits of a track unit's sets and offset (R24, R25, R28, R37). -/
def TrackUnit.setsFit (u : TrackUnit) : Prop :=
  u.staged.inRange ∧ u.active.inRange ∧ u.active.joined ∧
  (∀ p, u.pendingSet = some p →
    p.inRange ∧ p.joined ∧ p.markerSelect = u.active.markerSelect ∧ p.base = u.active.base ∧
    p.windowSize = u.active.windowSize) ∧
  -8192 ≤ u.offsetInUse ∧ u.offsetInUse ≤ 8191

/-- The limits of an averager's counts (R154, R158). -/
def Averager.fits (a : Averager) : Prop := 2 ≤ a.k ∧ a.k ≤ 1024 ∧ a.blockCount < a.k

/-- A change of a track unit that keeps its state, its active set and its sequence counter, and its limits. -/
structure TrackUnit.Tame (u v : TrackUnit) : Prop where
  active : v.active = u.active
  seqCounter : v.seqCounter = u.seqCounter
  spent : v.spent = u.spent
  counts : u.countsFit → v.countsFit
  sets : u.setsFit → v.setsFit
  state : v.state = u.state

/-- A change of an averager that keeps its limits, and its region unless it gives it up. -/
structure Averager.Tame (a b : Averager) : Prop where
  region : b.region = a.region ∨ b.region = none
  fits : a.fits → b.fits

/-- A change of a record that keeps its sequence, its pages and its keep, and does not make it FILLING or incomplete. -/
structure SweepRecord.Tame (r x : SweepRecord) : Prop where
  seq : x.seq = r.seq
  kept : x.kept = r.kept
  firstPage : x.firstPage = r.firstPage
  length : x.length = r.length
  incomplete : x.incomplete = true → r.incomplete = true
  filling : x.state = .filling ↔ r.state = .filling

/-! ## The writes -/

/-- The property p is kept by every write of a register that keeps the register's limits. -/
structure Writes (p : State → Prop) : Prop where
  setTime : ∀ {s} v, p s → p (s.setTime v)
  setRefreshElapsed : ∀ {s} v, p s → p (s.setRefreshElapsed v)
  setLanes : ∀ {s} v, p s → p (s.setLanes v)
  setCheck : ∀ {s} v, p s → p (s.setCheck v)
  setMem : ∀ {s} v, (s.mem.fits → v.fits) → p s → p (s.setMem v)
  setReadout : ∀ {s} v, (s.readout.fits → v.fits) → p s → p (s.setReadout v)
  setNotices : ∀ {s} v, (s.notices.fits → v.fits) → p s → p (s.setNotices v)
  setAveragerRam : ∀ {s} v, (Memory.wf s.averagerRam → Memory.wf v) → p s → p (s.setAveragerRam v)
  setDrams : ∀ {s} v w, (Memory.wf s.dram → Memory.wf v) → (Memory.wf s.dramCheck → Memory.wf w) → p s →
    p ((s.setDram v).setDramCheck w)
  putMarker : ∀ {s} u m, ((s.marker u).inOrder → m.inOrder) → p s → p (s.putMarker u m)
  putTrack : ∀ {s} t u, (s.track t).Tame u → p s → p (s.putTrack t u)
  putAverager : ∀ {s} t a, (s.averager t).Tame a → p s → p (s.putAverager t a)
  mapRecords : ∀ {s} t (f : SweepRecord → SweepRecord), (∀ r : SweepRecord, r.Tame (f r)) → p s →
    p (s.putRecords t ((s.records t).map f))

/-! ## Registers -/

theorem MemControl.fits_of_eq {m n : MemControl} (balance : n.balance = m.balance) (refresh : n.refresh = m.refresh)
    (granted : n.granted.length = m.granted.length) (delay : n.autoDelay = m.autoDelay) (h : m.fits) : n.fits := by
  unfold MemControl.fits at *
  rw [balance, refresh, granted, delay]
  exact h

theorem Readout.fits_endReads (q : Readout) (f : Read → Bool) (status : EndStatus) (h : q.fits) :
    (q.endReads f status).fits := by
  obtain ⟨load, fetch⟩ := h
  refine ⟨?_, fun y hy => fetch y (List.mem_filter.mp hy).1⟩
  have split := List.length_eq_length_filter_add (l := q.queue) f
  simp only [Readout.endReads, List.length_append, List.length_map]
  omega

theorem NoticeUnit.fits_post (n : NoticeUnit) (src : Source) (occ : Occurrence) (h : n.fits) : (n.post src occ).fits := by
  obtain ⟨low, high, levels, once⟩ := h
  by_cases off : n.level src = 0
  · rw [NoticeUnit.post_of_off occ off]; exact ⟨low, high, levels, once⟩
  by_cases pending : ∃ e ∈ n.entries, e.source = src
  · rw [NoticeUnit.post_of_pending occ off pending]
    refine ⟨low, high, levels, ?_⟩
    have : ((n.entries.map (fun e => if e.source = src then { e with again := true } else e)).map
        (fun e => e.source)) = n.entries.map (fun e => e.source) := by
      rw [List.map_map]
      exact List.map_congr_left fun e _ => by simp only [Function.comp]; split <;> rfl
    simpa only [this] using once
  · have new : ∀ e ∈ n.entries, e.source ≠ src := fun e he hs => pending ⟨e, he, hs⟩
    rw [NoticeUnit.post_of_new occ off new]
    refine ⟨low, high, levels, ?_⟩
    refine ((NoticeUnit.place_perm n _ n.entries).map _).nodup_iff.mpr ?_
    rw [List.map_cons, List.nodup_cons]
    exact ⟨by simpa using new, once⟩

/-- An averager that is no longer publishing, gathering or published keeps its limits. -/
theorem Averager.fits_of_eq {a b : Averager} (k : b.k = a.k) (count : b.blockCount ≤ a.blockCount) (h : a.fits) :
    b.fits := by
  unfold Averager.fits at *
  rw [k]; omega

theorem TrackUnit.Tame.of_counts {u v : TrackUnit} (active : v.active = u.active) (seqCounter : v.seqCounter = u.seqCounter)
    (spent : v.spent = u.spent) (staged : v.staged = u.staged) (pending : v.pendingSet = u.pendingSet ∨ v.pendingSet = none)
    (offset : v.offsetInUse = u.offsetInUse) (counts : u.countsFit → v.countsFit)
    (state : v.state = u.state := by rfl) : u.Tame v := by
  refine ⟨active, seqCounter, spent, counts, fun ⟨h1, h2, h3, h4, h5⟩ => ?_, state⟩
  unfold TrackUnit.setsFit
  rw [active, staged, offset]
  refine ⟨h1, h2, h3, fun p hp => ?_, h5⟩
  rcases pending with e | e
  · exact h4 p (e ▸ hp)
  · rw [e] at hp; cases hp

/-- A change of none of the items that have limits. -/
theorem TrackUnit.Tame.of_eq {u v : TrackUnit} (active : v.active = u.active) (seqCounter : v.seqCounter = u.seqCounter)
    (spent : v.spent = u.spent) (staged : v.staged = u.staged) (pending : v.pendingSet = u.pendingSet)
    (offset : v.offsetInUse = u.offsetInUse) (fifo : v.fifo.length ≤ u.fifo.length) (done : v.sweepsDone = u.sweepsDone)
    (arm : v.armCount = u.armCount) (interval : v.intervalCount = u.intervalCount)
    (state : v.state = u.state := by rfl) : u.Tame v := by
  refine .of_counts active seqCounter spent staged (.inl pending) offset (fun h => ?_) state
  unfold TrackUnit.countsFit at *
  rw [active, done, arm, interval]
  exact ⟨by omega, h.2⟩

theorem OffsetMode.interval_pos (i : AutoInterval) : 0 < i.count := by cases i <;> decide

theorem clamp_within {lo hi : Int} (h : lo ≤ hi) (z : Int) : lo ≤ clamp lo hi z ∧ clamp lo hi z ≤ hi := by
  unfold clamp; omega

/-! ## Operations made of such writes -/

section Kept
variable {p : State → Prop} (h : Writes p) {s : State}
include h

theorem Writes.elapse (dt : Nat) (k : p s) : p (elapse dt s) :=
  h.setMem _ (MemControl.fits_of_eq rfl rfl rfl rfl) (h.setRefreshElapsed _ (h.setTime _ k))

theorem Writes.putLane (t : Track) (l : Lane) (k : p s) : p (s.putLane t l) := h.setLanes _ k

theorem Writes.post (src : Source) (occ : Occurrence) (k : p s) : p (post src occ s) :=
  h.setNotices _ (NoticeUnit.fits_post _ _ _) k

theorem Writes.mapBursts (f : Burst → Burst) (k : p s) :
    p (s.setMem { s.mem with granted := s.mem.granted.map f }) :=
  h.setMem _ (MemControl.fits_of_eq rfl rfl (List.length_map _) rfl) k

theorem Writes.endReads (f : Read → Bool) (status : EndStatus) (k : p s) : p (endReads f status s) := by
  rw [endReads_eq]
  exact h.setMem _ (MemControl.fits_of_eq rfl rfl (List.length_map _) rfl)
    (h.setReadout _ (Readout.fits_endReads _ _ _) k)

theorem Writes.overtakeActiveMean (t : Track) (k : p s) : p (overtakeActiveMean t s) := by
  unfold Machine.overtakeActiveMean
  split
  · exact k
  · next r rest hq =>
    split
    · refine h.setReadout _ (fun ⟨load, fetch⟩ => ?_) k
      rw [hq] at load fetch
      refine ⟨?_, fun y hy => fetch y (List.mem_cons_of_mem _ hy)⟩
      simp only [List.length_cons, List.length_append, List.length_nil] at load ⊢
      omega
    · exact k

theorem Writes.claim (t : Track) (seq : Nat) {f : SweepRecord → SweepRecord} (hf : ∀ r : SweepRecord, r.Tame (f r)) (k : p s) :
    p (claim t seq f s) := by
  refine h.mapRecords t _ (fun r => ?_) k
  split
  · exact hf r
  · exact ⟨rfl, rfl, rfl, rfl, id, Iff.rfl⟩

theorem Writes.loseOne (t : Track) (pos : Nat) (k : p s) : p (loseOne t pos s) := by
  refine h.mapRecords t _ (fun r => ?_) k
  unfold SweepRecord.lose
  split
  · split <;> exact ⟨rfl, rfl, rfl, rfl, id, Iff.rfl⟩
  · exact ⟨rfl, rfl, rfl, rfl, id, Iff.rfl⟩

theorem Writes.dropStaged (t : Track) (seq : Nat) (k : p s) : p (dropStaged t seq s) := by
  refine h.mapBursts _ (h.putTrack t _ ?_ k)
  exact .of_eq rfl rfl rfl rfl rfl rfl (List.length_filter_le _ _) rfl rfl rfl

/-! ### The averager -/

theorem Writes.clearSums (g : Region) (k : p s) : p (clearSums g s) :=
  h.setAveragerRam _ (fun w => Memory.wf_tfill w _ _) k

theorem Writes.restartBlock (t : Track) (k : p s) : p (restartBlock t s) := by
  unfold Machine.restartBlock
  simp only
  split
  · exact k
  · have restarted : p (s.putAverager t { s.averager t with blockCount := 0, blockLast := none, current := none }) :=
      h.putAverager t _ ⟨.inl rfl, Averager.fits_of_eq rfl (Nat.zero_le _)⟩ k
    split
    · exact restarted
    · exact h.clearSums _ restarted

theorem Writes.discardMean (t : Track) (k : p s) : p (discardMean t s) :=
  h.endReads _ _ (h.putAverager t _ ⟨.inl rfl, Averager.fits_of_eq rfl (Nat.le_refl _)⟩ k)

theorem Writes.disableAverager (t : Track) (reason : DisableReason) (k : p s) : p (disableAverager t reason s) := by
  unfold Machine.disableAverager
  split
  · exact k
  · exact h.putAverager t _ ⟨.inr rfl, Averager.fits_of_eq rfl (Nat.zero_le _)⟩ (h.discardMean t k)

theorem Writes.averagerSweepStart (t : Track) (seq : Nat) (coasted : Bool) (k : p s) :
    p (averagerSweepStart t seq coasted s) :=
  h.putAverager t _ ⟨.inl rfl, Averager.fits_of_eq rfl (Nat.le_refl _)⟩ k

theorem Writes.averagerAdd (t : Track) (pos : Nat) (v : Int) (k : p s) : p (averagerAdd t pos v s) := by
  unfold Machine.averagerAdd
  simp only
  split
  · exact h.setAveragerRam _ (fun w => Memory.wf_tput w _ _) k
  · exact k

theorem Writes.averagerSweepRemoved (t : Track) (seq : Nat) (k : p s) : p (averagerSweepRemoved t seq s) := by
  unfold Machine.averagerSweepRemoved
  split
  · exact h.restartBlock t k
  · exact k

/-- The end of the current sweep: the count rises, and is 0 again when it would reach K. -/
theorem Writes.averagerSweepEnd (t : Track) (seq : Nat) (spoiled : Bool) (k : p s) :
    p (averagerSweepEnd t seq spoiled s) := by
  unfold Machine.averagerSweepEnd
  simp only
  split
  · split
    · exact h.restartBlock t k
    · split
      · next full =>
        have direct : beginPublication t seq (Machine.claim t seq SweepRecord.setAveraged
              (s.putAverager t { s.averager t with
                current := none, blockCount := (s.averager t).blockCount + 1, blockLast := some seq })) =
            Machine.overtakeActiveMean t (Machine.claim t seq SweepRecord.setAveraged
              (s.putAverager t { s.averager t with
                current := none, blockCount := 0, blockLast := some seq,
                publication := some { next := 0, last := seq }, published := false })) := by
          unfold beginPublication Machine.claim
          congr 1
          simp [State.putRecords, State.putAverager, State.setAveragers, State.setIndex, State.averager, State.records]
        rw [direct]
        refine h.overtakeActiveMean t (h.claim t seq (fun r => ⟨rfl, rfl, rfl, rfl, id, Iff.rfl⟩) ?_)
        exact h.putAverager t _ ⟨.inl rfl, Averager.fits_of_eq rfl (Nat.zero_le _)⟩ k
      · next more =>
        refine h.claim t seq (fun r => ⟨rfl, rfl, rfl, rfl, id, Iff.rfl⟩) (h.putAverager t _ ⟨.inl rfl, fun fit => ?_⟩ k)
        obtain ⟨low, high, below⟩ := fit
        exact ⟨low, high, by simp only; omega⟩
  · exact k

theorem Writes.resetAverager (t : Track) (k : p s) : p (resetAverager t s) := by
  unfold Machine.resetAverager
  have cleared : p ((Machine.discardMean t s).putAverager t
      { (Machine.discardMean t s).averager t with current := none, blockCount := 0, blockLast := none }) :=
    h.putAverager t _ ⟨.inl rfl, Averager.fits_of_eq rfl (Nat.zero_le _)⟩ (h.discardMean t k)
  simp only
  split
  · exact cleared
  · exact h.clearSums _ cleared

theorem Writes.writeMean (t : Track) (k : p s) : p (writeMean t s) := by
  unfold Machine.writeMean
  simp only
  split
  · next g x hr hx =>
    have written : p ((s.setAveragerRam
        (tput s.averagerRam (g.base + g.length + x.next) (BitVec.ofInt 32 (meanOf s g (s.averager t).k x.next)))).putAverager t
          { s.averager t with publication := some { x with next := x.next + 1 } }) :=
      h.putAverager t _ ⟨.inl rfl, Averager.fits_of_eq rfl (Nat.le_refl _)⟩
        (h.setAveragerRam _ (fun w => Memory.wf_tput w _ _) k)
    split
    · exact h.post _ _ (h.putAverager t _ ⟨.inl rfl, Averager.fits_of_eq rfl (Nat.le_refl _)⟩ (h.clearSums _ written))
    · exact written
  · exact k

/-! ### The memory controller -/

theorem Writes.setMem_of_eq (m : MemControl) (balance : m.balance = s.mem.balance) (refresh : m.refresh = s.mem.refresh)
    (granted : m.granted.length = s.mem.granted.length) (delay : m.autoDelay = s.mem.autoDelay) (k : p s) :
    p (s.setMem m) := h.setMem _ (MemControl.fits_of_eq balance refresh granted delay) k

theorem Writes.follow (k : p s) : p (follow s) := by
  rw [follow_eq]
  exact h.setMem_of_eq _ rfl rfl rfl rfl k

theorem Writes.followAuto (k : p s) : p (followAuto s) := h.setMem_of_eq _ rfl rfl rfl rfl k

end Kept

theorem MemControl.fits_driveRefresh {m : MemControl} (h : m.fits) : m.driveRefresh.fits := by
  obtain ⟨low, high, lowers, rest⟩ := h
  unfold MemControl.driveRefresh
  by_cases waiting : m.refresh = .waiting ∧ m.granted = []
  · have strict := lowers (by simp [waiting.1])
    simp only [waiting.1, waiting.2, List.isEmpty_nil, Bool.and_self, decide_true, if_true]
    split <;> exact ⟨low, high, fun _ => strict, by simpa [MemControl.closeOpen, waiting.2] using rest⟩
  · have skip : (decide (m.refresh = .waiting) && m.granted.isEmpty) = false := by
      simpa [List.isEmpty_iff] using waiting
    simp only [skip, Bool.false_eq_true, if_false]
    split
    · next closing =>
      simp only [Bool.and_eq_true, decide_eq_true_eq] at closing
      exact ⟨low, high, fun _ => lowers (by simp [closing.1]), rest⟩
    · exact ⟨low, high, lowers, rest⟩

section Kept
variable {p : State → Prop} (h : Writes p) {s : State}
include h

/-- A burst is added to fewer than four. -/
theorem Writes.addBurst (b : Burst) (room : s.mem.granted.length < 4) (k : p s) : p (addBurst b s) := by
  refine h.setMem _ (fun ⟨h1, h2, h3, _, h5⟩ => ⟨h1, h2, h3, ?_, h5⟩) k
  simp only [List.length_append, List.length_cons, List.length_nil]
  omega

omit h in
theorem takeSpan_length_le (seq q n : Nat) (fifo : List FifoEntry) : (takeSpan seq q n fifo).2.length ≤ fifo.length := by
  induction n generalizing q fifo with
  | zero => cases fifo <;> exact Nat.le_refl _
  | succ n ih =>
    cases fifo with
    | nil => exact ih _ _
    | cons e rest =>
      unfold takeSpan
      split
      · exact Nat.le_trans (ih _ _) (Nat.le_succ _)
      · exact ih _ _

theorem Writes.grantWriter (t : Track) (room : s.mem.granted.length < 4) (k : p s) : p (grantWriter t s) := by
  unfold Machine.grantWriter
  split
  · exact k
  · next r _ =>
    simp only
    split
    · exact k
    · have taken : p (s.putTrack t
          { s.track t with
            fifo := (takeSpan r.seq ((s.track t).writeNext r.seq) (burstCover r.length ((s.track t).writeNext r.seq))
              (s.track t).fifo).2,
            cursor := some { seq := r.seq, next := (s.track t).writeNext r.seq + 32 } }) :=
        h.putTrack t _ (.of_eq rfl rfl rfl rfl rfl rfl (takeSpan_length_le _ _ _ _) rfl rfl rfl) k
      split
      · exact h.addBurst _ room (h.setCheck _ taken)
      · exact h.addBurst _ room taken

/-- The active read is replaced by one that keeps the limits. -/
theorem Writes.setActive {r : Read} (fit : s.readout.fits → r.kind.isMean = false → r.firstPos < 32 * r.nextFetch + 32)
    (k : p s) : p (setActive r s) := by
  unfold Machine.setActive
  split
  · exact k
  · next a rest hq =>
    refine h.setReadout _ (fun f => ⟨?_, fun y hy => ?_⟩) k
    · have load := f.1
      rw [hq] at load
      exact load
    · rcases List.mem_cons.mp hy with e | e
      · rw [e]; exact fit f
      · exact f.2 y (hq ▸ List.mem_cons_of_mem _ e)

omit h in
theorem engineBlock_mem {r : Read} {seq page b : Nat} (e : engineBlock s = some (r, seq, page, b)) :
    r ∈ s.readout.queue ∧ r.kind.isMean = false ∧ b = r.nextFetch := by
  unfold engineBlock at e
  split at e
  · cases e
  · next a rest hq =>
    split at e
    · cases e
    · next kind =>
      split at e
      · simp only [Option.some.injEq, Prod.mk.injEq] at e
        obtain ⟨rfl, -, -, rfl⟩ := e
        exact ⟨hq ▸ List.mem_cons_self, by rw [kind]; rfl, rfl⟩
      · cases e

omit h in
theorem setActive_mem (r : Read) : (setActive r s).mem = s.mem := by
  unfold setActive; split <;> rfl

theorem Writes.grantRead (room : s.mem.granted.length < 4) (k : p s) : p (grantRead s) := by
  unfold Machine.grantRead
  split
  · exact k
  · next r seq page b he =>
    split
    · exact k
    · obtain ⟨mem, kind, rfl⟩ := engineBlock_mem he
      simp only
      refine h.addBurst _ (by rw [setActive_mem]; exact room) (h.setActive (fun fit mean => ?_) k)
      have := fit.2 r mem kind
      simp only
      omega

theorem Writes.arbitrate (k : p s) : p (arbitrate s) := by
  have refresh (above : -8 < s.mem.balance) : p (grantRefresh s) :=
    h.setMem _ (fun ⟨h1, h2, _, h4⟩ => ⟨h1, h2, fun _ => above, h4⟩) k
  unfold Machine.arbitrate
  split
  · split
    · next full => exact refresh (by omega)
    · split
      · split
        · next room =>
          have room : s.mem.granted.length < 4 := room
          unfold grantBurst
          split
          · exact h.setMem_of_eq _ rfl rfl rfl rfl (h.grantWriter _ room k)
          · split
            · exact h.grantRead room k
            · split
              · exact h.setMem_of_eq _ rfl rfl rfl rfl (h.grantWriter _ room k)
              · exact k
        · exact k
      · split
        · next above => exact refresh above
        · exact k
  · exact k

/-! ### Completed bursts and the controller's events -/

theorem Writes.recordFault (f : MemoryFaultRecord) (k : p s) : p (recordFault f s) := by
  unfold Machine.recordFault
  split <;> exact h.setCheck _ k

theorem Writes.noteWord (w : WordFault) (k : p s) : p (noteWord w s) := by
  unfold Machine.noteWord noteCorrected noteUncorrectable
  split
  · exact k
  · split
    · simp only
      split
      · exact h.post _ _ (h.setCheck _ k)
      · exact h.setCheck _ k
    · split
      · have noted := h.recordFault (.uncorrectable w)
          (h.claim w.track w.seq (f := SweepRecord.setDamaged) (fun r => ⟨rfl, rfl, rfl, rfl, id, Iff.rfl⟩) k)
        simp only
        split
        · exact h.post _ _ noted
        · exact noted
      · exact k

omit h in
theorem kept_foldl {α : Type} (f : State → α → State) (step : ∀ {x} a, p x → p (f x a)) (l : List α) (k : p s) :
    p (l.foldl f s) := by
  induction l generalizing s with
  | nil => exact k
  | cons a l ih => exact ih (step a k)

theorem Writes.completeRead (b : Burst) (asked : List Nat) (k : p s) : p (completeRead b asked s) := by
  have checked := kept_foldl (p := p) (fun s' w => Machine.noteWord
    { page := b.page, offset := b.offset + w, code := burstCode s b w, track := b.track, seq := b.seq } s')
    (fun w kx => h.noteWord _ kx) asked k
  unfold Machine.completeRead
  simp only
  split
  · split
    · exact checked
    · next r rest hq =>
      exact h.setActive (fun fit => fit.2 r (hq ▸ List.mem_cons_self)) checked
  · exact checked

omit h in
theorem SweepRecord.tame_finish (r : SweepRecord) : r.Tame r.finish := by
  unfold SweepRecord.finish
  split
  · next hd => exact ⟨rfl, rfl, rfl, rfl, fun _ => by simp [SweepRecord.incomplete, hd], by simp [hd]⟩
  · exact ⟨rfl, rfl, rfl, rfl, id, Iff.rfl⟩

theorem Writes.completeWrite (b : Burst) (samples : List Int) (inject : Option InjectKind) (k : p s) :
    p (completeWrite b samples inject s) := by
  have stored : p (storeWords b.page b.offset (injectInto inject (sampleBytes samples))
      (checkBytes 8 (sampleBytes samples)) s) :=
    h.setDrams _ _ (fun w => Memory.wf_tfill w _ _) (fun w => Memory.wf_tfill w _ _) k
  unfold Machine.completeWrite
  simp only
  split
  · exact stored
  · split
    · exact h.post _ _ (h.putTrack _ _ (.of_eq rfl rfl rfl rfl rfl rfl (Nat.le_refl _) rfl rfl rfl)
        (h.claim _ _ SweepRecord.tame_finish stored))
    · exact stored

theorem Writes.completeTransfer (k : p s) : p (completeTransfer s) := by
  unfold Machine.completeTransfer
  split
  · exact k
  · split
    · exact k
    · have left (bank : BankId) : p (s.setMem { s.mem with
          granted := s.mem.granted.eraseP (fun x => x.bank = bank), dataPath := none }) :=
        h.setMem _ (fun ⟨h1, h2, h3, h4, h5⟩ =>
          ⟨h1, h2, h3, Nat.le_trans (List.length_eraseP_le ..) h4, h5⟩) k
      simp only
      split
      · exact h.completeRead _ _ (left _)
      · exact h.completeWrite _ _ _ (left _)

theorem Writes.endClose (b : BankId) (k : p s) : p (endClose b s) := by
  unfold Machine.endClose
  split
  · exact h.setMem_of_eq _ rfl rfl rfl rfl k
  · exact k

theorem Writes.endOpen (b : BankId) (k : p s) : p (endOpen b s) := by
  unfold Machine.endOpen
  split
  · exact h.setMem_of_eq _ rfl rfl rfl rfl k
  · exact k
  · exact k

theorem Writes.endRefresh (k : p s) : p (endRefresh s) := by
  unfold Machine.endRefresh
  split
  · next inFlight =>
    have done : p (s.setMem { s.mem with refresh := .none, balance := s.mem.balance - 1, reentry := false }) :=
      h.setMem _ (fun ⟨h1, h2, h3, h4⟩ =>
        ⟨by have := h3 (by simp [inFlight]); simp only; omega, by simp only; omega, fun ne => absurd rfl ne, h4⟩) k
    simp only
    split
    · exact h.setMem_of_eq _ rfl rfl rfl rfl done
    · exact done
  · exact k

theorem Writes.refreshExpiry (k : p s) : p (refreshExpiry s) := by
  unfold Machine.refreshExpiry expire
  split
  · have later := h.setRefreshElapsed (s.refreshElapsed - Config.refreshInterval) k
    simp only
    split
    · split
      · next below =>
        refine h.setMem _ (fun ⟨h1, h2, h3, h4⟩ => ⟨?_, ?_, fun ne => ?_, h4⟩) later
        · simp only [State.setRefreshElapsed_mem] at h1 ⊢; omega
        · simp only [State.setRefreshElapsed_mem] at below ⊢; omega
        · have := h3 ne
          simp only [State.setRefreshElapsed_mem] at this ⊢; omega
      · exact h.post _ _ (h.recordFault _ later)
    · exact later
  · exact k

theorem Writes.delayExpiry (k : p s) : p (delayExpiry s) := by
  unfold Machine.delayExpiry setMemState
  split
  · split
    · split <;> exact h.setMem_of_eq _ rfl rfl rfl rfl k
    · exact k
  · exact k
  · exact k

/-! ### The readout engine and the outbound pair -/

theorem Writes.buildMeanFrame (k : p s) : p (buildMeanFrame s) := by
  unfold Machine.buildMeanFrame
  split
  · exact k
  · split
    · exact k
    · split
      · next mean =>
        simp only [Bool.and_eq_true, decide_eq_true_eq] at mean
        refine h.setActive (fun _ sweep => ?_) k
        simp only [Read.take, mean.1.1.1.1, ReadKind.isMean, reduceCtorEq] at sweep
      · exact k

theorem Writes.offeredFrame {f : Frame} {x : State} (e : offeredFrame s = some (f, x)) (k : p s) : p x := by
  unfold Machine.offeredFrame at e
  split at e
  · next en rest he =>
    simp only [Option.some.injEq, Prod.mk.injEq] at e
    rw [← e.2]
    refine h.setReadout _ (fun ⟨load, fetch⟩ => ⟨?_, fetch⟩) k
    rw [he] at load
    simp only [List.length_cons] at load ⊢
    omega
  · next he =>
    split at e
    · cases e
    · next r rest hq =>
      split at e
      · cases e
      · split at e
        · simp only [Option.some.injEq, Prod.mk.injEq] at e
          rw [← e.2]
          refine h.setReadout _ (fun ⟨load, fetch⟩ => ⟨?_, fun y hy => fetch y (hq ▸ List.mem_cons_of_mem _ hy)⟩) k
          rw [hq] at load
          simp only [List.length_cons] at load ⊢
          omega
        · simp only [Option.some.injEq, Prod.mk.injEq] at e
          rw [← e.2]
          refine h.setReadout _ (fun ⟨load, fetch⟩ => ⟨?_, fun y hy => ?_⟩) k
          · rw [hq] at load
            exact load
          · rcases List.mem_cons.mp hy with e | e
            · rw [e]; exact fetch r (hq ▸ List.mem_cons_self)
            · exact fetch y (hq ▸ List.mem_cons_of_mem _ e)

theorem Writes.chooseNotice {f : Frame} {x : State} (e : chooseNotice s = some (f, x)) (k : p s) : p x := by
  unfold Machine.chooseNotice at e
  split at e
  · cases e
  · next en rest he =>
    split at e
    · simp only [Option.some.injEq, Prod.mk.injEq] at e
      rw [← e.2]
      refine h.setNotices _ (fun ⟨h1, h2, h3, h4⟩ => ⟨h1, h2, h3, ?_⟩) k
      rw [he, List.map_cons, List.nodup_cons] at h4
      exact h4.2
    · cases e

end Kept

/-! ## Operations that write the link -/

/-- The property p is kept by these writes and by every write of the link. -/
structure LinkWrites (p : State → Prop) : Prop extends Writes p where
  setLink : ∀ {s} v, p s → p (s.setLink v)

section Kept
variable {p : State → Prop} (h : LinkWrites p) {s : State}
include h

theorem LinkWrites.addReply (own : Bool) (r : RawRequest) (st : Status) (body : List Byte) (k : p s) :
    p (addReply own r st body s) := h.setLink _ k

theorem LinkWrites.completeInHand (code : Nat) (k : p s) : p (completeInHand code s) := by
  unfold Machine.completeInHand
  split
  · split
    · exact h.addReply _ _ _ _ (h.setLink _ k)
    · exact k
  · exact k

theorem LinkWrites.driveEntry (k : p s) : p (driveEntry s) := by
  by_cases entry : ∃ c, s.mem.state = .entering c
  · obtain ⟨c, state⟩ := entry
    rw [driveEntry_in s c state]
    split
    · split
      · next owed =>
        refine h.setMem _ (fun fit => MemControl.fits_driveRefresh ?_) k
        obtain ⟨low, high, -, rest⟩ := fit
        exact ⟨low, high, fun _ => by simp only; omega, rest⟩
      · split
        · exact h.setMem_of_eq _ rfl rfl rfl rfl k
        · split
          · rw [completeEntry_eq]
            exact h.setLink _ (h.setNotices _ (NoticeUnit.fits_post _ _ _) (h.setMem_of_eq _ rfl rfl rfl rfl k))
          · exact k
    · exact k
  · rw [driveEntry_not s fun c state => entry ⟨c, state⟩]
    exact k

theorem LinkWrites.drive (k : p s) : p (drive s) := by
  refine h.driveEntry (h.setMem _ (fun fit => MemControl.fits_driveRefresh ?_) k)
  obtain ⟨bs, stepped⟩ := s.mem.stepBanks_only
  obtain ⟨d, transfer, -⟩ := s.mem.stepBanks.startTransfer_spec
  rw [transfer, stepped]
  exact fit

theorem LinkWrites.settle (k : p s) : p (settle s) := h.follow (h.drive k)

theorem LinkWrites.endWaking (k : p s) : p (endWaking s) := by
  unfold Machine.endWaking
  split
  · exact h.completeInHand _ (h.post _ _ (h.setMem _ (fun ⟨_, _, _, h4⟩ =>
      ⟨by simp, by simp, fun _ => by simp, h4⟩) k))
  · exact k
  · exact k
  · exact k

theorem LinkWrites.sendNext (k : p s) : p (sendNext s) := by
  unfold Machine.sendNext
  split
  · next f x e =>
    refine h.setLink _ ?_
    unfold chooseFrame at e
    split at e
    · simp only [Option.some.injEq, Prod.mk.injEq] at e
      exact e.2 ▸ h.setLink _ k
    · split at e
      · simp only [Option.some.injEq, Prod.mk.injEq] at e
        exact e.2 ▸ h.setLink _ k
      · split at e
        · next c hc =>
          obtain rfl : c = (f, x) := by simpa using e
          exact h.chooseNotice hc k
        · exact h.offeredFrame e k
  · exact h.setLink _ k

theorem LinkWrites.discardFrame (kind : LinkErrorKind) (k : p s) : p (discardFrame kind s) := h.post _ _ (h.setLink _ k)

theorem LinkWrites.receiveByte (b : Byte) (k : p s) : p (receiveByte b s) := by
  unfold Machine.receiveByte
  simp only
  split
  · exact k
  · split
    · exact h.setLink _ k
    · split
      · exact h.discardFrame _ k
      · exact h.setLink _ k
  · split
    · exact h.discardFrame _ k
    · exact h.setLink _ k

theorem LinkWrites.receiveGap (k : p s) : p (receiveGap s) := by
  unfold Machine.receiveGap
  split
  · exact k
  · exact h.discardFrame _ k
  · exact h.discardFrame _ k

theorem LinkWrites.receiveStart (k : p s) : p (receiveStart s) := by
  unfold Machine.receiveStart
  split
  · exact h.setLink _ k
  · exact h.setLink _ (h.discardFrame _ k)
  · exact h.setLink _ (h.discardFrame _ k)

theorem LinkWrites.receiveEnd (k : p s) : p (receiveEnd s) := by
  unfold Machine.receiveEnd
  split
  · exact k
  · exact h.discardFrame _ k
  · split
    · exact h.discardFrame _ k
    · unfold acceptRequest
      split <;> exact h.setLink _ (h.setLink _ k)

theorem LinkWrites.receive (sym : Symbol) (k : p s) : p (receive sym s) := by
  cases sym with
  | data b => exact h.receiveByte b k
  | idle => exact h.receiveGap k
  | start => exact h.receiveStart k
  | stop => exact h.receiveEnd k
  | undecodable => exact h.receiveGap k

end Kept

end Sys2Proof.Machine

/-!
PROOF. A marker unit stays in order (R2, R5, R8 to R17): one lemma for each change its rules make.
-/

namespace Sys2Proof.Machine

/-- Two states that differ are never equal. -/
theorem MarkerState.differ {a b : MarkerState} (ne : a ≠ b) {q : Prop} (e : a = b) : q := absurd e ne

theorem MarkerState.locked_ne : MarkerState.locked ≠ .noSignal ∧ MarkerState.locked ≠ .acquiring ∧
    MarkerState.locked ≠ .coasting := by decide

theorem MarkerState.coasting_ne : MarkerState.coasting ≠ .noSignal ∧ MarkerState.coasting ≠ .acquiring ∧
    MarkerState.coasting ≠ .locked := by decide

theorem MarkerState.acquiring_ne : MarkerState.acquiring ≠ .noSignal ∧ MarkerState.acquiring ≠ .locked ∧
    MarkerState.acquiring ≠ .coasting := by decide

section
variable {m : MarkerUnit}

theorem Polarity.detected_mode {x : MarkerSettings} :
    (x.polarityMode = .rising → x.polarityMode.detected = some .rising) ∧
    (x.polarityMode = .falling → x.polarityMode.detected = some .falling) := by
  constructor <;> intro e <;> rw [e] <;> rfl

/-- The settings of a unit are in their ranges (Table 1.2). -/
def MarkerSettings.inRange (x : MarkerSettings) : Prop :=
  x.minWidth ≤ 255 ∧ 1 ≤ x.tolerance ∧ x.tolerance ≤ 16 ∧ 1 ≤ x.coastLimit ∧ x.coastLimit ≤ 15

theorem MarkerUnit.inOrder_settings (h : m.inOrder) : m.settings.inRange := by
  obtain ⟨h1, h2, h3, h4, h5, -⟩ := h
  exact ⟨h1, h2, h3, h4, h5⟩

/-- A unit in NO_SIGNAL, its settings in range, and its polarity as its mode gives it. -/
theorem MarkerUnit.inOrder_toNoSignal (h : m.settings.inRange) : m.toNoSignal.inOrder := by
  obtain ⟨h1, h2, h3, h4, h5⟩ := h
  refine ⟨h1, h2, h3, h4, h5, (Polarity.detected_mode (x := m.settings)).1,
    (Polarity.detected_mode (x := m.settings)).2, ?_, ?_, ?_, ?_, ?_, ?_⟩ <;> simp [MarkerUnit.toNoSignal]

theorem MarkerUnit.inOrder_early (v : Bool) (h : m.inOrder) : ({ m with early := v } : MarkerUnit).inOrder := h

theorem MarkerUnit.inOrder_resetPart (h : m.inOrder) : m.resetPart.inOrder :=
  MarkerUnit.inOrder_early _ (MarkerUnit.inOrder_toNoSignal (MarkerUnit.inOrder_settings h))

theorem MarkerUnit.inOrder_configure {x : MarkerSettings} (h : x.inRange) : (m.configure x).inOrder :=
  MarkerUnit.inOrder_early _ (MarkerUnit.inOrder_toNoSignal (m := { m with settings := x }) h)

theorem within_some {lo hi : Nat} {v : Int} {n : Nat} (h : within lo hi v = some n) : lo ≤ n ∧ n ≤ hi := by
  unfold within at h
  split at h
  · simp only [Option.some.injEq] at h
    omega
  · cases h

theorem MarkerSettings.inRange_setField {x y : MarkerSettings} {item : Nat × Int} (h : x.inRange)
    (e : x.setField item = some y) : y.inRange := by
  obtain ⟨h1, h2, h3, h4, h5⟩ := h
  unfold MarkerSettings.setField at e
  split at e
  · obtain ⟨v, -, rfl⟩ := Option.map_eq_some_iff.mp e
    exact ⟨h1, h2, h3, h4, h5⟩
  · obtain ⟨v, hv, rfl⟩ := Option.map_eq_some_iff.mp e
    exact ⟨(within_some hv).2, h2, h3, h4, h5⟩
  · obtain ⟨v, hv, rfl⟩ := Option.map_eq_some_iff.mp e
    exact ⟨h1, (within_some hv).1, (within_some hv).2, h4, h5⟩
  · obtain ⟨v, hv, rfl⟩ := Option.map_eq_some_iff.mp e
    exact ⟨h1, h2, h3, (within_some hv).1, (within_some hv).2⟩
  · cases e

theorem MarkerSettings.inRange_setFields {x y : MarkerSettings} {items : List (Nat × Int)} (h : x.inRange)
    (e : x.setFields items = some y) : y.inRange := by
  induction items generalizing x with
  | nil => cases e; exact h
  | cons item rest ih =>
    unfold MarkerSettings.setFields at e
    split at e
    · next hz => exact ih (MarkerSettings.inRange_setField h hz) e
    · cases e

/-- The window at a marker has its two ends in the valid period range (R11). -/
theorem MarkerUnit.windowAt_bounds {e : Nat} (low : 40000 ≤ e) (high : e ≤ 400000000) (time : Time) :
    40000 ≤ (m.windowAt time e).openAfter ∧ (m.windowAt time e).openAfter ≤ (m.windowAt time e).closeAfter ∧
      (m.windowAt time e).closeAfter ≤ 400000000 := by
  simp only [MarkerUnit.windowAt, Config.minPeriod, Config.maxPeriod]
  omega

/-- A unit in lock after a marker with an estimate in range (R10, R13, R14, R16, R17). -/
theorem MarkerUnit.inOrder_marked (h : m.inOrder) (state : m.state = .locked ∨ m.state = .coasting) (time : Time)
    {e : Nat} (low : 40000 ≤ e) (high : e ≤ 400000000) : (m.marked time e).inOrder := by
  obtain ⟨h1, h2, h3, h4, h5, h6, h7, h8, h9, h10, h11, h12, h13⟩ := h
  obtain ⟨count, reference, -, -, -⟩ := h11 state
  refine ⟨h1, h2, h3, h4, h5, h6, h7, h8, fun e => ?_, fun e => ?_, fun _ => ?_, h12, h13⟩
  · rcases state with s | s <;> rw [show m.state = .noSignal from e] at s <;> cases s
  · rcases state with s | s <;> rw [show m.state = .acquiring from e] at s <;> cases s
  · exact ⟨count, reference, low, high, _, rfl, rfl, MarkerUnit.windowAt_bounds low high time⟩

/-- The window of a unit in lock, and its bounds. -/
theorem MarkerUnit.window_of_lock (h : m.inOrder) (state : m.state = .locked ∨ m.state = .coasting) {w : Window}
    (hw : m.window = some w) : 40000 ≤ w.openAfter ∧ w.openAfter ≤ w.closeAfter ∧ w.closeAfter ≤ 400000000 := by
  obtain ⟨-, -, -, -, -, -, -, -, -, -, lock, -⟩ := h
  obtain ⟨-, -, -, -, w', hw', -, bounds⟩ := lock state
  cases hw.symm.trans hw'
  exact bounds

theorem MarkerUnit.estimate_of_lock (h : m.inOrder) (state : m.state = .locked ∨ m.state = .coasting) :
    40000 ≤ m.estimate ∧ m.estimate ≤ 400000000 := by
  obtain ⟨-, -, -, -, -, -, -, -, -, -, lock, -⟩ := h
  obtain ⟨-, -, low, high, -⟩ := lock state
  exact ⟨low, high⟩

/-- Entry to LOCKED (R10). -/
theorem MarkerUnit.inOrder_enterLocked (h : m.inOrder) (time : Time) {e : Nat} (low : 40000 ≤ e)
    (high : e ≤ 400000000) :
    (({ m with state := .locked, count := Config.lockCount, coast := 0, reference := none } : MarkerUnit).marked time
      e).inOrder := by
  obtain ⟨h1, h2, h3, h4, h5, h6, h7, h8, h9, h10, h11, h12, h13⟩ := h
  obtain ⟨n1, n2, n3⟩ := MarkerState.locked_ne
  exact ⟨h1, h2, h3, h4, h5, h6, h7, h8, MarkerState.differ n1, MarkerState.differ n2,
    fun _ => ⟨rfl, rfl, low, high, _, rfl, rfl, MarkerUnit.windowAt_bounds low high time⟩, fun _ => rfl,
    MarkerState.differ n3⟩

/-- A pulse accepted in COASTING returns the unit to LOCKED (R16). -/
theorem MarkerUnit.inOrder_relock (h : m.inOrder) (state : m.state = .locked ∨ m.state = .coasting) :
    ({ m with state := .locked, coast := 0 } : MarkerUnit).inOrder := by
  obtain ⟨h1, h2, h3, h4, h5, h6, h7, h8, h9, h10, h11, h12, h13⟩ := h
  obtain ⟨n1, n2, n3⟩ := MarkerState.locked_ne
  exact ⟨h1, h2, h3, h4, h5, h6, h7, h8, MarkerState.differ n1, MarkerState.differ n2, fun _ => h11 state,
    fun _ => rfl, MarkerState.differ n3⟩

/-- A synthetic marker leaves the unit COASTING (R14, R17). -/
theorem MarkerUnit.inOrder_coast (h : m.inOrder) (state : m.state = .locked ∨ m.state = .coasting) {c : Nat}
    (low : 1 ≤ c) (high : c ≤ m.settings.coastLimit) :
    ({ m with state := .coasting, coast := c } : MarkerUnit).inOrder := by
  obtain ⟨h1, h2, h3, h4, h5, h6, h7, h8, h9, h10, h11, h12, h13⟩ := h
  obtain ⟨n1, n2, n3⟩ := MarkerState.coasting_ne
  exact ⟨h1, h2, h3, h4, h5, h6, h7, h8, MarkerState.differ n1, MarkerState.differ n2, fun _ => h11 state,
    MarkerState.differ n3, fun _ => ⟨low, high⟩⟩

/-- A unit in ACQUIRING with a reference time, and a count that its estimate fits (R8, R9). -/
theorem MarkerUnit.inOrder_acquiring (h : m.inOrder) (state : m.state = .noSignal ∨ m.state = .acquiring)
    (known : m.detected ≠ none) (p : Time) {e c : Nat} (few : c ≤ 3)
    (fits : c ≠ 0 → 40000 ≤ e ∧ e ≤ 400000000) :
    ({ m with state := .acquiring, reference := some p, estimate := e, count := c } : MarkerUnit).inOrder := by
  obtain ⟨h1, h2, h3, h4, h5, h6, h7, h8, h9, h10, h11, h12, h13⟩ := h
  have idle : m.coast = 0 ∧ m.window = none ∧ m.closeHeld = false := by
    rcases state with s | s
    · obtain ⟨-, coast, -, -, window, held⟩ := h9 s; exact ⟨coast, window, held⟩
    · obtain ⟨-, -, coast, window, held, -⟩ := h10 s; exact ⟨coast, window, held⟩
  obtain ⟨n1, n2, n3⟩ := MarkerState.acquiring_ne
  exact ⟨h1, h2, h3, h4, h5, h6, h7, h8, MarkerState.differ n1,
    fun _ => ⟨known, few, idle.1, idle.2.1, idle.2.2, fun e => absurd e (by simp), fits⟩,
    fun e => e.elim (MarkerState.differ n2) (MarkerState.differ n3), MarkerState.differ n2, MarkerState.differ n3⟩

/-- A close that is held, or is held no longer: only a unit in lock can hold one. -/
theorem MarkerUnit.inOrder_closeHeld (h : m.inOrder) (v : Bool) (hw : v = false ∨ m.window ≠ none) :
    ({ m with closeHeld := v } : MarkerUnit).inOrder := by
  obtain ⟨h1, h2, h3, h4, h5, h6, h7, h8, h9, h10, h11, h12, h13⟩ := h
  refine ⟨h1, h2, h3, h4, h5, h6, h7, h8, fun e => ?_, fun e => ?_, h11, h12, h13⟩
  · obtain ⟨count, coast, estimate, reference, window, held⟩ := h9 e
    exact ⟨count, coast, estimate, reference, window, hw.elim id (fun n => absurd window n)⟩
  · obtain ⟨known, count, coast, window, held, rest⟩ := h10 e
    exact ⟨known, count, coast, window, hw.elim id (fun n => absurd window n), rest⟩

theorem MarkerUnit.inOrder_pulse (h : m.inOrder) (v : Option Time) (known : v ≠ none → m.detected ≠ none) :
    ({ m with pulse := v } : MarkerUnit).inOrder := by
  obtain ⟨h1, h2, h3, h4, h5, h6, h7, h8, h9⟩ := h
  exact ⟨h1, h2, h3, h4, h5, h6, h7, known, h9⟩

/-- An edge that ends a level of a unit that measures its polarity (R6, R7). -/
theorem MarkerUnit.inOrder_levelEnd (h : m.inOrder) (measuring : m.measuring = true) (ended : Level) (now : Time) :
    (m.levelEnd ended now).inOrder := by
  have measured (x : Measurement) : ({ m with measurement := x } : MarkerUnit).inOrder := h
  unfold MarkerUnit.levelEnd
  split
  · exact measured _
  · split
    · simp only
      split
      · obtain ⟨h1, h2, h3, h4, h5, h6, h7, h8, h9, h10, h11, h12, h13⟩ := h
        simp only [MarkerUnit.measuring, Bool.and_eq_true, decide_eq_true_eq] at measuring
        obtain ⟨⟨mode, state⟩, -⟩ := measuring
        obtain ⟨count, coast, estimate, reference, window, held⟩ := h9 state
        obtain ⟨n1, n2, n3⟩ := MarkerState.acquiring_ne
        exact ⟨h1, h2, h3, h4, h5, fun e => absurd (mode.symm.trans e) (by decide), fun e => absurd (mode.symm.trans e) (by decide),
          fun e => absurd rfl e, MarkerState.differ n1,
          fun _ => ⟨by simp [MarkerUnit.decide], Nat.zero_le _, coast, window, held, fun _ => rfl, fun e => absurd rfl e⟩,
          fun e => e.elim (MarkerState.differ n2) (MarkerState.differ n3), MarkerState.differ n2,
          MarkerState.differ n3⟩
      · exact measured _
    · exact measured _

end

theorem MarkerUnit.inOrder_reset : MarkerUnit.reset.inOrder :=
  MarkerUnit.inOrder_toNoSignal (m := MarkerUnit.reset) (by
    simp [MarkerSettings.inRange, MarkerUnit.reset, MarkerSettings.default])

end Sys2Proof.Machine

/-!
PROOF. `Acts p`: p is kept by every write (`Writes p`) and by the few acts that change an active set, the index, a map
or a region; then p is kept by every outcome of every command (`Acts.stepped`).
-/

namespace Sys2Proof.Machine

/-- The property p is kept by the register writes and by the acts that are more than such writes, each with the checks
that the model makes before it. -/
structure Acts (p : State → Prop) : Prop extends Writes p where
  turn : ∀ {s} t state selected prevMarker, p s →
    p (s.putTrack t { s.track t with state := state, selected := selected, prevMarker := prevMarker })
  drain : ∀ {s} t seq short, p s → p (claim t seq (SweepRecord.drain short) s)
  removeRecord : ∀ {s} t r, r ∈ s.records t → p s → p (removeRecord t r s)
  activate : ∀ {s} t a, (s.track t).pendingSet = some a → p s → p (activateSet t a s)
  commitNow : ∀ {s} t, ((s.track t).staged.structurallyDiffers (s.track t).active = true →
    (s.track t).state.bound = false) → (s.track t).staged.limitsHold = true → p s → p (commitNow t s)
  openPlaced : ∀ {s} t ev c, (s.track t).spent = false → placementScan s t = .found c → incompleteCount s t < 2 →
    p s → p (openSweep t ev c (placeAt t c s))
  applyItem : ∀ {s} t l item, (s.track t).state.bound = false → itemFault s t l item = none → p s →
    p (applyItem t l item s)
  setKept : ∀ {s} t v x, x ∈ s.records t → x.kept = !v → (v = true → keptCount s t < 32) → p s → p (setKept t v x s)
  clearTrack : ∀ {s} t, p s → p (clearTrack t s)
  freshStart : ∀ {s} t base k coasted,
    ¬ (k < 2 ∨ 1024 < k ∨ 16383 < base ∨ Config.averagerWords < base + 2 * (s.track t).active.length) →
    regionTaken s t base (s.track t).active.length = false → p s →
    p (freshStart t { base := base, length := (s.track t).active.length } k coasted s)

/-- The property p is kept by the register writes and by each whole act of a track unit, an index or an averager that is
more than such writes. -/
structure Moves (p : State → Prop) : Prop extends Writes p where
  takeEvent : ∀ {s} ev t, p s → p (takeEvent ev t s)
  takeLoss : ∀ {s} u t, p s → p (takeLoss u t s)
  takeWord : ∀ {s} t word parity, p s → p (takeWord t word parity s)
  commit : ∀ {s} t, ((s.track t).staged.structurallyDiffers (s.track t).active = true →
    (s.track t).state.bound = false) → (s.track t).staged.limitsHold = true → p s → p (commit t s)
  armTrack : ∀ {s} t count, (s.track t).state.bound = false → count ≤ 65535 → p s → p (armTrack t count s)
  stopTrack : ∀ {s} t, p s → p (stopTrack t s)
  abortTrack : ∀ {s} t, p s → p (abortTrack t s)
  clearTrack : ∀ {s} t, p s → p (clearTrack t s)
  applyItem : ∀ {s} t l item, (s.track t).state.bound = false → itemFault s t l item = none → p s →
    p (applyItem t l item s)
  setKept : ∀ {s} t v x, x ∈ s.records t → x.kept = !v → (v = true → keptCount s t < 32) → p s → p (setKept t v x s)
  drop : ∀ {s} t r, r ∈ s.records t → r.incomplete = false → p s → p (retire t r s)
  freshStart : ∀ {s} t base k coasted,
    ¬ (k < 2 ∨ 1024 < k ∨ 16383 < base ∨ Config.averagerWords < base + 2 * (s.track t).active.length) →
    regionTaken s t base (s.track t).active.length = false → p s →
    p (freshStart t { base := base, length := (s.track t).active.length } k coasted s)
  resetPart : ∀ {s}, p s → p (resetPart s)

/-! ## The two preparations of a sweep start -/

/-- The pending set, when there is one, becomes active (R28). -/
def activatePending (t : Track) (s : State) : State :=
  match (s.track t).pendingSet with
  | some a => activateSet t a s
  | none => s

/-- The sweep offset is taken (R35). -/
def takeOffset (t : Track) (s : State) : State :=
  s.putTrack t { s.track t with offsetInUse := offsetUnder (s.track t).active (s.track t).offsetInUse }

theorem continueStart_eq (t : Track) (ev : MarkerEvent) (s : State) :
    continueStart t ev s =
      if ((takeOffset t (activatePending t s)).track t).spent then
        haltTrack t .sequenceExhausted (takeOffset t (activatePending t s))
      else
        match placementScan (takeOffset t (activatePending t s)) t with
        | .mapHole => haltTrack t .mapHole (takeOffset t (activatePending t s))
        | .noRoom => haltTrack t .noRoom (takeOffset t (activatePending t s))
        | .found c => openSweep t ev c (placeAt t c (takeOffset t (activatePending t s))) := rfl

/-- The writes of a load item, before the sweep on its page is retired (R73, R74). -/
def writeItem (t : Track) (l : Nat) (item : LoadItem) (s : State) : State :=
  match item with
  | .unmap => applyUnmap t l s
  | .map page hp => applyMap t l page hp s

theorem applyItem_eq (t : Track) (l : Nat) (item : LoadItem) (s : State) :
    applyItem t l item s =
      match occupant (writeItem t l item s) t l with
      | some r => retire t r (writeItem t l item s)
      | none => writeItem t l item s := rfl

section Kept
variable {p : State → Prop} (h : Writes p) {s : State}

/-! ### Track units -/

include h

omit h in
/-- The binding of a track to a marker unit has no limit. -/
theorem TrackUnit.Tame.binding (u : TrackUnit) (sel : Option MarkerId) (prev : Option Time) :
    u.Tame { u with selected := sel, prevMarker := prev } :=
  .of_eq rfl rfl rfl rfl rfl rfl (Nat.le_refl _) rfl rfl rfl

theorem Writes.postStopped (t : Track) (reason : StopReason) (k : p s) : p (postStopped t reason s) := h.post _ _ k

theorem Writes.putSchedule (t : Track) (sch : Option Schedule) (k : p s) : p (putSchedule t sch s) :=
  h.putTrack t _ (.of_eq rfl rfl rfl rfl rfl rfl (Nat.le_refl _) rfl rfl rfl) k

theorem Writes.stopLane (t : Track) (k : p s) : p (stopLane t s) := h.putSchedule t _ (h.putLane t _ k)

/-! ### Strobes and positions -/

omit h in
theorem TrackUnit.tame_windowMean (mean : Int) (u : TrackUnit) : u.Tame (u.windowMean mean) := by
  have steered (x : Int) : -8192 ≤ steer u.active u.offsetInUse x ∧ steer u.active u.offsetInUse x ≤ 8191 :=
    clamp_within (by decide) _
  unfold TrackUnit.windowMean
  split
  · exact .binding u u.selected u.prevMarker
  · exact .binding u u.selected u.prevMarker
  · split
    · exact ⟨rfl, rfl, rfl, fun ⟨h1, h2, h3, _⟩ => ⟨h1, h2, h3, OffsetMode.interval_pos _⟩,
        fun ⟨h1, h2, h3, h4, _⟩ => ⟨h1, h2, h3, h4, steered _⟩, rfl⟩
    · next more =>
      exact .of_counts rfl rfl rfl rfl (.inl rfl) rfl fun ⟨h1, h2, h3, _⟩ => ⟨h1, h2, h3, by simp only; omega⟩
  · split
    · exact ⟨rfl, rfl, rfl, id, fun ⟨h1, h2, h3, h4, _⟩ => ⟨h1, h2, h3, h4, steered _⟩, rfl⟩
    · exact .binding u u.selected u.prevMarker

theorem Writes.closeBaseline (t : Track) (pos : Nat) (k : p s) : p (closeBaseline t pos s) := by
  unfold Machine.closeBaseline
  simp only
  split
  · split
    · exact h.putLane t _ k
    · exact h.putTrack t _ (TrackUnit.tame_windowMean _ _) (h.putLane t _ k)
  · exact k

theorem Writes.losePosition (t : Track) (pos : Nat) (k : p s) : p (losePosition t pos s) :=
  h.closeBaseline t pos (h.loseOne t pos k)

theorem Writes.issueStrobe (t : Track) (pos : Nat) (k : p s) : p (issueStrobe t pos s) := by
  unfold Machine.issueStrobe
  refine h.putLane t _ ?_
  split
  · exact h.losePosition t _ k
  · exact k

theorem Writes.issueCatchUp (t : Track) (k : p s) : p (issueCatchUp t s) := by
  unfold Machine.issueCatchUp
  split
  · exact k
  · split
    · exact h.issueStrobe t _ (h.putSchedule t _ k)
    · exact k

theorem Writes.makeSchedule (t : Track) (t0 : Time) (estimate : Nat) (k : p s) : p (makeSchedule t t0 estimate s) :=
  h.issueCatchUp t (h.putSchedule t _ k)

theorem Writes.losePositions (t : Track) (ps : List Nat) (k : p s) : p (losePositions t ps s) :=
  kept_foldl (fun s pos => Machine.losePosition t pos s) (fun pos => h.losePosition t pos) ps k

theorem Writes.endCatchUp (t : Track) (sch : Schedule) (k : p s) : p (endCatchUp t sch s) := by
  unfold Machine.endCatchUp
  split
  · cases (s.lane t).flag with
    | none => exact h.losePositions t _ k
    | some old => exact h.losePositions t _ (h.putLane t _ (h.losePosition t old k))
  · exact k

theorem Writes.strobe (t : Track) (k : p s) : p (strobe t s) := by
  unfold Machine.strobe issueRegular
  split
  · exact k
  · exact h.issueStrobe t _ (h.putSchedule t _ (h.endCatchUp t _ k))

theorem Writes.stageValue (t : Track) (seq pos : Nat) (v : Int) (k : p s) : p (stageValue t seq pos v s) := by
  unfold Machine.stageValue
  split
  · next room =>
    refine h.putTrack t _ (.of_counts rfl rfl rfl rfl (.inl rfl) rfl fun ⟨_, h2⟩ => ⟨?_, h2⟩) k
    simp only [List.length_append, List.length_cons, List.length_nil]
    exact room
  · exact h.loseOne t pos k

theorem Writes.addBaseline (t : Track) (pos : Nat) (v : Int) (k : p s) : p (addBaseline t pos v s) := by
  rw [addBaseline_eq]
  split
  · exact h.putLane t _ k
  · exact k

theorem Writes.acceptWord (t : Track) (r : SweepRecord) (pos : Nat) (raw : Int) (k : p s) :
    p (acceptWord t r pos raw s) := by
  refine h.closeBaseline t pos (h.stageValue t _ _ _ (h.averagerAdd t _ _ (h.addBaseline t _ _ ?_)))
  split
  · exact k
  · exact h.claim t _ (fun r => ⟨rfl, rfl, rfl, rfl, id, Iff.rfl⟩) k

theorem Writes.takeLock (unit : MarkerId) (t : Track) (k : p s) : p (takeLock unit t s) := by
  unfold Machine.takeLock
  simp only
  split
  · exact h.putTrack t _ (.binding _ _ _) k
  · exact k

theorem Writes.reselect (t : Track) (k : p s) : p (reselect t s) := by
  unfold Machine.reselect
  split
  · exact h.putTrack t _ (.binding _ _ _) k
  · exact k

omit h in
theorem NoticeUnit.fits_relevel (n : NoticeUnit) (src : Source) {level : Nat} (high : level ≤ 7) (fit : n.fits) :
    (n.relevel src level).fits := by
  obtain ⟨h1, h2, h3, h4⟩ := fit
  by_cases same : n.level src = level
  · rw [NoticeUnit.relevel_of_same same]; exact ⟨h1, h2, h3, h4⟩
  have levels (x : Source) : (n.takeOut src level).level x ≤ 7 := by
    by_cases e : x = src
    · rw [e, NoticeUnit.takeOut_level_same]; exact high
    · rw [NoticeUnit.takeOut_level_other e]; exact h3 x
  by_cases zero : level = 0
  · subst zero
    rw [NoticeUnit.relevel_zero same]
    exact ⟨h1, h2, levels, h4.sublist (List.filter_sublist.map _)⟩
  · rw [NoticeUnit.relevel_of_on same zero]
    exact ⟨h1, h2, levels, ((NoticeUnit.putBack_perm n src level).map _).nodup_iff.mpr h4⟩

omit h in
theorem Readout.fits_addRead {q : Readout} {x : Read} (room : q.queue.length + q.ended.length < 4)
    (fetch : x.kind.isMean = false → x.firstPos < 32 * x.nextFetch + 32) (fit : q.fits) :
    Readout.fits { q with queue := q.queue ++ [x] } := by
  refine ⟨?_, fun y hy => ?_⟩
  · simp only [List.length_append, List.length_cons, List.length_nil]; omega
  · rcases List.mem_append.mp hy with e | e
    · exact fit.2 y e
    · rw [List.mem_singleton.mp e]; exact fetch

omit h in
/-- What READ_SWEEP accepts: fewer than four reads, and a read from the block of its first position on. -/
theorem admitSweep_ok {tag : Nat} {t : Track} {seq first count : Nat} {o : ByteOrder} {x : Read}
    (e : admitSweep s tag t seq first count o = .ok x) :
    readLoad s < 4 ∧ (x.kind.isMean = false → x.firstPos < 32 * x.nextFetch + 32) := by
  unfold admitSweep at e
  split at e
  · cases e
  · next room =>
    refine ⟨by simpa [Config.maxReads] using room, ?_⟩
    split at e
    · cases e
    · split at e
      · cases e
      · split at e
        · cases e
        · split at e
          · cases e
          · injection e with e
            subst e
            intro _
            simp only [sweepRead]
            omega

omit h in
theorem admitMean_ok {tag : Nat} {t : Track} {o : ByteOrder} {x : Read} (e : admitMean s tag t o = .ok x) :
    readLoad s < 4 ∧ x.kind = .mean := by
  unfold admitMean at e
  split at e
  · cases e
  · next room =>
    refine ⟨by simpa [Config.maxReads] using room, ?_⟩
    split at e
    · cases e
    · split at e
      · cases e
      · split at e
        · injection e with e
          subst e
          rfl
        · cases e

theorem Writes.addRead {x : Read} (room : readLoad s < 4)
    (fetch : x.kind.isMean = false → x.firstPos < 32 * x.nextFetch + 32) (k : p s) : p (addRead x s) :=
  h.setReadout _ (Readout.fits_addRead room fetch) k

end Kept

section Kept
variable {p : State → Prop} (h : Acts p) {s : State}
include h

theorem Acts.unbind (t : Track) (st : TrackState) (k : p s) : p (unbind t st s) := h.turn t _ _ _ k

theorem Acts.setTrackState (t : Track) (st : TrackState) (k : p s) : p (setTrackState t st s) :=
  h.turn t _ _ _ k

theorem Acts.goIdle (t : Track) (reason : StopReason) (k : p s) : p (goIdle t reason s) :=
  h.postStopped t _ (h.unbind t _ k)

theorem Acts.reachDraining (t : Track) (r : SweepRecord) (short : Bool) (k : p s) : p (reachDraining t r short s) := by
  refine h.averagerSweepEnd t _ _ (h.putTrack t _ ?_ (h.drain t _ short (h.stopLane t k)))
  refine .of_counts rfl rfl rfl rfl (.inl rfl) rfl (fun ⟨h1, _, h3, h4⟩ => ⟨h1, ?_, h3, h4⟩)
  exact Nat.min_le_left _ _

theorem Acts.afterCapture (t : Track) (k : p s) : p (afterCapture t s) := by
  unfold Machine.afterCapture
  split
  · exact h.goIdle t _ k
  · split
    · exact h.setTrackState t _ k
    · exact h.goIdle t _ k
    all_goals exact k

theorem Acts.endCapture (t : Track) (k : p s) : p (endCapture t s) := by
  unfold Machine.endCapture
  split
  · exact k
  · exact h.afterCapture t (h.reachDraining t _ _ k)

theorem Acts.afterResolution (t : Track) (pos : Nat) (k : p s) : p (afterResolution t pos s) := by
  unfold Machine.afterResolution
  split
  · exact h.endCapture t k
  · exact h.issueCatchUp t k

theorem Acts.resolveWord (t : Track) (pos : Nat) (word : BitVec 16) (parity : Bool) (k : p s) :
    p (resolveWord t pos word parity s) := by
  have flagged := h.putLane t { s.lane t with flag := none } k
  unfold Machine.resolveWord
  simp only
  split
  · exact flagged
  · refine h.afterResolution t pos ?_
    split
    · exact h.acceptWord t _ pos _ flagged
    · exact h.losePosition t pos flagged

theorem Acts.takeWord (t : Track) (word : BitVec 16) (parity : Bool) (k : p s) : p (takeWord t word parity s) := by
  unfold Machine.takeWord
  split
  · exact k
  · exact h.resolveWord t _ _ _ k

theorem Acts.haltTrack (t : Track) (reason : HaltReason) (k : p s) : p (haltTrack t reason s) :=
  h.postStopped t _ (h.unbind t _ k)

omit h in
theorem fillingRecord_mem {t : Track} {r : SweepRecord} (e : fillingRecord s t = some r) : r ∈ s.records t :=
  List.mem_of_find?_eq_some e

theorem Acts.removeFilling (t : Track) (k : p s) : p (removeFilling t s) := by
  unfold Machine.removeFilling
  split
  · exact k
  · next r hr =>
    have mem : r ∈ (dropStaged t r.seq (Machine.stopLane t s)).records t := by
      have := fillingRecord_mem hr
      simpa [State.records] using this
    exact h.averagerSweepRemoved t _ (h.removeRecord t r mem (h.dropStaged t _ (h.stopLane t k)))

theorem Acts.retire (t : Track) {r : SweepRecord} (mem : r ∈ s.records t) (k : p s) : p (retire t r s) := by
  unfold Machine.retire overtakeSweep
  simp only
  refine h.endReads _ _ ?_
  split
  · exact h.dropStaged t _ (h.removeRecord t r mem k)
  · exact h.removeRecord t r mem k

/-! ### Sweep starts and marker events -/

omit h in
theorem activateSet_frame_start (t : Track) (a : ParamSet) (s : State) : incompleteCount (activateSet t a s) t =
    incompleteCount s t := by
  simp [incompleteCount, State.records]

omit h in
theorem offsetUnder_range {a : ParamSet} (range : a.inRange) {z : Int} (low : -8192 ≤ z) (high : z ≤ 8191) :
    -8192 ≤ offsetUnder a z ∧ offsetUnder a z ≤ 8191 := by
  obtain ⟨-, -, -, -, -, -, -, -, -, l, u, -⟩ := range
  unfold offsetUnder
  split
  · exact ⟨l, u⟩
  all_goals exact ⟨low, high⟩

theorem Acts.continueStart (t : Track) (ev : MarkerEvent) (few : incompleteCount s t < 2) (k : p s) :
    p (continueStart t ev s) := by
  have active : p (activatePending t s) ∧ incompleteCount (activatePending t s) t < 2 := by
    unfold activatePending
    split
    · next a ha => exact ⟨h.activate t a ha k, by rw [activateSet_frame_start]; exact few⟩
    · exact ⟨k, few⟩
  rw [continueStart_eq]
  have ready : p (takeOffset t (activatePending t s)) := by
    refine h.putTrack t _ ⟨rfl, rfl, rfl, id, fun ⟨h1, h2, h3, h4, h5, h6⟩ => ⟨h1, h2, h3, h4, ?_⟩, rfl⟩ active.1
    exact offsetUnder_range h2 h5 h6
  split
  · exact h.haltTrack t _ ready
  · next unspent =>
    split
    · exact h.haltTrack t _ ready
    · exact h.haltTrack t _ ready
    · next c found => exact h.openPlaced t ev c (by simpa using unspent) found active.2 ready

theorem Acts.startOrHold (t : Track) (ev : MarkerEvent) (k : p s) : p (startOrHold t ev s) := by
  unfold Machine.startOrHold holdBack
  split
  · split
    · exact k
    · exact h.setTrackState t _ k
    all_goals exact k
  · exact h.continueStart t ev (by omega) k

theorem Acts.startSweep (t : Track) (ev : MarkerEvent) (k : p s) : p (startSweep t ev s) := by
  unfold Machine.startSweep
  split
  · exact h.startOrHold t ev k
  · have ended := h.reachDraining t ‹SweepRecord› true k
    simp only
    split
    · exact h.goIdle t _ ended
    · exact h.startOrHold t ev ended

theorem Acts.endStopping (t : Track) (k : p s) : p (endStopping t s) := by
  have idle {x : State} (kx : p x) :
      p (if (x.track t).runComplete then Machine.goIdle t .countDone x else Machine.goIdle t .stopped x) := by
    split
    · exact h.goIdle t _ kx
    · exact h.goIdle t _ kx
  unfold Machine.endStopping
  cases fillingRecord s t with
  | none => exact idle k
  | some r => exact idle (h.reachDraining t r _ k)

theorem Acts.takeEvent (ev : MarkerEvent) (t : Track) (k : p s) : p (takeEvent ev t s) := by
  unfold Machine.takeEvent setPrevMarker
  simp only
  split
  · refine h.putTrack t _ (.binding _ _ _) ?_
    split
    · split
      · exact k
      · exact h.startSweep t ev k
    · exact h.startSweep t ev k
    · exact h.startSweep t ev k
    · exact h.endStopping t k
    all_goals exact k
  · exact k

theorem Acts.takeLoss (unit : MarkerId) (t : Track) (k : p s) : p (takeLoss unit t s) := by
  unfold Machine.takeLoss
  simp only
  split
  · split
    · exact h.reselect t (h.setTrackState t _ (h.removeFilling t k))
    · exact h.reselect t (h.setTrackState t _ k)
    · exact h.goIdle t _ (h.removeFilling t k)
    · exact h.reselect t k
    all_goals exact k
  · exact k

/-! ### Requests to a track -/

omit h in
theorem ParamSet.joined_of_limitsHold {x : ParamSet} (e : x.limitsHold = true) : x.joined := by
  simp only [ParamSet.limitsHold, Bool.and_eq_true, decide_eq_true_eq] at e
  exact ⟨e.1.1, e.1.2, e.2⟩

omit h in
theorem TrackState.bound_of_capturing {st : TrackState} (c : st.capturing = true) : st.bound = true := by
  revert c
  cases st <;> simp [TrackState.capturing, TrackState.bound]

theorem Acts.commit (t : Track) (struct : (s.track t).staged.structurallyDiffers (s.track t).active = true →
    (s.track t).state.bound = false) (limits : (s.track t).staged.limitsHold = true) (k : p s) : p (commit t s) := by
  unfold Machine.commit
  split
  · next capturing =>
    refine h.putTrack t _ ⟨rfl, rfl, rfl, id, fun ⟨h1, h2, h3, _, h5⟩ => ⟨h1, h2, h3, fun x hx => ?_, h5⟩, rfl⟩ k
    obtain rfl : (s.track t).staged = x := by simpa using hx
    have same : ¬ (s.track t).staged.structurallyDiffers (s.track t).active = true := fun d => by
      rw [TrackState.bound_of_capturing capturing] at struct
      exact absurd (struct d) (by decide)
    simp only [ParamSet.structurallyDiffers, Bool.or_eq_true, decide_eq_true_eq, not_or, not_not, ne_eq] at same
    exact ⟨h1, ParamSet.joined_of_limitsHold limits, same.1.1, same.1.2, same.2⟩
  · exact h.commitNow t struct limits k

theorem Acts.armTrack (t : Track) {count : Nat} (small : count ≤ 65535) (k : p s) : p (armTrack t count s) := by
  have armed := h.putTrack t
    { s.track t with
      armCount := count, sweepsDone := 0, prevMarker := none,
      selected := chooseUnit s (s.track t).active.markerSelect, state := .armed }
    (by
      rw [State.track_putTrack_same]
      exact .of_counts rfl rfl rfl rfl (.inl rfl) rfl fun ⟨h1, _, _, h4⟩ => ⟨h1, Nat.zero_le _, small, h4⟩)
    (h.turn t .armed (chooseUnit s (s.track t).active.markerSelect) none k)
  rw [putTrack_putTrack] at armed
  exact armed

theorem Acts.stopTrack (t : Track) (k : p s) : p (stopTrack t s) := by
  unfold Machine.stopTrack
  split
  · exact h.setTrackState t _ k
  · exact h.goIdle t _ k
  · exact h.goIdle t _ k
  all_goals exact k

theorem Acts.abortTrack (t : Track) (k : p s) : p (abortTrack t s) := by
  unfold Machine.abortTrack
  simp only
  split
  · exact h.removeFilling t k
  · exact h.goIdle t _ (h.removeFilling t k)

theorem Acts.resetPart (k : p s) : p (resetPart s) := by
  have markers : p ((s.setMarkerA s.markerA.resetPart).setMarkerB s.markerB.resetPart) :=
    h.putMarker .B _ MarkerUnit.inOrder_resetPart (h.putMarker .A _ MarkerUnit.inOrder_resetPart k)
  have track {x : State} (t : Track) (kx : p x) : p (resetPartTrack t x) := by
    have removed := h.mapBursts (fun b => if !b.isRead && b.track = t && !drains (Machine.removeFilling t x) t b.seq then
      { b with attached := false } else b) (h.removeFilling t kx)
    have reset := h.putTrack t ((detachWrites t (Machine.removeFilling t x)).track t).resetPart
      (by
        rw [State.track_putTrack_same]
        exact .of_counts rfl rfl rfl rfl (.inr rfl) rfl
          fun ⟨h1, _⟩ => ⟨h1, Nat.zero_le _, Nat.zero_le _, OffsetMode.interval_pos _⟩)
      (h.turn t .idle none none removed)
    rw [putTrack_putTrack] at reset
    exact h.putLane t _ reset
  have tracks := kept_foldl (p := p) (fun s t => resetPartTrack t s) (fun t => track t) allTracks markers
  have averagers := kept_foldl (p := p) (fun s t => Machine.resetAverager t s) (fun t => h.resetAverager t) allTracks
    (h.endReads (fun _ => true) .reset tracks)
  unfold Machine.resetPart
  simp only
  generalize allTracks.foldl (fun s t => Machine.resetAverager t s) _ = x at averagers ⊢
  exact h.setNotices _ (fun ⟨h1, h2, h3, _⟩ => ⟨h1, h2, h3, List.nodup_nil⟩) (h.setCheck _ averagers)

/-- The whole acts, from their parts. -/
theorem Acts.moves : Moves p where
  toWrites := h.toWrites
  takeEvent ev t k := h.takeEvent ev t k
  takeLoss u t k := h.takeLoss u t k
  takeWord t word parity k := h.takeWord t word parity k
  commit t struct limits k := h.commit t struct limits k
  armTrack t _ _ small k := h.armTrack t small k
  stopTrack t k := h.stopTrack t k
  abortTrack t k := h.abortTrack t k
  clearTrack t k := h.clearTrack t k
  applyItem := h.applyItem
  setKept := h.setKept
  drop t _ mem _ k := h.retire t mem k
  freshStart := h.freshStart
  resetPart k := h.resetPart k

end Kept

/-! ## What is made of whole acts -/

section Kept
variable {p : State → Prop} (h : Moves p) {s : State}
include h

theorem Moves.emit (order : List Track) (ev : MarkerEvent) (k : p s) : p (emit order ev s) :=
  kept_foldl _ (fun t => h.takeEvent ev t) _ k

theorem Moves.announceLoss (order : List Track) (u : MarkerId) (k : p s) : p (announceLoss order u s) :=
  kept_foldl _ (fun t => h.takeLoss u t) _ k

theorem Moves.announceLock (order : List Track) (u : MarkerId) (k : p s) : p (announceLock order u s) :=
  kept_foldl _ (fun t => h.takeLock u t) _ k

/-! ### Marker units -/

theorem Moves.enterLocked (u : MarkerId) (order : List Track) (x : Time) {period : Nat} (low : 40000 ≤ period)
    (high : period ≤ 400000000) (k : p s) : p (enterLocked u order x period s) :=
  h.emit _ _ (h.post _ _ (h.announceLock _ _
    (h.putMarker u _ (fun m => MarkerUnit.inOrder_enterLocked m x low high) k)))

theorem Moves.acquire (u : MarkerId) (order : List Track) (x : Time) (state : (s.marker u).state = .acquiring)
    (known : (s.marker u).detected ≠ none) (k : p s) : p (acquire u order x s) := by
  have restart {e c : Nat} (few : c ≤ 3) (fits : (s.marker u).inOrder → c ≠ 0 → 40000 ≤ e ∧ e ≤ 400000000) :
      p (s.putMarker u { s.marker u with state := .acquiring, reference := some x, estimate := e, count := c }) :=
    h.putMarker u _ (fun m => MarkerUnit.inOrder_acquiring m (.inr state) known x few (fits m)) k
  rw [← state] at restart
  have counted (m : (s.marker u).inOrder) := m.2.2.2.2.2.2.2.2.2.1 state
  unfold Machine.acquire
  simp only
  split
  · have first (m : (s.marker u).inOrder) := MarkerUnit.inOrder_acquiring m (.inr state) known x (counted m).2.1
      (counted m).2.2.2.2.2.2
    rw [← state] at first
    exact h.putMarker u _ first k
  · next ref _ =>
    split
    · exact restart (Nat.zero_le _) (fun _ e => absurd rfl e)
    · next inside =>
      simp only [Bool.or_eq_true, decide_eq_true_eq, not_or, Nat.not_lt] at inside
      have inside : 40000 ≤ elapsed ref x ∧ elapsed ref x ≤ 400000000 := inside
      split
      · exact restart (by decide) (fun _ _ => inside)
      · split
        · exact h.enterLocked u order x inside.1 inside.2 k
        · next more =>
          have once (m : (s.marker u).inOrder) : ({ s.marker u with
              state := .acquiring, reference := some x, estimate := elapsed ref x,
              count := (s.marker u).count + 1 } : MarkerUnit).inOrder := by
            refine MarkerUnit.inOrder_acquiring m (.inr state) known x ?_ (fun _ => inside)
            have := (counted m).2.1
            have : (s.marker u).count + 1 ≠ 4 := more
            omega
          rw [← state] at once
          exact h.putMarker u _ once k

theorem Moves.closeEmpty (u : MarkerId) (order : List Track) (w : Window) (k : p s) : p (closeEmpty u order w s) := by
  have coast {c : Nat} (state : (s.marker u).state = .locked ∨ (s.marker u).state = .coasting) (low : 1 ≤ c)
      (high : (s.marker u).inOrder → c ≤ (s.marker u).settings.coastLimit) : p (coastOn u order c w.closeTime s) :=
    h.emit _ _ (h.putMarker u _ (fun m =>
      MarkerUnit.inOrder_marked (MarkerUnit.inOrder_coast m state low (high m)) (.inr rfl) _
        (MarkerUnit.estimate_of_lock m state).1 (MarkerUnit.estimate_of_lock m state).2) k)
  unfold Machine.closeEmpty
  simp only
  split
  · next state => exact coast (.inl state) (Nat.le_refl _) (fun m => (MarkerUnit.inOrder_settings m).2.2.2.1)
  · next state =>
    split
    · next more => exact coast (.inr state) (by omega) (fun _ => more)
    · exact h.post _ _ (h.announceLoss _ _ (h.putMarker u _ (fun m =>
        MarkerUnit.inOrder_toNoSignal (MarkerUnit.inOrder_settings m)) k))
  · exact k
  · exact k

omit h in
theorem Window.judge_inside {w : Window} {x now : Time} (e : w.judge x now = .inside) :
    w.openAfter ≤ elapsed w.start x ∧ elapsed w.start x ≤ w.closeAfter := by
  unfold Window.judge at e
  split at e
  · cases e
  · split at e
    · cases e
    · split at e
      · exact ⟨by omega, by omega⟩
      · cases e

theorem Moves.windowPulse (u : MarkerId) (order : List Track) (x : Time) (k : p s) : p (windowPulse u order x s) := by
  unfold Machine.windowPulse
  simp only
  split
  · exact k
  · next w hw =>
    split
    · exact h.putMarker u _ (MarkerUnit.inOrder_early _) k
    · next inside =>
      split
      · next state =>
        refine h.emit _ _ (h.putMarker u _ (fun m => ?_) k)
        have bounds := MarkerUnit.window_of_lock m (.inl state) hw
        have at' := Window.judge_inside inside
        exact MarkerUnit.inOrder_marked m (.inl state) x (by omega) (by omega)
      · next state =>
        refine h.emit _ _ (h.putMarker u _ (fun m => ?_) k)
        have range := MarkerUnit.estimate_of_lock m (.inr state)
        exact MarkerUnit.inOrder_marked (MarkerUnit.inOrder_relock m (.inr state)) (.inl rfl) x range.1 range.2
      · exact k
      · exact k
    · exact k

theorem Moves.qualifiedPulse (u : MarkerId) (order : List Track) (x : Time) (known : (s.marker u).detected ≠ none)
    (k : p s) : p (qualifiedPulse u order x s) := by
  unfold Machine.qualifiedPulse
  simp only
  split
  · next state =>
    exact h.putMarker u _ (fun m => MarkerUnit.inOrder_acquiring m (.inl state) known x (Nat.zero_le 3)
      (fun e => absurd rfl e)) k
  · next state => exact h.acquire u order x state known k
  · exact h.windowPulse u order x k
  · exact h.windowPulse u order x k

theorem Moves.trailingEdge (u : MarkerId) (e : Edge) (order : List Track) (k : p s) :
    p (trailingEdge u e order s) := by
  unfold Machine.trailingEdge endPulse
  split
  · exact k
  · split
    · next ends =>
      have known : (s.marker u).detected ≠ none := fun no => by
        simp [MarkerUnit.endsPulse, no] at ends
      have off := h.putMarker u _ (fun m => MarkerUnit.inOrder_pulse m none (fun e => absurd rfl e)) k
      simp only
      split
      · refine h.qualifiedPulse u order _ ?_ off
        rw [State.marker_putMarker_same]
        exact known
      · unfold rejectPulse
        simp only
        split
        · exact off
        · split
          · exact h.closeEmpty u order _ (h.putMarker u _ (fun m =>
              MarkerUnit.inOrder_closeHeld m false (.inl rfl)) off)
          · exact off
    · exact k

theorem Moves.activeEdge (u : MarkerId) (e : Edge) (k : p s) : p (activeEdge u e s) := by
  unfold Machine.activeEdge
  simp only
  split
  · next starts =>
    refine h.putMarker u _ (fun m => MarkerUnit.inOrder_pulse m _ fun _ no => ?_) k
    simp [MarkerUnit.startsPulse, no] at starts
  · exact k

theorem Moves.closeWindow (u : MarkerId) (order : List Track) (k : p s) : p (closeWindow u order s) := by
  unfold Machine.closeWindow
  simp only
  split
  · exact k
  · next hw =>
    split
    · split
      · exact h.putMarker u _ (fun m => MarkerUnit.inOrder_closeHeld m true (.inr (by rw [hw]; simp))) k
      · exact h.closeEmpty u order _ k
    · exact k

theorem Moves.levelEdge (u : MarkerId) (ended : Level) (k : p s) : p (levelEdge u ended s) := by
  unfold Machine.levelEdge
  split
  · next measuring => exact h.putMarker u _ (fun m => MarkerUnit.inOrder_levelEnd m measuring _ _) k
  · exact k

theorem Moves.setMarker (order : List Track) (u : MarkerId) {items : List (Nat × Int)} {x : MarkerSettings}
    (e : (s.marker u).settings.setFields items = some x) (k : p s) : p (setMarker order u x s) := by
  have lost := h.announceLoss order u (h.putMarker u ((s.marker u).configure x) (fun m =>
    MarkerUnit.inOrder_configure (MarkerSettings.inRange_setFields (MarkerUnit.inOrder_settings m) e)) k)
  unfold Machine.setMarker
  simp only
  split
  · exact lost
  · exact h.post _ _ lost

omit h in
theorem offsetOf_some {v z : Int} (e : offsetOf v = some z) : -8192 ≤ z ∧ z ≤ 8191 := by
  unfold offsetOf at e
  split at e
  · simp only [Option.some.injEq] at e; omega
  · cases e

omit h in
theorem lengthOf_some {v : Int} {n : Nat} (e : lengthOf v = some n) : 64 ≤ n ∧ n ≤ 4096 ∧ n % 4 = 0 := by
  unfold lengthOf at e
  split at e
  · next m hm =>
    split at e
    · next four =>
      simp only [Option.some.injEq] at e
      subst e
      exact ⟨(within_some hm).1, (within_some hm).2, four⟩
    · cases e
  · cases e

omit h in
/-- A field of STAGE_TRACK that is accepted is in its range (Table 2.1). -/
theorem ParamSet.inRange_setField {x y : ParamSet} {item : Nat × Int} (range : x.inRange)
    (e : x.setField item = some y) : y.inRange := by
  obtain ⟨h1, h2, h3, h4, h5, h6, h7, h8, h9, h10, h11, h12, h13, h14, h15, h16⟩ := range
  unfold ParamSet.setField at e
  split at e <;> try cases e
  all_goals
    obtain ⟨v, hv, rfl⟩ := Option.map_eq_some_iff.mp e
  · exact ⟨h1, h2, h3, h4, h5, h6, h7, h8, h9, h10, h11, h12, h13, h14, h15, h16⟩
  · exact ⟨(within_some hv).2, h2, h3, h4, h5, h6, h7, h8, h9, h10, h11, h12, h13, h14, h15, h16⟩
  · exact ⟨h1, (within_some hv).1, (within_some hv).2, h4, h5, h6, h7, h8, h9, h10, h11, h12, h13, h14, h15, h16⟩
  · obtain ⟨low, high, four⟩ := lengthOf_some hv
    exact ⟨h1, h2, h3, low, high, four, h7, h8, h9, h10, h11, h12, h13, h14, h15, h16⟩
  · exact ⟨h1, h2, h3, h4, h5, h6, (within_some hv).2, h8, h9, h10, h11, h12, h13, h14, h15, h16⟩
  · exact ⟨h1, h2, h3, h4, h5, h6, h7, (within_some hv).1, (within_some hv).2, h10, h11, h12, h13, h14, h15, h16⟩
  · exact ⟨h1, h2, h3, h4, h5, h6, h7, h8, h9, h10, h11, h12, h13, h14, h15, h16⟩
  · obtain ⟨low, high⟩ := offsetOf_some hv
    exact ⟨h1, h2, h3, h4, h5, h6, h7, h8, h9, low, high, h12, h13, h14, h15, h16⟩
  · exact ⟨h1, h2, h3, h4, h5, h6, h7, h8, h9, h10, h11, (within_some hv).2, h13, h14, h15, h16⟩
  · exact ⟨h1, h2, h3, h4, h5, h6, h7, h8, h9, h10, h11, h12, (within_some hv).1, (within_some hv).2, h15, h16⟩
  · exact ⟨h1, h2, h3, h4, h5, h6, h7, h8, h9, h10, h11, h12, h13, h14, offsetOf_some hv⟩
  · exact ⟨h1, h2, h3, h4, h5, h6, h7, h8, h9, h10, h11, h12, h13, h14, h15, h16⟩

omit h in
theorem ParamSet.inRange_setFields {x y : ParamSet} {items : List (Nat × Int)} (range : x.inRange)
    (e : x.setFields items = some y) : y.inRange := by
  induction items generalizing x with
  | nil => cases e; exact range
  | cons item rest ih =>
    unfold ParamSet.setFields at e
    split at e
    · next hz => exact ih (ParamSet.inRange_setField range hz) e
    · cases e

omit h in
/-- A load item touches no track unit's state. -/
theorem applyItem_state (t : Track) (l : Nat) (item : LoadItem) :
    ((applyItem t l item s).track t).state = (s.track t).state := by
  have written : (writeItem t l item s).track t = s.track t := by
    cases item <;> unfold writeItem applyUnmap applyMap freePage <;> (repeat' split) <;> rfl
  rw [applyItem_eq, ← written]
  split
  · unfold Machine.retire overtakeSweep dropStaged
    simp only
    split <;> simp [State.track, State.putTrack, TrackUnit.dropSweep]
  · rfl

theorem Moves.applyItems (t : Track) (l : Nat) (items : List LoadItem)
    (bound : (s.track t).state.bound = false) (k : p s) : p (applyItems t l items s).2.2 := by
  induction items generalizing l s with
  | nil => exact k
  | cons item rest ih =>
    unfold Machine.applyItems
    split
    · exact k
    · next passed =>
      exact ih (l + 1) (by rw [applyItem_state]; exact bound) (h.applyItem t l item bound passed k)

omit h in
theorem leNat_lt (bs : List Byte) : leNat bs < 256 ^ bs.length := by
  induction bs with
  | nil => simp [leNat]
  | cons b bs ih =>
    have := b.isLt
    simp only [leNat, List.length_cons, Nat.pow_succ]
    omega

omit h in
/-- An arm count is a 16-bit value (Table 12.3). -/
theorem parseRequest_armTrack {r : RawRequest} {n c : Nat} (e : parseRequest r = some (.armTrack n c)) : c ≤ 65535 := by
  unfold parseRequest at e
  split at e
  case h_6 =>
    unfold parseArmTrack at e
    split at e
    · next lo hi _ =>
      simp only [Option.some.injEq, Request.armTrack.injEq] at e
      have := leNat_lt [lo, hi]
      simp only [List.length_cons, List.length_nil] at this
      omega
    · cases e
  case h_40 => cases e
  all_goals
    simp only [parseSetMarker, parseTrack, parseStageTrack, parseLoadMap, parseCheckPage, parsePageOwner, parseTrackSeq,
      parseListSweeps, parseNone, parseSetAutoStandby, parseSetChecking, parseInjectFault, parseReadSweep,
      parseReadMean, parseAbortRead, parseSetAverager, parseSetNoticeLevel, parseSetNoticeThreshold,
      parseClearNotices] at e
    repeat' split at e
    all_goals simp at e

end Kept

/-! ## One command -/

/-- A property kept by these acts, by every write of the link and by a power-on reset. -/
structure Steps (p : State → Prop) : Prop extends Moves p, LinkWrites p where
  reset : ∀ {s} held owed, p s → p (resetValues held owed s)

section Kept
variable {p : State → Prop} (h : Steps p) {s : State}
include h

theorem Steps.event {x : State} (e : Event s x) (k : p s) : p x := by
  cases e with
  | receive sym => exact h.receive sym k
  | activeEdge u e => exact h.activeEdge u e k
  | trailingEdge u e order => exact h.follow (h.trailingEdge u e order k)
  | levelEdge u ended => exact h.follow (h.levelEdge u ended k)
  | closeWindow u order => exact h.follow (h.closeWindow u order k)
  | strobe t => exact h.strobe t k
  | takeWord t word parity => exact h.follow (h.takeWord t word parity k)
  | grant => exact h.settle (h.arbitrate k)
  | endClose b => exact h.settle (h.endClose b k)
  | endOpen b => exact h.settle (h.endOpen b k)
  | transfer => exact h.settle (h.completeTransfer k)
  | endRefresh => exact h.settle (h.endRefresh k)
  | refreshExpiry => exact h.settle (h.refreshExpiry k)
  | endWaking => exact h.settle (h.endWaking k)
  | delayExpiry => exact h.settle (h.delayExpiry k)
  | writeMean t => exact h.writeMean t k
  | buildMeanFrame => exact h.buildMeanFrame k
  | sendNext => exact h.follow (h.sendNext k)

/-- A served request; the arm count it may carry is a 16-bit one. -/
theorem Steps.served {order : List Track} {r : RawRequest} {q : Request} {x : State} (e : Served order r q s x)
    (small : ∀ n c, q = .armTrack n c → c ≤ 65535) (k : p s) : p x := by
  cases e with
  | refused => exact h.addReply _ _ _ _ k
  | told => exact h.addReply _ _ _ _ k
  | setMarker _ _ u _ hx => exact h.follow (h.addReply _ _ _ _ (h.setMarker order u hx k))
  | markerStatus _ u => exact h.addReply _ _ _ _ (h.putMarker u _ (MarkerUnit.inOrder_early _) k)
  | stage _ _ t _ hx =>
    exact h.addReply _ _ _ _ (h.putTrack t _
      ⟨rfl, rfl, rfl, id, fun ⟨h1, h2⟩ => ⟨ParamSet.inRange_setFields h1 hx, h2⟩, rfl⟩ k)
  | commit _ t struct limits => exact h.follow (h.addReply _ _ _ _ (h.commit t struct limits k))
  | updateOffset _ t =>
    exact h.addReply _ _ _ _ (h.putTrack t _
      (.of_eq rfl rfl rfl rfl rfl rfl (Nat.le_refl _) rfl rfl rfl) k)
  | arm n count t bound => exact h.addReply _ _ _ _ (h.armTrack t count bound (small n count rfl) k)
  | stop _ t => exact h.follow (h.addReply _ _ _ _ (h.stopTrack t k))
  | abort _ t => exact h.follow (h.addReply _ _ _ _ (h.abortTrack t k))
  | reset _ t =>
    rw [resetTrack_eq_clearTrack]
    exact h.follow (h.addReply _ _ _ _ (h.clearTrack t k))
  | load _ first items t bound => exact h.follow (h.addReply _ _ _ _ (h.applyItems t first items bound k))
  | keep _ _ t x hf hk hc =>
    exact h.addReply _ _ _ _ (h.setKept t true x (List.mem_of_find?_eq_some hf) hk (fun _ => hc) k)
  | release _ _ t x hf hk =>
    exact h.addReply _ _ _ _ (h.setKept t false x (List.mem_of_find?_eq_some hf) hk (fun e => nomatch e) k)
  | drop _ _ t x hf complete =>
    exact h.follow (h.addReply _ _ _ _ (h.drop t x (List.mem_of_find?_eq_some hf) complete k))
  | standby => exact h.settle (h.setMem_of_eq _ rfl rfl rfl rfl (h.setLink _ k))
  | standbyAgain => exact h.setLink _ k
  | wake => exact h.setMem_of_eq _ rfl rfl rfl rfl (h.setLink _ k)
  | wakeAgain => exact h.setLink _ k
  | wakeHeld => exact h.setMem_of_eq _ rfl rfl rfl rfl (h.setLink _ k)
  | autoStandby _ delay hd =>
    refine h.followAuto (h.addReply _ _ _ _ (h.setMem _ (fun ⟨h1, h2, h3, h4, h5⟩ => ⟨h1, h2, h3, h4, ?_⟩) k))
    cases delay with
    | none => exact h5
    | some d => exact hd d rfl
  | check c => exact h.addReply _ _ _ _ (h.setCheck _ k)
  | readSweep _ _ _ _ _ _ _ x hx =>
    exact h.follow (h.addReply _ _ _ _ (h.addRead (admitSweep_ok hx).1 (admitSweep_ok hx).2 k))
  | readMean _ _ _ _ x hx =>
    exact h.follow (h.addReply _ _ _ _ (h.addRead (admitMean_ok hx).1
      (fun sweep => by rw [(admitMean_ok hx).2] at sweep; cases sweep) k))
  | abortRead => exact h.follow (h.addReply _ _ _ _ (h.endReads _ _ k))
  | averagerOn _ base kk coasted t good free =>
    exact h.follow (h.addReply _ _ _ _ (h.freshStart t base kk _ good free k))
  | averagerOff _ _ _ t => exact h.follow (h.addReply _ _ _ _ (h.disableAverager t _ k))
  | restartAverage _ t => exact h.addReply _ _ _ _ (h.restartBlock t k)
  | noticeLevel _ level src high =>
    exact h.addReply _ _ _ _ (h.setNotices _ (NoticeUnit.fits_relevel _ src high) k)
  | threshold _ low high =>
    exact h.addReply _ _ _ _ (h.setNotices _ (fun ⟨_, _, h3, h4⟩ => ⟨low, high, h3, h4⟩) k)
  | clearNotices sources =>
    exact h.addReply _ _ _ _ (h.setNotices _ (fun ⟨h1, h2, h3, h4⟩ =>
      ⟨h1, h2, h3, h4.sublist (List.filter_sublist.map _)⟩) k)
  | resetPart => exact h.follow (h.addReply _ _ _ _ (h.resetPart k))

/-- What one command can do, to a property of `Steps`. -/
theorem Steps.stepped {x : State} (e : Stepped s x) (k : p s) : p x := by
  cases e with
  | reset held owed => exact h.reset held owed k
  | idle => exact k
  | pass dt => exact h.elapse dt k
  | event dt e => exact h.event e (h.elapse dt k)
  | served dt order r rest q serves served =>
    refine h.served served (fun n c eq => ?_) (h.setLink _ (h.elapse dt k))
    subst eq
    exact parseRequest_armTrack serves.2.2.2.2
  | malformed dt r rest body => exact h.addReply _ _ _ _ (h.setLink _ (h.elapse dt k))

/-- A property of `Steps` that does not speak of the waiting commands is kept by every step. -/
theorem Steps.kept (pending : ∀ s l, p s → p (s.setPending l)) : Kept p :=
  kept_of_stepped pending (fun _ _ k e => h.stepped e k)

end Kept

end Sys2Proof.Machine

/-!
PROOF. Properties that do not speak of track units, indexes, write positions and averagers: from `Writes` to `Acts`.
-/

namespace Sys2Proof.Machine

/-- A map with the same entries but for their keep marks. -/
def sameButKeep (m n : Table MapEntry) : Prop :=
  ∃ f : Nat → MapEntry → Bool, n = m.map (fun c => (c.1, { c.2 with keep := f c.1 c.2 }))

theorem sameButKeep_markKeep (v : Bool) (first n : Nat) (m : Table MapEntry) : sameButKeep m (markKeep v first n m) := by
  refine ⟨fun l e => if first ≤ l ∧ l < first + n then v else e.keep, List.map_congr_left fun c _ => ?_⟩
  by_cases within : first ≤ c.1 ∧ c.1 < first + n <;> simp [within]

theorem sameButKeep_clearKeepMarks (m : Table MapEntry) : sameButKeep m (clearKeepMarks m) := ⟨fun _ _ => false, rfl⟩

/-- A property kept by the register writes and, whatever they write, by those of track units, averagers, indexes and
write positions, and by the writes of maps. -/
structure FreeWrites (p : State → Prop) : Prop extends Writes p where
  freeTrack : ∀ {s} t u, p s → p (s.putTrack t u)
  freeAverager : ∀ {s} t a, p s → p (s.putAverager t a)
  putRecords : ∀ {s} t l, p s → p (s.putRecords t l)
  putWritePosition : ∀ {s} t n, p s → p (s.putWritePosition t n)
  putKeep : ∀ {s} t m, sameButKeep (s.map t) m → p s → p (s.putMap t m)
  writeItem : ∀ {s} t l item, itemFault s t l item = none → p s → p (writeItem t l item s)

theorem Readout.fits_overtakeTrack (t : Track) (q : Readout) (fit : q.fits) : (q.overtakeTrack t).fits := by
  rw [← Readout.endReads_sweeps_means]
  exact Readout.fits_endReads _ _ _ (Readout.fits_endReads _ _ _ fit)

theorem Averager.wf_clearSumsIn (a : Averager) {ram : Table (BitVec 32)} (w : Memory.wf ram) :
    Memory.wf (a.clearSumsIn ram) := by
  unfold Averager.clearSumsIn
  split
  · exact w
  · exact Memory.wf_tfill w _ _

section Kept
variable {p : State → Prop} (h : FreeWrites p) {s : State}
include h

theorem FreeWrites.claimKeep (t : Track) (v : Bool) (r : SweepRecord) (k : p s) : p (claimKeep t v r s) :=
  h.putKeep t _ (sameButKeep_markKeep _ _ _ _) k

theorem FreeWrites.removeRecord (t : Track) (r : SweepRecord) (k : p s) : p (removeRecord t r s) := by
  unfold Machine.removeRecord
  simp only
  split
  · exact h.claimKeep t _ _ (h.putRecords t _ k)
  · exact h.putRecords t _ k

theorem FreeWrites.retire (t : Track) (r : SweepRecord) (k : p s) : p (retire t r s) := by
  refine h.endReads _ _ ?_
  split
  · exact h.dropStaged t _ (h.removeRecord t r k)
  · exact h.removeRecord t r k

theorem FreeWrites.activateSet (t : Track) (a : ParamSet) (k : p s) : p (activateSet t a s) := by
  refine h.restartBlock t ?_
  split
  · exact h.freeTrack t _ k
  · exact h.disableAverager t _ (h.freeTrack t _ k)

theorem FreeWrites.placeAt (t : Track) (c : Nat) (k : p s) : p (placeAt t c s) := by
  have occupants (rs : List SweepRecord) : p (retireAll t rs s) :=
    kept_foldl (fun s r => Machine.retire t r s) (fun r => h.retire t r) rs k
  refine h.putWritePosition t _ ?_
  split
  · split
    · exact h.retire t _ (occupants _)
    · exact occupants _
  · exact occupants _

theorem FreeWrites.openSweep (t : Track) (ev : MarkerEvent) (c : Nat) (k : p s) : p (openSweep t ev c s) := by
  have opened : p (averagerSweepStart t (newRecord (s.track t) ev c).seq (newRecord (s.track t) ev c).coasted
      ((s.putTrack t { (s.track t).takeSequence with state := .sweeping }).putRecords t
        (s.records t ++ [newRecord (s.track t) ev c]))) :=
    h.averagerSweepStart t _ _ (h.putRecords t _ (h.freeTrack t _ k))
  exact h.makeSchedule t _ _ (h.putLane t _ opened)

/-- The writes of a RESET_TRACK. -/
theorem FreeWrites.writeReset (t : Track) (v : TrackReset) (map : sameButKeep (s.map t) v.map)
    (readout : s.readout.fits → v.readout.fits) (mem : s.mem.fits → v.mem.fits)
    (ram : Memory.wf s.averagerRam → Memory.wf v.ram) (k : p s) : p (v.write t s) := by
  have index := h.putKeep t v.map (by exact map) (h.putRecords t [] k)
  have engine := h.setReadout v.readout (by simpa using readout) (h.putWritePosition t v.writePosition index)
  have memory := h.freeAverager t v.averager (h.setMem v.mem (by simpa using mem) engine)
  have unit := h.freeTrack t v.unit (h.setAveragerRam v.ram (by simpa using ram) memory)
  unfold TrackReset.write
  exact h.setCheck v.check (h.putLane t Lane.reset unit)

theorem FreeWrites.acts : Acts p where
  toWrites := h.toWrites
  turn t _ _ _ k := h.freeTrack t _ k
  drain t _ _ k := h.putRecords t _ k
  removeRecord t r _ k := h.removeRecord t r k
  activate t a _ k := h.activateSet t a k
  commitNow t _ _ k := by
    unfold commitNow
    simp only
    split
    · exact h.activateSet t _ k
    · exact h.putWritePosition t _ (h.activateSet t _ k)
  openPlaced t ev c _ _ _ k := h.openSweep t ev c (h.placeAt t c k)
  applyItem t l item _ passed k := by
    rw [applyItem_eq]
    split
    · exact h.retire t _ (h.writeItem t l item passed k)
    · exact h.writeItem t l item passed k
  setKept t v x _ _ _ k := h.claimKeep t v x (h.putRecords t _ k)
  clearTrack {s} t k := by
    exact h.writeReset t _ (sameButKeep_clearKeepMarks _) (Readout.fits_overtakeTrack t _)
      (MemControl.fits_of_eq rfl rfl (List.length_map _) rfl) (Averager.wf_clearSumsIn _) k
  freshStart t base kk coasted _ _ k := by
    exact h.clearSums _ (h.freeAverager t _ (h.discardMean t k))

theorem FreeWrites.steps (setLink : ∀ {s} v, p s → p (s.setLink v))
    (reset : ∀ {s} held owed, p s → p (resetValues held owed s)) : Steps p where
  toMoves := h.acts.moves
  setLink := setLink
  reset := reset

end Kept

end Sys2Proof.Machine

/-!
PROOF. The properties of one register: the waiting commands, the memory controller, the readout engine, the notice unit,
the marker units, and the memories with the maps and the ownership table (R66, R67).
-/

namespace Sys2Proof.Machine

/-! ## A load item writes one map and the ownership table -/

theorem writeItem_only (t : Track) (l : Nat) (item : LoadItem) (s : State) :
    ∃ o m, writeItem t l item s = (s.setOwners o).putMap t m := by
  have free : ∃ o, freePage s t l = s.setOwners o := by
    unfold freePage
    split
    · exact ⟨_, rfl⟩
    · exact ⟨s.owners, rfl⟩
  obtain ⟨o, freed⟩ := free
  cases item with
  | unmap => exact ⟨o, _, by unfold writeItem applyUnmap; rw [freed]⟩
  | map page hp =>
    unfold writeItem applyMap
    simp only
    split
    · split
      · exact ⟨s.owners, _, rfl⟩
      · exact ⟨_, _, by rw [freed]; rfl⟩
    · exact ⟨_, _, rfl⟩

/-! ## Maps and owners as each other's mirror -/

/-- Every entry is among a track's 2048 and owns its page, and every owned page is that of the entry that owns it. -/
def Mirrored (m : Track → Nat → Option MapEntry) (o : Nat → Option Owner) : Prop :=
  (∀ t l e, m t l = some e → l ≤ 2047 ∧ o e.page.toNat = some { track := t, logical := l }) ∧
  (∀ a w, o a = some w → ∃ e, m w.track w.logical = some e ∧ e.page.toNat = a)

section Mirror
variable {m n : Track → Nat → Option MapEntry} {o q : Nat → Option Owner} {t : Track} {l : Nat}

/-- Two entries that name one page are one entry. -/
theorem Mirrored.one (h : Mirrored m o) {u : Track} {k : Nat} {e f : MapEntry} (he : m t l = some e)
    (hf : m u k = some f) (page : e.page = f.page) : t = u ∧ l = k := by
  have a := (h.1 t l e he).2
  have b := (h.1 u k f hf).2
  rw [page, b] at a
  simp only [Option.some.injEq, Owner.mk.injEq] at a
  exact ⟨a.1.symm, a.2.symm⟩

/-- The entry of a page's owner is gone with the page's ownership. -/
theorem Mirrored.erase (h : Mirrored m o) {e : MapEntry} (he : m t l = some e)
    (gone : n t l = none) (rest : ∀ u k, (u, k) ≠ (t, l) → n u k = m u k)
    (free : q e.page.toNat = none) (others : ∀ a, a ≠ e.page.toNat → q a = o a) : Mirrored n q := by
  refine ⟨fun u k f hf => ?_, fun a w hw => ?_⟩
  · have ne : (u, k) ≠ (t, l) := fun same => by
      obtain ⟨rfl, rfl⟩ := Prod.mk.inj same
      rw [gone] at hf; cases hf
    rw [rest u k ne] at hf
    rw [others]
    · exact h.1 u k f hf
    · exact fun page => ne (by
        obtain ⟨rfl, rfl⟩ := h.one hf he (BitVec.eq_of_toNat_eq page)
        rfl)
  · have ne : a ≠ e.page.toNat := fun same => by rw [same, free] at hw; cases hw
    rw [others a ne] at hw
    obtain ⟨f, hf, page⟩ := h.2 a w hw
    refine ⟨f, ?_, page⟩
    rw [rest]
    · exact hf
    · intro same
      obtain ⟨e1, e2⟩ := Prod.mk.inj same
      rw [e1, e2, he] at hf
      cases hf
      exact ne page.symm

/-- A free page is given to an entry that was absent. -/
theorem Mirrored.put (h : Mirrored m o) {e : MapEntry} (low : l ≤ 2047) (absent : m t l = none)
    (free : o e.page.toNat = none) (given : n t l = some e) (rest : ∀ u k, (u, k) ≠ (t, l) → n u k = m u k)
    (owned : q e.page.toNat = some { track := t, logical := l }) (others : ∀ a, a ≠ e.page.toNat → q a = o a) :
    Mirrored n q := by
  refine ⟨fun u k f hf => ?_, fun a w hw => ?_⟩
  · by_cases same : (u, k) = (t, l)
    · obtain ⟨rfl, rfl⟩ := Prod.mk.inj same
      rw [given] at hf
      cases hf
      exact ⟨low, owned⟩
    · rw [rest u k same] at hf
      have old := h.1 u k f hf
      rw [others]
      · exact old
      · exact fun page => by rw [page, free] at old; cases old.2
  · by_cases same : a = e.page.toNat
    · rw [same, owned] at hw
      cases hw
      exact ⟨e, given, same.symm⟩
    · rw [others a same] at hw
      obtain ⟨f, hf, page⟩ := h.2 a w hw
      refine ⟨f, ?_, page⟩
      rw [rest]
      · exact hf
      · exact fun eq => by
          obtain ⟨e1, e2⟩ := Prod.mk.inj eq
          rw [e1, e2, absent] at hf; cases hf

/-- Entries may change in all but their pages. -/
theorem Mirrored.same_pages (h : Mirrored m o) (same : ∀ u k, (n u k).map MapEntry.page = (m u k).map MapEntry.page) :
    Mirrored n o := by
  refine ⟨fun u k f hf => ?_, fun a w hw => ?_⟩
  · have page := same u k
    rw [hf] at page
    obtain ⟨e, he, eq⟩ := Option.map_eq_some_iff.mp page.symm
    rw [← eq]
    exact h.1 u k e he
  · obtain ⟨e, he, eq⟩ := h.2 a w hw
    have page := same w.track w.logical
    rw [he] at page
    obtain ⟨f, hf, eq'⟩ := Option.map_eq_some_iff.mp page
    exact ⟨f, hf, by rw [eq', eq]⟩

end Mirror

theorem memoriesInOrder_iff (s : State) :
    MemoriesInOrder s ↔
      Memory.wf s.dram ∧ Memory.wf s.dramCheck ∧ Memory.wf s.averagerRam ∧ Memory.wf s.owners ∧
      (∀ t, Memory.wf (s.map t)) ∧ Mirrored (fun t l => tget (s.map t) l) (fun a => tget s.owners a) := Iff.rfl

/-- The map and the ownership table alone. -/
theorem MemoriesInOrder.write {s : State} (h : MemoriesInOrder s) {t : Track} {o : Table Owner} {m : Table MapEntry}
    (ho : Memory.wf o) (hm : Memory.wf m)
    (mirror : Mirrored (fun u l => tget (((s.setOwners o).putMap t m).map u) l) (fun a => tget o a)) :
    MemoriesInOrder ((s.setOwners o).putMap t m) := by
  rw [memoriesInOrder_iff] at h ⊢
  obtain ⟨h1, h2, h3, h4, h5, h6⟩ := h
  refine ⟨h1, h2, h3, ho, fun u => ?_, mirror⟩
  by_cases e : t = u
  · subst e; rw [State.map_putMap_same]; exact hm
  · rw [State.map_putMap_other _ _ e]; exact h5 u

section Item
variable {s : State} {t : Track} {l : Nat}

/-- What one map reads as, after the map of track t is replaced. -/
theorem map_setOwners_putMap (o : Table Owner) (m : Table MapEntry) (u : Track) :
    ((s.setOwners o).putMap t m).map u = if u = t then m else s.map u := by
  by_cases e : u = t
  · subst e; simp
  · rw [State.map_putMap_other _ _ (Ne.symm e), if_neg e]; rfl

theorem MemoriesInOrder.applyUnmap (h : MemoriesInOrder s) : MemoriesInOrder (applyUnmap t l s) := by
  obtain ⟨h1, h2, h3, wo, wm, mirror⟩ := (memoriesInOrder_iff s).mp h
  unfold Machine.applyUnmap freePage
  cases he : tget (s.map t) l with
  | none =>
    refine h.write (t := t) (o := s.owners) wo (Memory.wf_terase (wm t) l) (mirror.same_pages fun u k => ?_)
    simp only [map_setOwners_putMap]
    by_cases e : u = t
    · subst e
      simp only [if_true, tget_terase]
      split
      · next ek => rw [ek]; simp [he]
      · rfl
    · simp [e]
  | some e =>
    refine h.write (t := t) (o := terase s.owners e.page.toNat) (m := terase (s.map t) l) (Memory.wf_terase wo _)
      (Memory.wf_terase (wm t) l) (mirror.erase (t := t) (l := l) he ?_ (fun u k ne => ?_) ?_ (fun a ne => ?_))
    · simp [tget_terase]
    · simp only [map_setOwners_putMap]
      by_cases eu : u = t
      · subst eu
        simp only [if_true, tget_terase]
        rw [if_neg (fun ek => ne (by rw [ek]))]
      · simp [eu]
    · simp [tget_terase]
    · simp only [tget_terase, if_neg ne]

theorem itemFault_none {item : LoadItem} (h : itemFault s t l item = none) :
    l ≤ 2047 ∧ (∀ e, tget (s.map t) l = some e → e.keep = false) ∧
    ∀ page hp, item = .map page hp →
      tget s.owners page.toNat = none ∨ tget s.owners page.toNat = some { track := t, logical := l } := by
  unfold itemFault at h
  by_cases low : 2047 < l
  · simp [low] at h
  rw [if_neg low] at h
  have unkept : ∀ e, tget (s.map t) l = some e → e.keep = false := fun e he => by
    by_contra keep
    simp only [Bool.not_eq_false] at keep
    simp [he, keep] at h
  refine ⟨by omega, unkept, fun page hp eq => ?_⟩
  subst eq
  rw [if_neg (by
    cases he : tget (s.map t) l with
    | none => simp
    | some e => simp [unkept e he])] at h
  cases ho : ownerOf s page with
  | none => exact .inl ho
  | some o =>
    simp only [ho] at h
    by_cases own : o = { track := t, logical := l }
    · exact .inr (own ▸ ho)
    · simp [own] at h

theorem MemoriesInOrder.writeItem {item : LoadItem} (passed : itemFault s t l item = none) (h : MemoriesInOrder s) :
    MemoriesInOrder (writeItem t l item s) := by
  obtain ⟨low, -, owner⟩ := itemFault_none passed
  obtain ⟨h1, h2, h3, wo, wm, mirror⟩ := (memoriesInOrder_iff s).mp h
  cases item with
  | unmap => exact h.applyUnmap
  | map page hp =>
    unfold Machine.writeItem applyMap freePage
    simp only
    cases he : tget (s.map t) l with
    | some e =>
      simp only
      split
      · refine h.write (t := t) (o := s.owners) wo (Memory.wf_tput (wm t) l _) (mirror.same_pages fun u k => ?_)
        simp only [map_setOwners_putMap]
        by_cases eu : u = t
        · subst eu
          simp only [if_true, tget_tput]
          split
          · next ek => rw [ek]; simp [he]
          · rfl
        · simp [eu]
      · next differs =>
        have free : tget s.owners page.toNat = none := by
          refine (owner page hp rfl).resolve_right fun own => ?_
          obtain ⟨f, hf, eq⟩ := mirror.2 _ _ own
          cases he.symm.trans hf
          exact differs (BitVec.eq_of_toNat_eq eq)
        have erased : Mirrored (fun u k => if (u, k) = (t, l) then none else tget (s.map u) k)
            (fun a => if a = e.page.toNat then none else tget s.owners a) :=
          mirror.erase (t := t) (l := l) he (by simp) (fun u k ne => by simp only [if_neg ne]) (by simp)
            (fun a ne => by simp only [if_neg ne])
        refine h.write (t := t) (o := tput (terase s.owners e.page.toNat) page.toNat { track := t, logical := l })
          (Memory.wf_tput (Memory.wf_terase wo _) _ _) (Memory.wf_tput (wm t) l _)
          (erased.put (t := t) (l := l) (e := { page := page, hostProtect := hp, keep := false }) low (by simp) ?_ ?_
            (fun u k ne => ?_) ?_ (fun a ne => ?_))
        · simp only [free]; split <;> rfl
        · simp [tget_tput]
        · simp only [map_setOwners_putMap, if_neg ne]
          by_cases eu : u = t
          · subst eu
            rw [if_pos rfl, tget_tput, if_neg (fun ek => ne (by rw [ek]))]
            rfl
          · rw [if_neg eu]
        · simp [tget_tput]
        · simp only [tget_tput, tget_terase, if_neg ne]
    | none =>
      have free : tget s.owners page.toNat = none := by
        refine (owner page hp rfl).resolve_right fun own => ?_
        obtain ⟨f, hf, eq⟩ := mirror.2 _ _ own
        cases he.symm.trans hf
      refine h.write (t := t) (o := tput s.owners page.toNat { track := t, logical := l })
        (Memory.wf_tput wo _ _) (Memory.wf_tput (wm t) l _)
        (mirror.put (t := t) (l := l) (e := { page := page, hostProtect := hp, keep := false }) low he free ?_
          (fun u k ne => ?_) ?_ (fun a ne => ?_))
      · simp [tget_tput]
      · simp only [map_setOwners_putMap]
        by_cases eu : u = t
        · subst eu
          rw [if_pos rfl, tget_tput, if_neg (fun ek => ne (by rw [ek]))]
          rfl
        · rw [if_neg eu]
      · simp [tget_tput]
      · simp only [tget_tput, if_neg ne]

end Item

/-! ## The properties of one register -/

/-- A property of the waiting commands, the link, the memory controller, the engine, the notice unit and the marker units
that is kept by the changes that keep the limits of one of the last five. -/
theorem freeWrites_of_registers
    (P : List Instr → Link → MemControl → Readout → NoticeUnit → MarkerUnit → MarkerUnit → Prop)
    (mem : ∀ {l k m q n a b} v, (m.fits → v.fits) → P l k m q n a b → P l k v q n a b)
    (readout : ∀ {l k m q n a b} v, (q.fits → v.fits) → P l k m q n a b → P l k m v n a b)
    (notices : ∀ {l k m q n a b} v, (n.fits → v.fits) → P l k m q n a b → P l k m q v a b)
    (markerA : ∀ {l k m q n a b} v, (a.inOrder → v.inOrder) → P l k m q n a b → P l k m q n v b)
    (markerB : ∀ {l k m q n a b} v, (b.inOrder → v.inOrder) → P l k m q n a b → P l k m q n a v) :
    FreeWrites (fun s => P s.pending s.link s.mem s.readout s.notices s.markerA s.markerB) where
  setTime _ k := k
  setRefreshElapsed _ k := k
  setLanes _ k := k
  setCheck _ k := k
  setMem _ fit k := mem _ fit k
  setReadout _ fit k := readout _ fit k
  setNotices _ fit k := notices _ fit k
  setAveragerRam _ _ k := k
  setDrams _ _ _ _ k := k
  putMarker u _ order k := by
    cases u with
    | A => exact markerA _ order k
    | B => exact markerB _ order k
  putTrack _ _ _ k := k
  putAverager _ _ _ k := k
  mapRecords _ _ _ k := k
  freeTrack _ _ k := k
  freeAverager _ _ k := k
  putRecords _ _ k := k
  putWritePosition _ _ k := k
  putKeep _ _ _ k := k
  writeItem {s} t l item _ k := by
    obtain ⟨o, m, e⟩ := writeItem_only t l item s
    rw [e]
    exact k

theorem steps_pending (waiting : List Instr) : Steps (fun s => s.pending = waiting) :=
  (freeWrites_of_registers (fun l _ _ _ _ _ _ => l = waiting) (fun _ _ => id) (fun _ _ => id) (fun _ _ => id)
    (fun _ _ => id) (fun _ _ => id)).steps (fun _ k => k) (fun _ _ k => k)

/-- The acts of the blocks leave the link as it is. -/
theorem acts_link (l : Link) : Acts (fun s => s.link = l) :=
  (freeWrites_of_registers (fun _ k _ _ _ _ _ => k = l) (fun _ _ => id) (fun _ _ => id) (fun _ _ => id)
    (fun _ _ => id) (fun _ _ => id)).acts

theorem steps_mem : Steps (fun s => s.mem.fits) :=
  (freeWrites_of_registers (fun _ _ m _ _ _ _ => m.fits) (fun _ fit => fit) (fun _ _ => id) (fun _ _ => id)
    (fun _ _ => id) (fun _ _ => id)).steps (fun _ k => k)
    (fun _ _ _ => by simp [resetValues, State.reset, MemControl.reset, MemControl.fits])

theorem steps_readout : Steps (fun s => s.readout.fits) :=
  (freeWrites_of_registers (fun _ _ _ q _ _ _ => q.fits) (fun _ _ => id) (fun _ fit => fit) (fun _ _ => id)
    (fun _ _ => id) (fun _ _ => id)).steps (fun _ k => k)
    (fun _ _ _ => by simp [resetValues, State.reset, Readout.reset, Readout.fits])

/-- The levels of Table 11.1 are levels. -/
theorem NoticeUnit.fits_reset : NoticeUnit.reset.fits := ⟨by decide, by decide, by decide, List.nodup_nil⟩

theorem steps_notices : Steps (fun s => s.notices.fits) :=
  (freeWrites_of_registers (fun _ _ _ _ n _ _ => n.fits) (fun _ _ => id) (fun _ _ => id) (fun _ fit => fit)
    (fun _ _ => id) (fun _ _ => id)).steps (fun _ k => k) (fun _ _ _ => NoticeUnit.fits_reset)

theorem steps_markers : Steps MarkersInOrder :=
  (freeWrites_of_registers (fun _ _ _ _ _ a b => a.inOrder ∧ b.inOrder) (fun _ _ => id) (fun _ _ => id) (fun _ _ => id)
    (fun _ order k => ⟨order k.1, k.2⟩) (fun _ order k => ⟨k.1, order k.2⟩)).steps (fun _ k => k)
    (fun _ _ _ => ⟨MarkerUnit.inOrder_reset, MarkerUnit.inOrder_reset⟩)

theorem memoriesInOrder_reset : MemoriesInOrder State.reset := by
  refine (memoriesInOrder_iff _).mpr ⟨Memory.wf_nil, Memory.wf_nil, Memory.wf_nil, Memory.wf_nil, fun t => ?_, ?_, ?_⟩
  · simp [State.map, State.reset]
  · simp [State.map, State.reset, tget]
  · simp [State.reset, tget]

/-- Keep marks are no part of the mirror. -/
theorem MemoriesInOrder.putKeep {s : State} {t : Track} {m : Table MapEntry} (same : sameButKeep (s.map t) m)
    (h : MemoriesInOrder s) : MemoriesInOrder (s.putMap t m) := by
  obtain ⟨f, rfl⟩ := same
  obtain ⟨h1, h2, h3, wo, wm, mirror⟩ := (memoriesInOrder_iff s).mp h
  refine h.write (t := t) (o := s.owners) wo (Memory.wf_map (wm t) _ fun _ => rfl) (mirror.same_pages fun u k => ?_)
  simp only [map_setOwners_putMap]
  by_cases e : u = t
  · subst e
    rw [if_pos rfl, tget_map_value (fun (l : Nat) (e : MapEntry) => ({ e with keep := f l e } : MapEntry))]
    cases tget (s.map u) k <;> rfl
  · rw [if_neg e]

theorem freeWrites_memories : FreeWrites MemoriesInOrder where
  setTime _ k := k
  setRefreshElapsed _ k := k
  setLanes _ k := k
  setCheck _ k := k
  setMem _ _ k := k
  setReadout _ _ k := k
  setNotices _ _ k := k
  setAveragerRam _ w k := ⟨k.1, k.2.1, w k.2.2.1, k.2.2.2⟩
  setDrams _ _ wd wc k := ⟨wd k.1, wc k.2.1, k.2.2⟩
  putMarker u _ _ k := by cases u <;> exact k
  putTrack _ _ _ k := k
  putAverager _ _ _ k := k
  mapRecords _ _ _ k := k
  freeTrack _ _ k := k
  freeAverager _ _ k := k
  putRecords _ _ k := k
  putWritePosition _ _ k := k
  putKeep _ _ same k := MemoriesInOrder.putKeep same k
  writeItem _ _ _ passed k := MemoriesInOrder.writeItem passed k

/-- Settles O54: maps and owners mirror each other after every load item, and every other command writes canonical
tables and at most the keep marks of entries. -/
theorem memoriesMapsAndOwnersStayInOrder : Obligations.MemoriesMapsAndOwnersStayInOrder :=
  (freeWrites_memories.steps (fun _ k => k) (fun _ _ _ => memoriesInOrder_reset)).kept (fun _ _ k => k)

/-- Settles O59: each rule of a marker unit keeps its counts, estimate and window those of its state. -/
theorem markerUnitsStayInOrder : Obligations.MarkerUnitsStayInOrder :=
  steps_markers.kept (fun _ _ k => k)

/-- Settles O2. -/
theorem everyCommandAnswersNext : Obligations.EveryCommandAnswersNext := by
  intro c s
  obtain ⟨x, answers, stepped⟩ := exec_stepped c s
  exact ⟨x, answers, (steps_pending s.pending).stepped stepped rfl⟩

end Sys2Proof.Machine

/-!
PROOF. Track units and averagers: their counts, their sets and the write positions, and the averagers' regions.
-/

namespace Sys2Proof.Machine

/-! ## What a placement scan finds -/

/-- A range that a scan finds lies in the window and has neither a hole nor a barred page (R91). -/
theorem scanFrom_found {s : State} {t : Track} {base w n start c fuel c0 : Nat} {wrapped : Bool} (room : n ≤ w)
    (low : base ≤ c0) (high : c0 + n ≤ base + w) (found : scanFrom s t base w n start fuel c0 wrapped = .found c) :
    base ≤ c ∧ c + n ≤ base + w ∧ ∀ p, c ≤ p → p < c + n → (tget (s.map t) p).isSome ∧ barred s t p = false := by
  induction fuel generalizing c0 wrapped with
  | zero => cases found
  | succ fuel ih =>
    unfold scanFrom at found
    split at found
    · cases found
    · split at found
      · cases found
      · next whole =>
        split at found
        · next clear =>
          cases found
          refine ⟨low, high, fun p hl hh => ?_⟩
          have mem : p ∈ pageRange c n := List.mem_map.mpr ⟨p - c, List.mem_range.mpr (by omega), by omega⟩
          have free := List.find?_eq_none.mp clear p (List.mem_reverse.mpr mem)
          refine ⟨?_, by simpa using free⟩
          by_contra hole
          exact whole (List.any_eq_true.mpr ⟨p, mem, by simpa using hole⟩)
        · next p hp =>
          have mem := List.mem_reverse.mp (List.mem_of_find?_eq_some hp)
          obtain ⟨i, hi, rfl⟩ := List.mem_map.mp mem
          split at found
          · next fits => exact ih (by omega) fits found
          · split at found
            · cases found
            · exact ih (Nat.le_refl _) (by omega) found

/-- The scan of a track whose write position lies in its window (R91). -/
theorem placementScan_found {s : State} {t : Track} {c : Nat} (room : pageCount (s.track t).active.length ≤
    (s.track t).active.windowSize) (low : (s.track t).active.base ≤ s.writePosition t)
    (found : placementScan s t = .found c) :
    (s.track t).active.base ≤ c ∧
    c + pageCount (s.track t).active.length ≤ (s.track t).active.base + (s.track t).active.windowSize ∧
    ∀ p, c ≤ p → p < c + pageCount (s.track t).active.length →
      (tget (s.map t) p).isSome ∧ barred s t p = false := by
  refine scanFrom_found room ?_ ?_ found
  · unfold scanStart; simp only; split <;> omega
  · unfold scanStart; simp only; split <;> omega

/-! ## Properties that do not speak of records, maps and owners -/

/-- The FILLING record and the sequence of a new sweep (R50). -/
def openRecord (t : Track) (ev : MarkerEvent) (c : Nat) (s : State) : State :=
  (s.putTrack t { (s.track t).takeSequence with state := .sweeping }).putRecords t
    (s.records t ++ [newRecord (s.track t) ev c])

/-- What follows the new record of a sweep start is made of register writes. -/
theorem Writes.openSweep {p : State → Prop} (h : Writes p) {s : State} (t : Track) (ev : MarkerEvent) (c : Nat)
    (k : p (openRecord t ev c s)) : p (openSweep t ev c s) :=
  h.makeSchedule t _ _ (h.putLane t _ (h.averagerSweepStart t _ _ k))

/-- What follows the change of a track's active set is made of register writes. -/
theorem Writes.activateSet {p : State → Prop} (h : Writes p) {s : State} (t : Track) (a : ParamSet)
    (k : p (s.putTrack t ((s.track t).activate a))) : p (activateSet t a s) := by
  refine h.restartBlock t ?_
  split
  · exact k
  · exact h.disableAverager t _ k

/-- A property kept by the register writes and by any write of records, maps and owners. -/
structure RecordWrites (p : State → Prop) : Prop extends Writes p where
  turn : ∀ {s} t state selected prevMarker, p s →
    p (s.putTrack t { s.track t with state := state, selected := selected, prevMarker := prevMarker })
  putRecords : ∀ {s} t l, p s → p (s.putRecords t l)
  putMap : ∀ {s} t m, p s → p (s.putMap t m)
  setOwners : ∀ {s} o, p s → p (s.setOwners o)

section Kept
variable {p : State → Prop} (h : RecordWrites p) {s : State}
include h

theorem RecordWrites.removeRecord (t : Track) (r : SweepRecord) (k : p s) : p (removeRecord t r s) := by
  unfold Machine.removeRecord
  simp only
  split
  · exact h.putMap t _ (h.putRecords t _ k)
  · exact h.putRecords t _ k

theorem RecordWrites.retire (t : Track) (r : SweepRecord) (k : p s) : p (retire t r s) := by
  refine h.endReads _ _ ?_
  split
  · exact h.dropStaged t _ (h.removeRecord t r k)
  · exact h.removeRecord t r k

omit h in
/-- A placement is made of record writes but for the new write position (R93, steps 1 and 2). -/
theorem placeAt_writes (t : Track) (c : Nat) (s : State) :
    ∃ x, placeAt t c s = x.putWritePosition t (c + pageCount (s.track t).active.length) ∧
      ∀ {p : State → Prop}, RecordWrites p → p s → p x := by
  refine ⟨_, rfl, fun {p} h k => ?_⟩
  have occupants (rs : List SweepRecord) : p (retireAll t rs s) :=
    kept_foldl (fun s r => Machine.retire t r s) (fun r => h.retire t r) rs k
  split
  · split
    · exact h.retire t _ (occupants _)
    · exact occupants _
  · exact occupants _

/-- A placement, to a property that does not speak of write positions. -/
theorem RecordWrites.placeAt (t : Track) (c : Nat) (k : p s)
    (position : ∀ {x : State} n, p x → p (x.putWritePosition t n)) : p (placeAt t c s) := by
  obtain ⟨x, placed, writes⟩ := placeAt_writes t c s
  rw [placed]
  exact position _ (writes h k)

theorem RecordWrites.acts
    (takeSequence : ∀ {s} t, p s → p (s.putTrack t { (s.track t).takeSequence with state := .sweeping }))
    (place : ∀ {s} t c, placementScan s t = .found c → p s → p (Machine.placeAt t c s))
    (activate : ∀ {s} t a, (s.track t).pendingSet = some a → p s → p (activateSet t a s))
    (commitNow : ∀ {s} t, (s.track t).staged.limitsHold = true → p s → p (commitNow t s))
    (clearTrack : ∀ {s} t, p s → p (Machine.clearTrack t s))
    (freshStart : ∀ {s} t base k coasted,
      ¬ (k < 2 ∨ 1024 < k ∨ 16383 < base ∨ Config.averagerWords < base + 2 * (s.track t).active.length) →
      regionTaken s t base (s.track t).active.length = false → p s →
      p (freshStart t { base := base, length := (s.track t).active.length } k coasted s)) : Acts p where
  toWrites := h.toWrites
  turn := h.turn
  drain t _ _ k := h.putRecords t _ k
  removeRecord t r _ k := h.removeRecord t r k
  activate := activate
  commitNow t _ limits k := commitNow t limits k
  openPlaced t ev c _ found _ k := h.openSweep t ev c (h.putRecords t _ (takeSequence t (place t c found k)))
  applyItem {s} t l item _ _ k := by
    obtain ⟨o, m, written⟩ := writeItem_only t l item s
    rw [applyItem_eq, written]
    split
    · exact h.retire t _ (h.putMap t _ (h.setOwners _ k))
    · exact h.putMap t _ (h.setOwners _ k)
  setKept t v x _ _ _ k := h.putMap t _ (h.putRecords t _ k)
  clearTrack := clearTrack
  freshStart := freshStart

end Kept

/-! ## Counts of the track units -/

theorem State.track_putTrack (s : State) (t k : Track) (u : TrackUnit) :
    (s.putTrack t u).track k = if k = t then u else s.track k := by
  by_cases e : k = t
  · subst e; simp
  · rw [State.track_putTrack_other _ _ (Ne.symm e), if_neg e]

/-- A property of every track unit, and what one unit's change has to keep. -/
theorem forall_putTrack {P : Track → TrackUnit → Prop} {s : State} (t : Track) {u : TrackUnit}
    (own : P t (s.track t) → P t u) (k : ∀ x, P x (s.track x)) : ∀ x, P x ((s.putTrack t u).track x) := by
  intro x
  rw [State.track_putTrack]
  split
  · next e => exact e ▸ own (k t)
  · exact k x

theorem recordWrites_counts : RecordWrites (fun s => ∀ t, (s.track t).countsFit) where
  setTime _ k := k
  setRefreshElapsed _ k := k
  setLanes _ k := k
  setCheck _ k := k
  setMem _ _ k := k
  setReadout _ _ k := k
  setNotices _ _ k := k
  setAveragerRam _ _ k := k
  setDrams _ _ _ _ k := k
  putMarker u _ _ k := by cases u <;> exact k
  putTrack t _ tame k := forall_putTrack t tame.counts k
  turn t _ _ _ k := forall_putTrack (P := fun _ => TrackUnit.countsFit) t id k
  putAverager _ _ _ k := k
  mapRecords _ _ _ k := k
  putRecords _ _ k := k
  putMap _ _ k := k
  setOwners _ k := k

theorem TrackUnit.countsFit_activate {u : TrackUnit} (a : ParamSet) (h : u.countsFit) : (u.activate a).countsFit :=
  ⟨h.1, h.2.1, h.2.2.1, OffsetMode.interval_pos _⟩

theorem TrackUnit.countsFit_takeSequence {u : TrackUnit} (st : TrackState) (h : u.countsFit) :
    ({ u.takeSequence with state := st } : TrackUnit).countsFit := by
  unfold TrackUnit.takeSequence
  split <;> exact h

/-- A track unit after RESET_TRACK, and the others. -/
theorem clearTrack_track (t k : Track) (s : State) :
    (clearTrack t s).track k = if k = t then (s.track t).resetTrack else s.track k := by
  by_cases e : k = t
  · rw [if_pos e, e]; unfold clearTrack; rw [(TrackReset.write_own (TrackReset.of t s) t s).1]; rfl
  · rw [if_neg e]; unfold clearTrack; rw [(TrackReset.write_other (TrackReset.of t s) t k s e).1]

theorem acts_counts : Acts (fun s => ∀ t, (s.track t).countsFit) :=
  recordWrites_counts.acts
    (takeSequence := fun t k => forall_putTrack t (TrackUnit.countsFit_takeSequence _) k)
    (place := fun t c _ k => recordWrites_counts.placeAt t c k (fun _ kx => kx))
    (activate := fun t a _ k =>
      recordWrites_counts.activateSet t a (forall_putTrack t (TrackUnit.countsFit_activate a) k))
    (commitNow := fun {s} t _ k => by
      have active := recordWrites_counts.activateSet t (s.track t).staged
        (forall_putTrack (P := fun _ => TrackUnit.countsFit) t (TrackUnit.countsFit_activate (s.track t).staged) k)
      unfold commitNow
      simp only
      split <;> exact active)
    (clearTrack := fun {s} t k x => by
      rw [clearTrack_track]
      split
      · obtain ⟨-, -, -, -⟩ := k t
        exact ⟨Nat.zero_le _, Nat.zero_le _, Nat.zero_le _, OffsetMode.interval_pos _⟩
      · exact k x)
    (freshStart := fun {s} t base k coasted _ _ kx x => by
      simpa [freshStart_eq, State.track] using kx x)

theorem steps_counts : Steps (fun s => ∀ t, (s.track t).countsFit) where
  toMoves := acts_counts.moves
  setLink _ k := k
  reset _ _ _ t := by
    simp [resetValues, State.reset, State.track, TrackUnit.countsFit, TrackUnit.reset, OffsetMode.interval_pos]

end Sys2Proof.Machine

/-!
PROOF. The limits of the averagers and of the link, and with them every limit the spec gives.
-/

namespace Sys2Proof.Machine

/-! ## The averagers -/

theorem State.averager_putAverager (s : State) (t k : Track) (a : Averager) :
    (s.putAverager t a).averager k = if k = t then a else s.averager k := by
  by_cases e : k = t
  · subst e; simp
  · rw [State.averager_putAverager_other _ _ (Ne.symm e), if_neg e]

/-- The limits speak of the averagers and of the lengths of the active sets. -/
theorem AveragersFit.of_eq {s x : State} (h : AveragersFit s) (averager : ∀ t, x.averager t = s.averager t)
    (length : ∀ t, (x.track t).active.length = (s.track t).active.length) : AveragersFit x := by
  unfold AveragersFit
  simp only [averager, length]
  exact h

/-- What a change of one track's averager has to keep. -/
theorem AveragersFit.change {s x : State} (h : AveragersFit s) (t : Track)
    (others : ∀ u, u ≠ t → x.averager u = s.averager u ∧ (x.track u).active.length = (s.track u).active.length)
    (fits : (s.averager t).fits → (x.averager t).fits)
    (region : ∀ g, (x.averager t).region = some g →
      g.length = (x.track t).active.length ∧ g.base + 2 * g.length ≤ 16384 ∧
      ∀ u f, u ≠ t → (s.averager u).region = some f →
        f.base + 2 * f.length ≤ g.base ∨ g.base + 2 * g.length ≤ f.base) : AveragersFit x := by
  obtain ⟨counts, regions⟩ := h
  refine ⟨fun u => ?_, fun u g hg => ?_⟩
  · by_cases e : u = t
    · subst e; exact fits (counts u)
    · rw [(others u e).1]; exact counts u
  · by_cases e : u = t
    · subst e
      obtain ⟨length, room, apart⟩ := region g hg
      exact ⟨length, room, fun v f ne hf => apart v f ne ((others v ne).1 ▸ hf)⟩
    · rw [(others u e).1] at hg
      obtain ⟨length, room, apart⟩ := regions u g hg
      refine ⟨length.trans (others u e).2.symm, room, fun v f ne hf => ?_⟩
      by_cases ev : v = t
      · subst ev
        exact ((region f hf).2.2 u g e hg).symm
      · exact apart v f ne ((others v ev).1 ▸ hf)

/-- An averager with the region it had, or with none. -/
theorem AveragersFit.putAverager {s : State} (h : AveragersFit s) (t : Track) {a : Averager}
    (tame : (s.averager t).Tame a) : AveragersFit (s.putAverager t a) := by
  refine h.change t (fun u ne => ⟨State.averager_putAverager_other s a ne.symm, rfl⟩) ?_ (fun g hg => ?_)
  · rw [State.averager_putAverager_same]; exact tame.fits
  · rw [State.averager_putAverager_same] at hg
    rcases tame.region with e | e
    · exact h.2 t g (e ▸ hg)
    · rw [e] at hg; cases hg

theorem recordWrites_averagers : RecordWrites AveragersFit where
  setTime _ k := k
  setRefreshElapsed _ k := k
  setLanes _ k := k
  setCheck _ k := k
  setMem _ _ k := k
  setReadout _ _ k := k
  setNotices _ _ k := k
  setAveragerRam _ _ k := k
  setDrams _ _ _ _ k := k
  putMarker u _ _ k := by cases u <;> exact k
  putTrack t u tame k := k.of_eq (fun _ => rfl) (fun x => by
    rw [State.track_putTrack]
    split
    · next e => rw [e, tame.active]
    · rfl)
  turn t _ _ _ k := AveragersFit.of_eq k (fun _ => rfl) (fun x => by
    rw [State.track_putTrack]
    split
    · next e => rw [e]
    · rfl)
  putAverager t _ tame k := AveragersFit.putAverager k t tame
  mapRecords _ _ _ k := k
  putRecords _ _ k := k
  putMap _ _ k := k
  setOwners _ k := k

/-- A new active set disables the averager when the length changes (R162). -/
theorem averagersFit_activateSet {s : State} (t : Track) (a : ParamSet) (k : AveragersFit s) :
    AveragersFit (activateSet t a s) := by
  refine recordWrites_averagers.restartBlock t ?_
  have others {u : TrackUnit} (x : Track) (ne : x ≠ t) : ((s.putTrack t u).track x) = s.track x :=
    State.track_putTrack_other s u ne.symm
  split
  · next same =>
    refine k.of_eq (fun _ => rfl) (fun x => ?_)
    rw [State.track_putTrack]
    split
    · next e => rw [e]; exact same
    · rfl
  · by_cases off : (s.averager t).region = none
    · rw [disableAverager_of_disabled _ (by exact off)]
      refine k.change t (fun u ne => ⟨rfl, by rw [others u ne]⟩) id (fun g hg => ?_)
      rw [show (s.putTrack t ((s.track t).activate a)).averager t = s.averager t from rfl, off] at hg
      cases hg
    · rw [disableAverager_of_enabled _ (by exact off)]
      refine k.change t (fun u ne => ⟨?_, ?_⟩) (fun fit => ?_) (fun g hg => ?_)
      · rw [replaceAverager_averager_other _ _ ne]; rfl
      · exact congrArg (fun u : TrackUnit => u.active.length) (others u ne)
      · rw [replaceAverager_averager_same]
        exact Averager.fits_of_eq (a := s.averager t) rfl (Nat.zero_le _) fit
      · rw [replaceAverager_averager_same] at hg
        cases hg

/-- A fresh start passed the checks of SET_AVERAGER (R154). -/
theorem averagersFit_freshStart {s : State} (t : Track) {base kk : Nat} (coasted : Bool)
    (good : ¬ (kk < 2 ∨ 1024 < kk ∨ 16383 < base ∨ Config.averagerWords < base + 2 * (s.track t).active.length))
    (free : regionTaken s t base (s.track t).active.length = false) (k : AveragersFit s) :
    AveragersFit (freshStart t { base := base, length := (s.track t).active.length } kk coasted s) := by
  rw [freshStart_eq]
  refine k.change t (fun u ne => ⟨?_, ?_⟩) (fun _ => ?_) (fun g hg => ?_)
  · rw [clearSums_averager, replaceAverager_averager_other _ _ ne]
  · rfl
  · rw [clearSums_averager, replaceAverager_averager_same]
    simp only [Averager.fits, Averager.start]
    omega
  · rw [clearSums_averager, replaceAverager_averager_same] at hg
    cases hg
    simp only [Config.averagerWords] at good
    refine ⟨rfl, by simp only; omega, fun u f ne hf => ?_⟩
    rw [← Bool.not_eq_true, regionTaken_iff] at free
    by_contra shared
    exact free ⟨u, f, ne, hf, by simp only at shared; omega, by simp only at shared; omega⟩

theorem averagersFit_clearTrack {s : State} (t : Track) (k : AveragersFit s) : AveragersFit (clearTrack t s) := by
  have own : (clearTrack t s).averager t = (s.averager t).resetTrack := by
    unfold clearTrack; rw [(TrackReset.write_own _ t s).2.2.2.2.2]; rfl
  have other (u : Track) (ne : u ≠ t) : (clearTrack t s).averager u = s.averager u := by
    unfold clearTrack; rw [(TrackReset.write_other _ t u s ne).2.2.2.2.2]
  refine k.change t (fun u ne => ⟨other u ne, by rw [clearTrack_track, if_neg ne]⟩) (fun fit => ?_) (fun g hg => ?_)
  · rw [own]; exact Averager.fits_of_eq (a := s.averager t) rfl (Nat.zero_le _) fit
  · rw [own] at hg
    rw [clearTrack_track, if_pos rfl]
    exact k.2 t g hg

theorem averagersFit_reset : AveragersFit State.reset := by
  refine ⟨fun t => ?_, fun t g hg => ?_⟩
  · simp [State.averager, State.reset, Averager.reset]
  · simp [State.averager, State.reset, Averager.reset] at hg

theorem acts_averagers : Acts AveragersFit :=
  recordWrites_averagers.acts
    (takeSequence := fun {s} t k => k.of_eq (fun _ => rfl) (fun x => by
      rw [State.track_putTrack]
      split
      · next e => rw [e]; unfold TrackUnit.takeSequence; split <;> rfl
      · rfl))
    (place := fun t c _ k => recordWrites_averagers.placeAt t c k (fun _ kx => kx))
    (activate := fun t a _ k => averagersFit_activateSet t a k)
    (commitNow := fun {s} t _ k => by
      unfold commitNow
      simp only
      split <;> exact averagersFit_activateSet t _ k)
    (clearTrack := fun t k => averagersFit_clearTrack t k)
    (freshStart := fun t _ _ coasted good free k => averagersFit_freshStart t coasted good free k)

theorem steps_averagers : Steps AveragersFit where
  toMoves := acts_averagers.moves
  setLink _ k := k
  reset _ _ _ := averagersFit_reset

end Sys2Proof.Machine

/-!
PROOF. The link: what a served request does to it (R172), its limits (R168, R171, R172), and with them every limit that
the spec gives (O55).
-/

namespace Sys2Proof.Machine

/-! ## The request in hand -/

/-- The link when the request in hand is answered OK. -/
def Link.complete (r : RawRequest) (l : Link) : Link :=
  { l with inHand := none, replies := l.replies ++ [{ own := true, code := r.code, tag := r.tag, payload := [0] }] }

theorem completeInHand_link_cases (code : Nat) (s : State) :
    (completeInHand code s).link = s.link ∨
      ∃ r, s.link.inHand = some r ∧ (completeInHand code s).link = s.link.complete r := by
  by_cases held : ∃ r, s.link.inHand = some r ∧ r.code = code
  · obtain ⟨r, inHand, kind⟩ := held
    exact .inr ⟨r, inHand, completeInHand_link inHand kind⟩
  · exact .inl (congrArg State.link (completeInHand_other fun r inHand kind => held ⟨r, inHand, kind⟩))

theorem follow_link (s : State) : (follow s).link = s.link := by rw [follow_eq, State.setMem_link]

/-- The controller's reactions answer at most the request in hand. -/
theorem settle_link_cases (s : State) :
    (settle s).link = s.link ∨ ∃ r, s.link.inHand = some r ∧ (settle s).link = s.link.complete r := by
  have entry (x : State) : (driveEntry x).link = x.link ∨
      ∃ r, x.link.inHand = some r ∧ (driveEntry x).link = x.link.complete r := by
    by_cases entering : ∃ c, x.mem.state = .entering c
    · obtain ⟨c, state⟩ := entering
      rw [driveEntry_in x c state]
      split
      · split
        · exact .inl rfl
        · split
          · exact .inl rfl
          · split
            · rw [completeEntry_eq]
              exact completeInHand_link_cases 0x40 x
            · exact .inl rfl
      · exact .inl rfl
    · rw [driveEntry_not x fun c state => entering ⟨c, state⟩]
      exact .inl rfl
  have driven : (drive s).link = s.link ∨ ∃ r, s.link.inHand = some r ∧ (drive s).link = s.link.complete r := by
    unfold drive
    generalize s.mem.stepBanks.startTransfer.driveRefresh = m
    exact entry (s.setMem m)
  unfold settle
  rw [follow_link]
  exact driven

/-! ## A served request leaves one reply, or stays in hand -/

/-- The request r, of kind q, is answered with a status; a refusal does nothing else, but for one of LOAD_MAP (R172). -/
def Answered (r : RawRequest) (q : Request) (s x : State) : Prop :=
  ∃ st body, x.link = (addReply true r st body s).link ∧
    (st = .ok ∨ (∃ n f i, q = .loadMap n f i) ∨ (body = [] ∧ x = addReply true r st [] s))

theorem addReply_link_of_eq {s y : State} (r : RawRequest) (st : Status) (body : List Byte) (link : y.link = s.link) :
    (addReply true r st body y).link = (addReply true r st body s).link := by
  unfold addReply; rw [link]; rfl

/-- An OK reply after changes outside the link. -/
theorem Answered.ok {r : RawRequest} {q : Request} {s y : State} (body : List Byte) (link : y.link = s.link) :
    Answered r q s (addReply true r .ok body y) := ⟨.ok, body, addReply_link_of_eq r _ _ link, .inl rfl⟩

theorem Answered.followed {r : RawRequest} {q : Request} {s y : State} (body : List Byte) (link : y.link = s.link) :
    Answered r q s (follow (addReply true r .ok body y)) :=
  ⟨.ok, body, (follow_link _).trans (addReply_link_of_eq r _ _ link), .inl rfl⟩

/-- A served request is answered, or stays in hand. -/
theorem Served.link_cases {order : List Track} {r : RawRequest} {q : Request} {s x : State} (e : Served order r q s x)
    (free : s.link.inHand = none) :
    Answered r q s x ∨ ((q = .standby ∨ q = .wake) ∧ x.link = { s.link with inHand := some r }) := by
  have h := (acts_link s.link).moves
  cases e with
  | refused st body _ empty =>
    refine .inl ⟨st, body, rfl, .inr ?_⟩
    by_cases load : ∃ n f i, q = .loadMap n f i
    · exact .inl load
    · have none := empty fun n f i e => load ⟨n, f, i, e⟩
      exact .inr ⟨none, by rw [none]⟩
  | told body => exact .inl (.ok body rfl)
  | setMarker _ _ u _ hx => exact .inl (.followed [] (h.setMarker order u hx rfl))
  | markerStatus _ u => exact .inl (.ok _ (h.putMarker u _ (MarkerUnit.inOrder_early _) rfl))
  | stage _ _ t _ hx => exact .inl (.ok [] rfl)
  | commit _ t struct limits => exact .inl (.followed [] (h.commit t struct limits rfl))
  | updateOffset _ t => exact .inl (.ok [] rfl)
  | arm n count t bound => exact .inl (.ok [] rfl)
  | stop _ t => exact .inl (.followed [] (h.stopTrack t rfl))
  | abort _ t => exact .inl (.followed [] (h.abortTrack t rfl))
  | reset _ t => exact .inl (.followed [] (by rw [resetTrack_eq_clearTrack]; exact h.clearTrack t rfl))
  | load n first items t bound =>
    refine .inl ⟨(applyItems t first items s).1, leBytes 2 (applyItems t first items s).2.1, ?_,
      .inr (.inl ⟨_, _, _, rfl⟩)⟩
    exact (follow_link _).trans (addReply_link_of_eq r _ _ (h.applyItems t first items bound rfl))
  | keep _ _ t x hf hk hc =>
    exact .inl (.ok [] (h.setKept t true x (List.mem_of_find?_eq_some hf) hk (fun _ => hc) rfl))
  | release _ _ t x hf hk =>
    exact .inl (.ok [] (h.setKept t false x (List.mem_of_find?_eq_some hf) hk (fun e => nomatch e) rfl))
  | drop _ _ t x hf complete => exact .inl (.followed [] (h.drop t x (List.mem_of_find?_eq_some hf) complete rfl))
  | standby =>
    have held : (setMemState (.entering .request) (holdInHand r s)).link = { s.link with inHand := some r } := rfl
    rcases settle_link_cases (setMemState (.entering .request) (holdInHand r s)) with same | ⟨r', inHand, done⟩
    · exact .inr ⟨.inl rfl, same.trans held⟩
    · rw [held] at inHand done
      cases inHand
      refine .inl ⟨.ok, [], ?_, .inl rfl⟩
      rw [done]
      simp only [Link.complete, addReply, State.setLink_link, ← free]
      rfl
  | standbyAgain => exact .inr ⟨.inl rfl, rfl⟩
  | wake => exact .inr ⟨.inr rfl, rfl⟩
  | wakeAgain => exact .inr ⟨.inr rfl, rfl⟩
  | wakeHeld => exact .inr ⟨.inr rfl, rfl⟩
  | autoStandby enable delay hd => exact .inl ⟨.ok, [], rfl, .inl rfl⟩
  | check c => exact .inl (.ok [] rfl)
  | readSweep _ _ _ _ _ _ _ x hx => exact .inl (.followed [] rfl)
  | readMean _ _ _ _ x hx => exact .inl (.followed [] rfl)
  | abortRead tag => exact .inl (.followed [] (h.endReads _ _ rfl))
  | averagerOn _ base kk coasted t good clear => exact .inl (.followed [] (h.freshStart t base kk _ good clear rfl))
  | averagerOff _ _ _ t => exact .inl (.followed [] (h.disableAverager t _ rfl))
  | restartAverage _ t => exact .inl (.ok [] (h.restartBlock t rfl))
  | noticeLevel _ level src high => exact .inl (.ok [] rfl)
  | threshold _ low high => exact .inl (.ok [] rfl)
  | clearNotices sources => exact .inl (.ok [] rfl)
  | resetPart => exact .inl (.followed [] (h.resetPart rfl))

/-! ## The limits of the link -/

/-- The limits of the request queue, the command unit's replies and the receive buffer (R168, R171, R172). -/
def Link.fits (l : Link) : Prop :=
  l.queue.length ≤ 4 ∧ (l.replies.filter (fun r => r.own)).length + l.inHand.toList.length ≤ 4 ∧ l.bufferFits

theorem Link.fits_complete {l : Link} {r : RawRequest} (inHand : l.inHand = some r) (h : l.fits) : (l.complete r).fits := by
  obtain ⟨queue, own, buffer⟩ := h
  rw [inHand] at own
  refine ⟨queue, ?_, buffer⟩
  simpa [Link.complete] using own

theorem linkFits_completeInHand {s : State} (code : Nat) (h : s.link.fits) : (completeInHand code s).link.fits := by
  rcases completeInHand_link_cases code s with same | ⟨r, inHand, done⟩
  · rw [same]; exact h
  · rw [done]; exact Link.fits_complete inHand h

theorem linkFits_settle {s : State} (h : s.link.fits) : (settle s).link.fits := by
  rcases settle_link_cases s with same | ⟨r, inHand, done⟩
  · rw [same]; exact h
  · rw [done]; exact Link.fits_complete inHand h

/-- A change of the receiver alone. -/
theorem Link.fits_receiver {l : Link} {st : ReceiverState} {buffer : List Byte}
    (fit : Link.bufferFits { l with receiver := st, buffer := buffer }) (h : l.fits) :
    Link.fits { l with receiver := st, buffer := buffer } := ⟨h.1, h.2.1, fit⟩

theorem linkFits_discardFrame {s : State} (kind : LinkErrorKind) (h : s.link.fits) : (discardFrame kind s).link.fits := by
  unfold discardFrame setReceiver
  rw [show ∀ x : State, (post Source.linkError (.linkError kind s.time) x).link = x.link from fun x => by simp]
  exact Link.fits_receiver (st := .hunt) (buffer := []) rfl h

theorem payloadLength_append {l : List Byte} {b : Byte} (long : 8 ≤ l.length) :
    payloadLength (l ++ [b]) = payloadLength l := by
  unfold payloadLength fieldAt
  rw [List.drop_append_of_le_length (by omega), List.take_append_of_le_length (by simp; omega)]

theorem linkFits_receiveByte {s : State} (b : Byte) (h : s.link.fits) : (receiveByte b s).link.fits := by
  have buffer := h.2.2
  unfold Link.bufferFits at buffer
  unfold receiveByte
  simp only [List.length_append, List.length_cons, List.length_nil]
  split
  · exact h
  · next header =>
    simp only [header] at buffer
    split
    · next short => exact Link.fits_receiver (by simpa [Link.bufferFits] using short) h
    · next long =>
      split
      · exact linkFits_discardFrame _ h
      · next room =>
        simp only [Config.maxPayload] at room
        refine Link.fits_receiver ?_ h
        simp only [Link.bufferFits, List.length_append, List.length_cons, List.length_nil]
        omega
  · next body =>
    simp only [body] at buffer
    split
    · exact linkFits_discardFrame _ h
    · next room =>
      refine Link.fits_receiver ?_ h
      simp only [Link.bufferFits, payloadLength_append buffer.1, List.length_append, List.length_cons, List.length_nil]
      omega

theorem linkFits_receiveEnd {s : State} (h : s.link.fits) : (receiveEnd s).link.fits := by
  unfold receiveEnd
  split
  · exact h
  · exact linkFits_discardFrame _ h
  · split
    · exact linkFits_discardFrame _ h
    · obtain ⟨queue, own, -⟩ := h
      unfold acceptRequest
      split
      · next room =>
        refine ⟨?_, own, rfl⟩
        simp only [setReceiver, State.setLink_link, Config.queueDepth] at room
        simp only [setReceiver, State.setLink_link, List.length_append, List.length_cons, List.length_nil]
        omega
      · exact ⟨queue, by simpa [addReply, setReceiver] using own, rfl⟩

theorem linkFits_receive {s : State} (sym : Symbol) (h : s.link.fits) : (receive sym s).link.fits := by
  have gap : (receiveGap s).link.fits := by
    unfold receiveGap
    split
    · exact h
    · exact linkFits_discardFrame _ h
    · exact linkFits_discardFrame _ h
  have start : (receiveStart s).link.fits := by
    have header : Link.bufferFits { s.link with receiver := .header, buffer := [] } := by simp [Link.bufferFits]
    unfold receiveStart setReceiver
    split
    · exact Link.fits_receiver header h
    · exact Link.fits_receiver (by simp [Link.bufferFits]) (linkFits_discardFrame _ h)
    · exact Link.fits_receiver (by simp [Link.bufferFits]) (linkFits_discardFrame _ h)
  cases sym with
  | data b => exact linkFits_receiveByte b h
  | idle => exact gap
  | start => exact start
  | stop => exact linkFits_receiveEnd h
  | undecodable => exact gap

theorem linkFits_sendNext {s : State} (h : s.link.fits) : (sendNext s).link.fits := by
  unfold sendNext setOutgoing
  split
  · next f x e =>
    unfold chooseFrame at e
    split at e
    · simp only [Option.some.injEq, Prod.mk.injEq] at e
      exact e.2 ▸ h
    · split at e
      · next r rest he =>
        simp only [Option.some.injEq, Prod.mk.injEq] at e
        obtain ⟨queue, own, buffer⟩ := h
        rw [← e.2]
        refine ⟨queue, ?_, buffer⟩
        rw [he] at own
        simp only [List.filter_cons] at own
        split at own
        · simp only [List.length_cons] at own
          simp only [State.setLink_link]; omega
        · exact own
      · have link : x.link = s.link := by
          split at e
          · next c hc =>
            obtain rfl : c = (f, x) := by simpa using e
            exact (acts_link s.link).chooseNotice hc rfl
          · exact (acts_link s.link).offeredFrame e rfl
        rw [State.setLink_link, link]
        exact h
  · exact h

/-- An event changes the link in the two pairs and in the controller's answer to a request in hand. -/
theorem linkFits_event {s x : State} (e : Event s x) (k : s.link.fits) : x.link.fits := by
  have h := (acts_link s.link).moves
  have kept {y : State} (link : y.link = s.link) : y.link.fits := link ▸ k
  cases e with
  | receive sym => exact linkFits_receive sym k
  | activeEdge u e => exact kept (h.activeEdge u e rfl)
  | trailingEdge u e order => exact kept (h.follow (h.trailingEdge u e order rfl))
  | levelEdge u ended => exact kept (h.follow (h.levelEdge u ended rfl))
  | closeWindow u order => exact kept (h.follow (h.closeWindow u order rfl))
  | strobe t => exact kept (h.strobe t rfl)
  | takeWord t word parity => exact kept (h.follow (h.takeWord t word parity rfl))
  | grant => exact linkFits_settle (kept (h.arbitrate rfl))
  | endClose b => exact linkFits_settle (kept (h.endClose b rfl))
  | endOpen b => exact linkFits_settle (kept (h.endOpen b rfl))
  | transfer => exact linkFits_settle (kept (h.completeTransfer rfl))
  | endRefresh => exact linkFits_settle (kept (h.endRefresh rfl))
  | refreshExpiry => exact linkFits_settle (kept (h.refreshExpiry rfl))
  | endWaking =>
    refine linkFits_settle ?_
    unfold endWaking
    split
    · exact linkFits_completeInHand 0x41 (by simpa using k)
    · exact k
    · exact k
    · exact k
  | delayExpiry => exact linkFits_settle (kept (h.delayExpiry rfl))
  | writeMean t => exact kept (h.writeMean t rfl)
  | buildMeanFrame => exact kept (h.buildMeanFrame rfl)
  | sendNext =>
    rw [follow_eq]
    exact linkFits_sendNext k

theorem Served.link_fits {order : List Track} {r : RawRequest} {q : Request} {s x : State} (e : Served order r q s x)
    (queue : s.link.queue.length ≤ 4) (free : s.link.inHand = none)
    (own : (s.link.replies.filter (fun r => r.own)).length < 4) (buffer : s.link.bufferFits) : x.link.fits := by
  rcases e.link_cases free with ⟨st, body, link, -⟩ | ⟨-, link⟩
  · rw [link]
    refine ⟨queue, ?_, buffer⟩
    simp only [addReply, State.setLink_link, List.filter_append, List.length_append, free]
    simpa using own
  · rw [link]
    exact ⟨queue, by simpa using own, buffer⟩

/-- One command keeps the limits of the link. -/
theorem linkFits_stepped {s x : State} (e : Stepped s x) (k : s.link.fits) : x.link.fits := by
  cases e with
  | reset held owed => exact ⟨Nat.zero_le _, Nat.zero_le _, rfl⟩
  | idle => exact k
  | pass dt => exact k
  | event dt e => exact linkFits_event e k
  | served dt order r rest q serves served =>
    obtain ⟨-, free, own, queue, -⟩ := serves
    have room := k.1
    rw [queue, List.length_cons] at room
    exact served.link_fits (Nat.le_of_succ_le room) free own k.2.2
  | malformed dt r rest body free own queue =>
    have room := k.1
    rw [queue, List.length_cons] at room
    refine ⟨Nat.le_of_succ_le room, ?_, k.2.2⟩
    unfold ownWaiting at own
    simp only [addReply, handed, State.setLink_link, List.filter_append, List.length_append, free]
    simpa using own

theorem withinLimits_iff (s : State) :
    WithinLimits s ↔ s.mem.fits ∧ s.link.fits ∧ s.readout.fits ∧ s.notices.fits ∧ (∀ t, (s.track t).countsFit) ∧
      AveragersFit s := by
  constructor
  · rintro ⟨m1, m2, m3, m4, l1, l2, q1, q2, fifo, m5, m6, n1, n2, n3, n4, counts, l3, av⟩
    exact ⟨⟨m1, m2, m3, m4, m5, m6⟩, ⟨l1, l2, l3⟩, ⟨q1, q2⟩, ⟨n1, n2, n3, n4⟩, fun t => ⟨fifo t, counts t⟩, av⟩
  · rintro ⟨⟨m1, m2, m3, m4, m5, m6⟩, ⟨l1, l2, l3⟩, ⟨q1, q2⟩, ⟨n1, n2, n3, n4⟩, counts, av⟩
    exact ⟨m1, m2, m3, m4, l1, l2, q1, q2, fun t => (counts t).1, m5, m6, n1, n2, n3, n4, fun t => (counts t).2, l3, av⟩

/-- Settles O55: the limits of each block, each kept by every command. -/
theorem everyStepStaysWithinLimits : Obligations.EveryStepStaysWithinLimits := by
  refine kept_of_stepped (fun _ _ k => k) (fun s x k e => ?_)
  rw [withinLimits_iff] at k ⊢
  obtain ⟨mem, link, readout, notices, counts, averagers⟩ := k
  exact ⟨steps_mem.stepped e mem, linkFits_stepped e link, steps_readout.stepped e readout,
    steps_notices.stepped e notices, steps_counts.stepped e counts, steps_averagers.stepped e averagers⟩

/-- Settles O7. -/
theorem everyRequestIsTakenAndAnswered : Obligations.EveryRequestIsTakenAndAnswered := by
  intro dt order s r rest q serves
  obtain ⟨x, answers, served⟩ := exec_command_served dt order serves
  obtain ⟨-, free, -⟩ := serves
  refine ⟨x, answers, ?_⟩
  rcases served.link_cases free with ⟨st, body, link, -⟩ | ⟨kind, link⟩
  · rw [link]
    exact ⟨rfl, .inl ⟨st, body, rfl, free⟩⟩
  · rw [link]
    exact ⟨rfl, .inr ⟨kind, rfl, rfl⟩⟩

theorem Status.code_inj {a b : Status} (h : a.code = b.code) : a = b := by
  cases a <;> cases b <;> simp [Status.code] at h ⊢

/-- Settles O8: a reply that is not OK is that of a refusal. -/
theorem refusedRequestChangesNothing : Obligations.RefusedRequestChangesNothing := by
  intro dt order s x r rest q st body serves notLoad answers bad replies
  obtain ⟨y, answers', served⟩ := exec_command_served dt order serves
  obtain rfl : y = x := by simpa [answers] using answers'.symm
  obtain ⟨-, free, -⟩ := serves
  rcases served.link_cases free with ⟨st', body', link, how⟩ | ⟨-, link⟩
  · have same : [({ own := true, code := r.code, tag := r.tag, payload := st'.code :: body' } : Reply)] =
        [{ own := true, code := r.code, tag := r.tag, payload := st.code :: body }] :=
      List.append_cancel_left ((congrArg Link.replies link).symm.trans replies)
    simp only [List.cons.injEq, Reply.mk.injEq, true_and, and_true] at same
    obtain ⟨code, rfl⟩ := same
    obtain rfl := Status.code_inj code
    rcases how with ok | ⟨n, f, i, load⟩ | ⟨empty, refused⟩
    · exact absurd ok bad
    · exact absurd load (notLoad n f i)
    · exact ⟨empty, refused⟩
  · have same : s.link.replies = s.link.replies ++ [_] := (congrArg Link.replies link).symm.trans replies
    simp at same

end Sys2Proof.Machine

/-!
PROOF. The parameter sets and the write positions (O56).
-/

namespace Sys2Proof.Machine

/-- The write position of a track stands in its window or at its end (R93). -/
def State.inWindow (s : State) (t : Track) : Prop :=
  (s.track t).active.base ≤ s.writePosition t ∧
  s.writePosition t ≤ (s.track t).active.base + (s.track t).active.windowSize

/-- The sets of every track are in order, and the write positions of the tracks with w. -/
def SetsWith (w : Track → Prop) (s : State) : Prop := ∀ t, (s.track t).setsFit ∧ (w t → s.inWindow t)

theorem setsInOrder_iff (s : State) : SetsInOrder s ↔ SetsWith (fun _ => True) s := by
  unfold SetsInOrder SetsWith TrackUnit.setsFit State.inWindow
  exact forall_congr' fun t => by simp only [and_assoc, true_implies]

section
variable {w v : Track → Prop} {s x : State}

theorem SetsWith.mono (h : SetsWith w s) (less : ∀ t, v t → w t) : SetsWith v s :=
  fun t => ⟨(h t).1, fun hv => (h t).2 (less t hv)⟩

theorem SetsWith.putTrack (h : SetsWith w s) (t : Track) {u : TrackUnit} (sets : (s.track t).setsFit → u.setsFit)
    (window : w t → u.active.base = (s.track t).active.base ∧ u.active.windowSize = (s.track t).active.windowSize) :
    SetsWith w (s.putTrack t u) := by
  intro k
  unfold State.inWindow
  rw [State.track_putTrack]
  split
  · next e =>
    subst e
    refine ⟨sets (h k).1, fun hw => ?_⟩
    rw [(window hw).1, (window hw).2]
    exact (h k).2 hw
  · exact h k

/-- The write position of the one track that was left out. -/
theorem SetsWith.putWritePosition {t : Track} {n : Nat} (h : SetsWith (· ≠ t) s) (low : (s.track t).active.base ≤ n)
    (high : n ≤ (s.track t).active.base + (s.track t).active.windowSize) : SetsInOrder (s.putWritePosition t n) := by
  rw [setsInOrder_iff]
  intro k
  refine ⟨(h k).1, fun _ => ?_⟩
  unfold State.inWindow
  by_cases e : k = t
  · subst e
    rw [State.writePosition_putWritePosition_same]
    exact ⟨low, high⟩
  · rw [State.writePosition_putWritePosition_other _ _ (Ne.symm e)]
    exact (h k).2 e

end

theorem recordWrites_sets (w : Track → Prop) : RecordWrites (SetsWith w) where
  setTime _ k := k
  setRefreshElapsed _ k := k
  setLanes _ k := k
  setCheck _ k := k
  setMem _ _ k := k
  setReadout _ _ k := k
  setNotices _ _ k := k
  setAveragerRam _ _ k := k
  setDrams _ _ _ _ k := k
  putMarker u _ _ k := by cases u <;> exact k
  putTrack t _ tame k := SetsWith.putTrack k t tame.sets (fun _ => by rw [tame.active]; exact ⟨rfl, rfl⟩)
  turn t _ _ _ k := SetsWith.putTrack k t (fun h => h) (fun _ => ⟨rfl, rfl⟩)
  putAverager _ _ _ k := k
  mapRecords _ _ _ k := k
  putRecords _ _ k := k
  putMap _ _ k := k
  setOwners _ k := k

theorem recordWrites_active (t : Track) (a : ParamSet) : RecordWrites (fun s => (s.track t).active = a) where
  setTime _ k := k
  setRefreshElapsed _ k := k
  setLanes _ k := k
  setCheck _ k := k
  setMem _ _ k := k
  setReadout _ _ k := k
  setNotices _ _ k := k
  setAveragerRam _ _ k := k
  setDrams _ _ _ _ k := k
  putMarker u _ _ k := by cases u <;> exact k
  putTrack _ _ tame k := by
    rw [State.track_putTrack]
    split
    · next e => rw [tame.active, ← e]; exact k
    · exact k
  turn _ _ _ _ k := by
    rw [State.track_putTrack]
    split
    · next e => rw [← e]; exact k
    · exact k
  putAverager _ _ _ k := k
  mapRecords _ _ _ k := k
  putRecords _ _ k := k
  putMap _ _ k := k
  setOwners _ k := k

/-- A new active set in order. -/
theorem TrackUnit.setsFit_activate {u : TrackUnit} {a : ParamSet} (range : a.inRange) (joined : a.joined)
    (h : u.setsFit) : (u.activate a).setsFit := by
  obtain ⟨staged, -, -, -, low, high⟩ := h
  refine ⟨staged, range, joined, ?_, offsetUnder_range range low high⟩
  rintro p ⟨⟩

theorem TrackUnit.setsFit_takeSequence {u : TrackUnit} (st : TrackState) (h : u.setsFit) :
    ({ u.takeSequence with state := st } : TrackUnit).setsFit := by
  unfold TrackUnit.takeSequence
  split <;> exact h

theorem TrackUnit.active_takeSequence (u : TrackUnit) : u.takeSequence.active = u.active := by
  unfold TrackUnit.takeSequence
  split <;> rfl

theorem SetsWith.activateSet {w : Track → Prop} {s : State} (t : Track) {a : ParamSet} (range : a.inRange)
    (joined : a.joined)
    (window : w t → a.base = (s.track t).active.base ∧ a.windowSize = (s.track t).active.windowSize)
    (k : SetsWith w s) : SetsWith w (activateSet t a s) :=
  (recordWrites_sets w).activateSet t a (SetsWith.putTrack k t (TrackUnit.setsFit_activate range joined) window)

theorem activateSet_active (t : Track) (a : ParamSet) (s : State) : ((activateSet t a s).track t).active = a :=
  (recordWrites_active t a).activateSet t a (by rw [State.track_putTrack_same]; rfl)

/-- A commit takes the write position to the base of a changed window (R26). -/
theorem setsInOrder_commitNow {s : State} (t : Track) (limits : (s.track t).staged.limitsHold = true)
    (k : SetsInOrder s) : SetsInOrder (commitNow t s) := by
  rw [setsInOrder_iff] at k
  have range := (k t).1.1
  have joined := ParamSet.joined_of_limitsHold limits
  unfold commitNow
  simp only
  split
  · next same => exact (setsInOrder_iff _).mpr (k.activateSet t range joined (fun _ => same))
  · refine ((k.mono fun _ _ => trivial).activateSet t range joined (fun e => absurd rfl e)).putWritePosition ?_ ?_ <;>
      rw [activateSet_active]
    exact Nat.le_add_right _ _

/-- The next position of a placement is the end of its range (R93). -/
theorem setsInOrder_placeAt {s : State} (t : Track) {c : Nat} (found : placementScan s t = .found c)
    (k : SetsInOrder s) : SetsInOrder (placeAt t c s) := by
  rw [setsInOrder_iff] at k
  obtain ⟨⟨-, -, ⟨-, pages, -⟩, -⟩, window⟩ := k t
  have room : pageCount (s.track t).active.length ≤ (s.track t).active.windowSize := by unfold pageCount; omega
  obtain ⟨low, high, -⟩ := placementScan_found room (window trivial).1 found
  obtain ⟨x, placed, writes⟩ := placeAt_writes t c s
  rw [placed]
  refine (writes (recordWrites_sets _) (k.mono fun _ _ => trivial)).putWritePosition ?_ ?_ <;>
    rw [writes (recordWrites_active t (s.track t).active) rfl] <;> omega

/-- The write position of a track after RESET_TRACK is its base, and the others stay. -/
theorem clearTrack_writePosition (t k : Track) (s : State) :
    (clearTrack t s).writePosition k = if k = t then (s.track t).active.base else s.writePosition k := by
  unfold clearTrack
  by_cases e : k = t
  · rw [if_pos e, e]
    exact (TrackReset.write_own (TrackReset.of t s) t s).2.2.2.1
  · rw [if_neg e]
    exact (TrackReset.write_other (TrackReset.of t s) t k s e).2.2.2.2.1

theorem setsInOrder_clearTrack {s : State} (t : Track) (k : SetsInOrder s) : SetsInOrder (clearTrack t s) := by
  rw [setsInOrder_iff] at k ⊢
  intro u
  unfold State.inWindow
  rw [clearTrack_track, clearTrack_writePosition]
  split
  · obtain ⟨⟨staged, range, joined, -, offset⟩, -⟩ := k t
    refine ⟨⟨staged, range, joined, ?_, offset⟩, fun _ => ⟨Nat.le_refl _, Nat.le_add_right _ _⟩⟩
    rintro p ⟨⟩
  · exact k u

/-- The sets and write positions, as the other registers change. -/
theorem SetsInOrder.of_eq {s x : State} (k : SetsInOrder s) (track : ∀ t, x.track t = s.track t)
    (position : ∀ t, x.writePosition t = s.writePosition t) : SetsInOrder x := by
  unfold SetsInOrder
  simp only [track, position]
  exact k

theorem setsInOrder_reset : SetsInOrder State.reset := by
  rw [setsInOrder_iff]
  intro t
  have unit : State.reset.track t = TrackUnit.reset := by simp [State.track, State.reset]
  have position : State.reset.writePosition t = 0 := by simp [State.writePosition, State.reset]
  unfold State.inWindow
  rw [unit, position]
  refine ⟨⟨?_, ?_, ?_, ?_, ?_⟩, fun _ => ?_⟩
  · simp [TrackUnit.reset, ParamSet.inRange, ParamSet.default]
  · simp [TrackUnit.reset, ParamSet.inRange, ParamSet.default]
  · simp [TrackUnit.reset, ParamSet.joined, ParamSet.default]
  · rintro p ⟨⟩
  · simp [TrackUnit.reset]
  · simp [TrackUnit.reset, ParamSet.default]

theorem acts_sets : Acts SetsInOrder := by
  have eq : SetsInOrder = SetsWith (fun _ => True) := funext fun s => propext (setsInOrder_iff s)
  have writes : RecordWrites SetsInOrder := eq ▸ recordWrites_sets _
  refine writes.acts
    (takeSequence := fun {s} t k => ?_)
    (place := fun t c found k => setsInOrder_placeAt t found k)
    (activate := fun {s} t a pending k => ?_)
    (commitNow := fun t limits k => setsInOrder_commitNow t limits k)
    (clearTrack := fun t k => setsInOrder_clearTrack t k)
    (freshStart := fun {s} t base kk coasted _ _ k => ?_)
  · rw [setsInOrder_iff] at k ⊢
    exact SetsWith.putTrack k t (TrackUnit.setsFit_takeSequence _) (fun _ => by
      simp only [TrackUnit.active_takeSequence, and_self])
  · rw [setsInOrder_iff] at k ⊢
    obtain ⟨-, -, -, sets, -⟩ := (k t).1
    obtain ⟨range, joined, -, base, window⟩ := sets a pending
    exact SetsWith.activateSet t range joined (fun _ => ⟨base, window⟩) k
  · exact SetsInOrder.of_eq k (fun u => by simp [freshStart_eq, State.track])
      (fun u => by simp [freshStart_eq, replaceAverager, State.writePosition])

theorem steps_sets : Steps SetsInOrder where
  toMoves := acts_sets.moves
  setLink _ k := k
  reset _ _ _ := setsInOrder_reset

/-- Settles O56: a pending set has the window of the active one, and only a commit outside capture changes a window. -/
theorem parameterSetsStayInOrder : Obligations.ParameterSetsStayInOrder :=
  steps_sets.kept (fun _ _ k => k)

end Sys2Proof.Machine

/-!
PROOF. The index of a track with its keep marks, as one value (files 04 and 05): what each act makes of it, and which
properties of it every act keeps.
-/

namespace Sys2Proof.Machine

/-- The records of a track's index and the map that carries their keep marks. -/
structure TrackIndex where
  records : List SweepRecord
  map : Table MapEntry

/-- The index and the map of a track. -/
def State.indexOf (s : State) (t : Track) : TrackIndex := { records := s.records t, map := s.map t }

/-- A record leaves the index; a kept one gives up its keep marks (R69, R95). -/
def TrackIndex.remove (r : SweepRecord) (v : TrackIndex) : TrackIndex :=
  { records := v.records.filter (fun x => x.seq ≠ r.seq),
    map := if r.kept then markKeep false r.firstPage (pageCount r.length) v.map else v.map }

/-- Several records leave the index, in the order given. -/
def TrackIndex.removeAll (rs : List SweepRecord) (v : TrackIndex) : TrackIndex := rs.foldl (fun v r => v.remove r) v

/-- The oldest qualifying record leaves a full index (R93, step 2). -/
def TrackIndex.makeRoom (v : TrackIndex) : TrackIndex :=
  if Config.maxRecords ≤ v.records.length then
    match v.records.find? (fun r => r.state = .complete && !r.kept) with
    | some r => v.remove r
    | none => v
  else v

/-- The retirements of a placement on n pages from c on (R93, steps 1 and 2). -/
def TrackIndex.place (c n : Nat) (v : TrackIndex) : TrackIndex :=
  (v.removeAll (v.records.filter (fun r => (pageRange c n).any (fun p => r.occupies p)))).makeRoom

/-- The sweep on a logical page leaves the index (R74). -/
def TrackIndex.vacate (l : Nat) (v : TrackIndex) : TrackIndex :=
  match v.records.find? (SweepRecord.occupies l) with
  | some r => v.remove r
  | none => v

/-- A record's keep is set or cleared with the keep marks of its pages (R86, R87). -/
def TrackIndex.setKept (k : Bool) (x : SweepRecord) (v : TrackIndex) : TrackIndex :=
  { records := v.records.map (fun r => if r.seq = x.seq then r.setKept k else r),
    map := markKeep k x.firstPage (pageCount x.length) v.map }

/-! ## The acts, seen by one track -/

section
variable (t k : Track) (s : State)

theorem State.indexOf_putRecords (rs : List SweepRecord) :
    (s.putRecords t rs).indexOf k = if k = t then { records := rs, map := s.map t } else s.indexOf k := by
  unfold State.indexOf
  by_cases e : k = t
  · subst e; simp
  · rw [State.records_putRecords_other _ _ (Ne.symm e), if_neg e]; simp

theorem State.indexOf_putMap (m : Table MapEntry) :
    (s.putMap t m).indexOf k = if k = t then { records := s.records t, map := m } else s.indexOf k := by
  unfold State.indexOf
  by_cases e : k = t
  · subst e; simp
  · rw [State.map_putMap_other _ _ (Ne.symm e), if_neg e]; simp

/-- What leaves the index and the maps alone. -/
theorem State.indexOf_of_eq {s x : State} (index : x.index = s.index) (maps : x.maps = s.maps) :
    x.indexOf k = s.indexOf k := by
  unfold State.indexOf State.records State.map
  rw [index, maps]

theorem removeRecord_index (r : SweepRecord) :
    (removeRecord t r s).indexOf k = if k = t then (s.indexOf t).remove r else s.indexOf k := by
  unfold removeRecord claimKeep TrackIndex.remove
  simp only
  split
  · rw [State.indexOf_putMap, State.indexOf_putRecords]
    split
    · simp [State.indexOf]
    · rfl
  · rw [State.indexOf_putRecords]
    rfl

theorem retire_index (r : SweepRecord) :
    (retire t r s).indexOf k = if k = t then (s.indexOf t).remove r else s.indexOf k := by
  rw [← removeRecord_index]
  unfold retire
  simp only
  split <;> exact State.indexOf_of_eq k (by simp) (by simp)

theorem retireAll_index (rs : List SweepRecord) :
    (retireAll t rs s).indexOf k = if k = t then (s.indexOf t).removeAll rs else s.indexOf k := by
  unfold retireAll TrackIndex.removeAll
  induction rs generalizing s with
  | nil => split <;> simp_all
  | cons r rs ih =>
    rw [List.foldl_cons, List.foldl_cons, ih, retire_index, retire_index, if_pos rfl]
    split <;> rfl

/-- The retirement from a full index, as `placeAt` writes it. -/
theorem makeRoom_index :
    (if Config.maxRecords ≤ (s.records t).length then
      match (s.records t).find? (fun r => r.state = .complete && !r.kept) with
      | some r => retire t r s
      | none => s
    else s).indexOf k = if k = t then (s.indexOf t).makeRoom else s.indexOf k := by
  have same {x : TrackIndex} (e : k = t → x = s.indexOf t) : s.indexOf k = if k = t then x else s.indexOf k := by
    split
    · next own => rw [e own, own]
    · rfl
  unfold TrackIndex.makeRoom
  rw [show (s.indexOf t).records = s.records t from rfl]
  split
  · split
    · exact retire_index t k s _
    · exact same fun _ => rfl
  · exact same fun _ => rfl

theorem placeAt_index (c : Nat) :
    (placeAt t c s).indexOf k =
      if k = t then (s.indexOf t).place c (pageCount (s.track t).active.length) else s.indexOf k := by
  have retired (u : Track) := retireAll_index t u s
    ((s.records t).filter (fun r => (pageRange c (pageCount (s.track t).active.length)).any (fun p => r.occupies p)))
  refine (makeRoom_index t k _).trans ?_
  rw [retired, retired, if_pos rfl]
  split <;> rfl

end

/-! ## Properties of every track's index and sequence counter -/

/-- A change of a record that keeps its sequence, its pages and its keep, and does not make it incomplete. -/
structure SweepRecord.Alike (r x : SweepRecord) : Prop where
  seq : x.seq = r.seq
  kept : x.kept = r.kept
  firstPage : x.firstPage = r.firstPage
  length : x.length = r.length
  incomplete : x.incomplete = true → r.incomplete = true

theorem SweepRecord.Tame.alike {r x : SweepRecord} (h : r.Tame x) : r.Alike x :=
  ⟨h.seq, h.kept, h.firstPage, h.length, h.incomplete⟩

theorem SweepRecord.alike_drain (short : Bool) (r : SweepRecord) : r.Alike (r.drain short) := by
  unfold SweepRecord.drain
  split
  · next filling => exact ⟨rfl, rfl, rfl, rfl, fun _ => by simp [SweepRecord.incomplete, filling]⟩
  · exact ⟨rfl, rfl, rfl, rfl, id⟩

/-- The property P of an index, the track's sequence counter and whether it is spent is kept by every act on them. -/
structure IndexRules (P : TrackIndex → Nat → Bool → Prop) : Prop where
  map : ∀ {v c b} (f : SweepRecord → SweepRecord), (∀ r : SweepRecord, r.Alike (f r)) → P v c b →
    P { v with records := v.records.map f } c b
  remove : ∀ {v c b} r, r ∈ v.records → P v c b → P (v.remove r) c b
  extend : ∀ {v c} (r : SweepRecord), r.seq = c → r.kept = false →
    (v.records.filter (fun y => y.incomplete)).length < 2 → P v c false →
    P { v.place r.firstPage (pageCount r.length) with
        records := (v.place r.firstPage (pageCount r.length)).records ++ [r] }
      (if c < 2 ^ 32 - 1 then c + 1 else c) (if c < 2 ^ 32 - 1 then false else true)
  load : ∀ {v c b l} (m : Table MapEntry), (∀ e, tget v.map l = some e → e.keep = false) →
    (∀ e, tget m l = some e → e.keep = false) → (∀ j, j ≠ l → tget m j = tget v.map j) → P v c b →
    P ({ v with map := m }.vacate l) c b
  keep : ∀ {v c b} k x, x ∈ v.records → x.kept = !k →
    (k = true → (v.records.filter (fun y => y.kept)).length < 32) → P v c b → P (v.setKept k x) c b
  clear : ∀ {v c b}, P v c b → P { records := [], map := clearKeepMarks v.map } 0 false

/-- The property of every track. -/
def EveryIndex (P : TrackIndex → Nat → Bool → Prop) (s : State) : Prop :=
  ∀ t, P (s.indexOf t) (s.track t).seqCounter (s.track t).spent

section
variable {P : TrackIndex → Nat → Bool → Prop} {s x : State}

/-- One track's index changes. -/
theorem EveryIndex.change (h : EveryIndex P s) (t : Track) {v : TrackIndex}
    (index : ∀ k, x.indexOf k = if k = t then v else s.indexOf k)
    (counter : ∀ k, (x.track k).seqCounter = (s.track k).seqCounter ∧ (x.track k).spent = (s.track k).spent)
    (own : P (s.indexOf t) (s.track t).seqCounter (s.track t).spent →
      P v (s.track t).seqCounter (s.track t).spent) : EveryIndex P x := by
  intro k
  rw [index, (counter k).1, (counter k).2]
  split
  · next e => exact e ▸ own (h t)
  · exact h k

theorem EveryIndex.putTrack (h : EveryIndex P s) (t : Track) {u : TrackUnit}
    (counter : u.seqCounter = (s.track t).seqCounter) (spent : u.spent = (s.track t).spent) :
    EveryIndex P (s.putTrack t u) := by
  refine h.change t (v := s.indexOf t) (fun k => ?_) (fun k => ?_) id
  · split
    · next e => rw [e]; rfl
    · rfl
  · rw [State.track_putTrack]
    split
    · next e => exact e ▸ ⟨counter, spent⟩
    · exact ⟨rfl, rfl⟩

theorem EveryIndex.of_eq (h : EveryIndex P s) (index : ∀ t, x.indexOf t = s.indexOf t)
    (counter : ∀ t, (x.track t).seqCounter = (s.track t).seqCounter ∧ (x.track t).spent = (s.track t).spent) :
    EveryIndex P x := by
  intro t
  rw [index, (counter t).1, (counter t).2]
  exact h t

end

/-- No write of a record, a map or an owner, and no write that keeps the sequence counters, changes them. -/
theorem recordWrites_counter (t : Track) (c : Nat) (b : Bool) :
    RecordWrites (fun s => (s.track t).seqCounter = c ∧ (s.track t).spent = b) where
  setTime _ k := k
  setRefreshElapsed _ k := k
  setLanes _ k := k
  setCheck _ k := k
  setMem _ _ k := k
  setReadout _ _ k := k
  setNotices _ _ k := k
  setAveragerRam _ _ k := k
  setDrams _ _ _ _ k := k
  putMarker u _ _ k := by cases u <;> exact k
  putTrack _ _ tame k := by
    rw [State.track_putTrack]
    split
    · next e => rw [tame.seqCounter, tame.spent, ← e]; exact k
    · exact k
  turn _ _ _ _ k := by
    rw [State.track_putTrack]
    split
    · next e => rw [← e]; exact k
    · exact k
  putAverager _ _ _ k := k
  mapRecords _ _ _ k := k
  putRecords _ _ k := k
  putMap _ _ k := k
  setOwners _ k := k

theorem TrackUnit.takeSequence_counter (u : TrackUnit) :
    u.takeSequence.seqCounter = (if u.seqCounter < 2 ^ 32 - 1 then u.seqCounter + 1 else u.seqCounter) ∧
    u.takeSequence.spent = (if u.seqCounter < 2 ^ 32 - 1 then u.spent else true) := by
  unfold TrackUnit.takeSequence
  split <;> exact ⟨rfl, rfl⟩

section
variable (t : Track) (l : Nat) (item : LoadItem) (s : State)

/-- A load item changes the entry at l alone, and the new one has no keep mark (R73, R74). -/
theorem writeItem_map (unkept : ∀ e, tget (s.map t) l = some e → e.keep = false) :
    ∃ a : Option MapEntry, (∀ e, a = some e → e.keep = false) ∧
      ∀ j, tget ((writeItem t l item s).map t) j = if j = l then a else tget (s.map t) j := by
  have freed : (freePage s t l).map t = s.map t := by unfold freePage; split <;> rfl
  cases item with
  | unmap =>
    refine ⟨none, by simp, fun j => ?_⟩
    unfold writeItem applyUnmap
    simp only [State.map_putMap_same, freed, tget_terase]
  | map page hp =>
    unfold writeItem applyMap
    simp only
    split
    · next e he =>
      split
      · refine ⟨some { e with hostProtect := hp }, fun f hf => ?_, fun j => by simp only [State.map_putMap_same, tget_tput]⟩
        cases hf
        exact unkept e he
      · refine ⟨some { page := page, hostProtect := hp, keep := false }, fun f hf => by cases hf; rfl, fun j => ?_⟩
        simp only [State.map_putMap_same, tget_tput]
        rw [← freed]
        rfl
    · refine ⟨some { page := page, hostProtect := hp, keep := false }, fun f hf => by cases hf; rfl, fun j => ?_⟩
      simp only [State.map_putMap_same, tget_tput]
      rfl

theorem writeItem_index (k : Track) : (writeItem t l item s).indexOf k =
    if k = t then { s.indexOf t with map := (writeItem t l item s).map t } else s.indexOf k := by
  obtain ⟨o, m, written⟩ := writeItem_only t l item s
  have own : (writeItem t l item s).map t = m := by rw [written]; simp
  rw [own, written, State.indexOf_putMap]
  rfl

theorem applyItem_index (k : Track) : (applyItem t l item s).indexOf k =
    if k = t then ({ s.indexOf t with map := (writeItem t l item s).map t } : TrackIndex).vacate l else s.indexOf k := by
  have written (k : Track) := writeItem_index t l item s k
  have records : (writeItem t l item s).records t = s.records t := by
    have := written t
    rw [if_pos rfl] at this
    exact congrArg TrackIndex.records this
  rw [applyItem_eq]
  unfold occupant TrackIndex.vacate
  rw [records]
  split <;> rename_i found
  · rw [retire_index, written, written, if_pos rfl]
    split
    · simp only [State.indexOf, found]
    · rfl
  · rw [written]
    split
    · simp only [State.indexOf, found]
    · rfl

theorem applyItem_counter (k : Track) : ((applyItem t l item s).track k).seqCounter = (s.track k).seqCounter ∧
    ((applyItem t l item s).track k).spent = (s.track k).spent := by
  have h := recordWrites_counter k (s.track k).seqCounter (s.track k).spent
  have written : ((writeItem t l item s).track k).seqCounter = (s.track k).seqCounter ∧
      ((writeItem t l item s).track k).spent = (s.track k).spent := by
    obtain ⟨o, m, e⟩ := writeItem_only t l item s
    rw [e]
    exact ⟨rfl, rfl⟩
  rw [applyItem_eq]
  split
  · exact h.retire t _ written
  · exact written

end

section
variable {P : TrackIndex → Nat → Bool → Prop} (h : IndexRules P) {s : State}
include h

theorem IndexRules.claim (t : Track) (seq : Nat) (f : SweepRecord → SweepRecord) (alike : ∀ r : SweepRecord, r.Alike (f r))
    (k : EveryIndex P s) : EveryIndex P (claim t seq f s) := by
  refine k.change t (fun u => State.indexOf_putRecords t u s _) (fun u => ⟨rfl, rfl⟩)
    (h.map (v := s.indexOf t) (fun r => if r.seq = seq then f r else r) fun r => ?_)
  split
  · exact alike r
  · exact ⟨rfl, rfl, rfl, rfl, id⟩

theorem IndexRules.removeRecord (t : Track) (r : SweepRecord) (mem : r ∈ s.records t) (k : EveryIndex P s) :
    EveryIndex P (removeRecord t r s) :=
  k.change t (fun u => removeRecord_index t u s r) (fun u => by simp [State.track]) (h.remove r mem)

theorem IndexRules.activateSet (t : Track) (a : ParamSet) (k : EveryIndex P s) : EveryIndex P (activateSet t a s) := by
  have unit : EveryIndex P (s.putTrack t ((s.track t).activate a)) := k.putTrack t rfl rfl
  have tracks : (Machine.activateSet t a s).tracks = (s.putTrack t ((s.track t).activate a)).tracks := by
    unfold Machine.activateSet
    simp only
    split <;> simp
  exact unit.of_eq (fun u => State.indexOf_of_eq u (by simp) (by simp)) (fun u => by simp only [State.track]; rw [tracks]; exact ⟨rfl, rfl⟩)

/-- The record of a new sweep joins the index after the retirements of its placement (R50, R93). -/
theorem IndexRules.openRecord (t : Track) (ev : MarkerEvent) (c : Nat) (unspent : (s.track t).spent = false)
    (few : incompleteCount s t < 2) (k : EveryIndex P s) : EveryIndex P (openRecord t ev c (placeAt t c s)) := by
  have active : ((placeAt t c s).track t).active = (s.track t).active :=
    (recordWrites_active t _).placeAt t c rfl (fun _ kx => kx)
  have counter (u : Track) : ((placeAt t c s).track u).seqCounter = (s.track u).seqCounter ∧
      ((placeAt t c s).track u).spent = (s.track u).spent :=
    (recordWrites_counter u _ _).placeAt t c ⟨rfl, rfl⟩ (fun _ kx => kx)
  have index (u : Track) := placeAt_index t u s c
  generalize placeAt t c s = x at active counter index ⊢
  have own : (s.indexOf t).place (newRecord (x.track t) ev c).firstPage (pageCount (newRecord (x.track t) ev c).length) =
      x.indexOf t := by
    rw [index, if_pos rfl, ← active]
    rfl
  have placed := h.extend (v := s.indexOf t) (newRecord (x.track t) ev c) (counter t).1 rfl few (unspent ▸ k t)
  rw [own, ← (counter t).1] at placed
  have next := TrackUnit.takeSequence_counter (x.track t)
  rw [(counter t).2, unspent] at next
  intro u
  unfold Machine.openRecord
  by_cases e : u = t
  · subst e
    rw [State.indexOf_putRecords, if_pos rfl]
    rw [← next.1, ← next.2] at placed
    have unit : ((x.putTrack u { (x.track u).takeSequence with state := .sweeping }).putRecords u
        (x.records u ++ [newRecord (x.track u) ev c])).track u = { (x.track u).takeSequence with state := .sweeping } :=
      State.track_putTrack_same x _ _
    rw [unit]
    exact placed
  · rw [State.indexOf_putRecords, if_neg e]
    have other := index u
    rw [if_neg e] at other
    have unit : ((x.putTrack t { (x.track t).takeSequence with state := .sweeping }).putRecords t
        (x.records t ++ [newRecord (x.track t) ev c])).track u = x.track u := by
      exact State.track_putTrack_other _ _ (Ne.symm e)
    rw [unit, (counter u).1, (counter u).2, show (x.putTrack t _).indexOf u = x.indexOf u from rfl, other]
    exact k u

/-- The register writes keep every index but for what they write on its records. -/
theorem IndexRules.writes : Writes (EveryIndex P) where
  setTime _ k := k
  setRefreshElapsed _ k := k
  setLanes _ k := k
  setCheck _ k := k
  setMem _ _ k := k
  setReadout _ _ k := k
  setNotices _ _ k := k
  setAveragerRam _ _ k := k
  setDrams _ _ _ _ k := k
  putMarker u _ _ k := by cases u <;> exact k
  putTrack t _ tame k := EveryIndex.putTrack k t tame.seqCounter tame.spent
  putAverager _ _ _ k := k
  mapRecords t f tame k :=
    EveryIndex.change k t (fun u => State.indexOf_putRecords t u _ _) (fun _ => ⟨rfl, rfl⟩)
      (h.map f fun r => (tame r).alike)

omit h in
theorem setKept_index (t : Track) (v : Bool) (x : SweepRecord) (u : Track) (s : State) :
    (setKept t v x s).indexOf u = if u = t then (s.indexOf t).setKept v x else s.indexOf u := by
  unfold setKept claimKeep
  rw [State.indexOf_putMap]
  split
  · unfold Machine.claim TrackIndex.setKept State.indexOf
    simp
  · next other =>
    unfold Machine.claim
    rw [State.indexOf_putRecords, if_neg other]

theorem IndexRules.clearTrack (t : Track) (k : EveryIndex P s) : EveryIndex P (clearTrack t s) := by
  intro u
  rw [clearTrack_track]
  unfold Machine.clearTrack
  by_cases e : u = t
  · obtain ⟨-, -, records, -, map, -⟩ := TrackReset.write_own (TrackReset.of t s) t s
    rw [if_pos e, e]
    unfold State.indexOf
    rw [records, map]
    exact h.clear (k t)
  · obtain ⟨-, -, records, map, -, -⟩ := TrackReset.write_other (TrackReset.of t s) t u s e
    rw [if_neg e]
    unfold State.indexOf
    rw [records, map]
    exact k u

theorem IndexRules.acts : Acts (EveryIndex P) where
  toWrites := h.writes
  turn t _ _ _ k := EveryIndex.putTrack k t rfl rfl
  drain t seq short k := h.claim t seq _ (SweepRecord.alike_drain short) k
  removeRecord t r mem k := h.removeRecord t r mem k
  activate t a _ k := h.activateSet t a k
  commitNow t _ _ k := by
    unfold commitNow
    simp only
    split <;> exact h.activateSet t _ k
  openPlaced t ev c unspent _ few k := h.writes.openSweep t ev c (h.openRecord t ev c unspent few k)
  applyItem {s} t l item _ passed k := by
    obtain ⟨-, unkept, -⟩ := itemFault_none passed
    obtain ⟨a, new, entry⟩ := writeItem_map t l item s unkept
    exact EveryIndex.change k t (fun u => applyItem_index t l item s u) (applyItem_counter t l item s)
      (h.load (v := s.indexOf t) _ unkept (fun e he => new e (by simpa [entry] using he))
        (fun j ne => by rw [entry, if_neg ne]; rfl))
  setKept t v x mem was room k :=
    EveryIndex.change k t (fun u => setKept_index t v x u _) (fun _ => ⟨rfl, rfl⟩) (h.keep v x mem was room)
  clearTrack t k := h.clearTrack t k
  freshStart t base kk coasted _ _ k :=
    EveryIndex.of_eq k (fun u => State.indexOf_of_eq u (by simp [freshStart_eq]) (by simp [freshStart_eq, replaceAverager]))
      (fun u => by simp [freshStart_eq, State.track])

theorem IndexRules.steps (reset : ∀ t, P (State.reset.indexOf t) (State.reset.track t).seqCounter
    (State.reset.track t).spent) : Steps (EveryIndex P) where
  toMoves := h.acts.moves
  setLink _ k := k
  reset _ _ _ := reset

end

end Sys2Proof.Machine

/-!
PROOF. Keep marks and kept sweeps (O58): the records of an index stand in rising sequence, share no page, and a map entry
carries the keep mark exactly while a kept record has its page.
-/

namespace Sys2Proof.Machine

/-! ## Records in rising sequence -/

/-- The records stand in rising sequence, below the counter while it is not spent (R50, R85). -/
def TrackIndex.rising (v : TrackIndex) (c : Nat) (b : Bool) : Prop :=
  v.records.Pairwise (fun x y => x.seq < y.seq) ∧ (b = false → ∀ y ∈ v.records, y.seq < c)

section
variable {v : TrackIndex} {c : Nat} {b : Bool}

theorem TrackIndex.rising.sublist {w : TrackIndex} (h : v.rising c b) (less : w.records.Sublist v.records) :
    w.rising c b :=
  ⟨h.1.sublist less, fun hb y hy => h.2 hb y (less.subset hy)⟩

/-- A record is known by its sequence. -/
theorem TrackIndex.rising.inj (h : v.rising c b) {x y : SweepRecord} (hx : x ∈ v.records) (hy : y ∈ v.records)
    (seq : x.seq = y.seq) : x = y := by
  have once : (v.records.map SweepRecord.seq).Nodup := (List.pairwise_map.mpr h.1).imp Nat.ne_of_lt
  exact List.inj_on_of_nodup_map once hx hy seq

theorem TrackIndex.mem_remove (h : v.rising c b) {r : SweepRecord} (mem : r ∈ v.records) (y : SweepRecord) :
    y ∈ (v.remove r).records ↔ y ∈ v.records ∧ y ≠ r := by
  unfold TrackIndex.remove
  simp only [List.mem_filter, decide_eq_true_eq]
  exact and_congr_right fun hy => not_congr ⟨h.inj hy mem, fun e => by rw [e]⟩

theorem TrackIndex.remove_sublist (r : SweepRecord) (v : TrackIndex) : (v.remove r).records.Sublist v.records :=
  List.filter_sublist

theorem TrackIndex.removeAll_sublist (rs : List SweepRecord) (v : TrackIndex) :
    (v.removeAll rs).records.Sublist v.records := by
  unfold TrackIndex.removeAll
  induction rs generalizing v with
  | nil => exact List.Sublist.refl _
  | cons r rs ih => exact (ih (v.remove r)).trans (v.remove_sublist r)

theorem TrackIndex.makeRoom_sublist (v : TrackIndex) : v.makeRoom.records.Sublist v.records := by
  unfold TrackIndex.makeRoom
  split
  · split
    · exact v.remove_sublist _
    · exact List.Sublist.refl _
  · exact List.Sublist.refl _

theorem TrackIndex.place_sublist (a n : Nat) (v : TrackIndex) : (v.place a n).records.Sublist v.records :=
  (TrackIndex.makeRoom_sublist _).trans (v.removeAll_sublist _)

theorem TrackIndex.vacate_sublist (l : Nat) (v : TrackIndex) : (v.vacate l).records.Sublist v.records := by
  unfold TrackIndex.vacate
  split
  · exact v.remove_sublist _
  · exact List.Sublist.refl _

/-- A changed list of records with the sequences it had. -/
theorem TrackIndex.rising.map (h : v.rising c b) {f : SweepRecord → SweepRecord}
    (seq : ∀ r : SweepRecord, (f r).seq = r.seq) {m : Table MapEntry} :
    ({ records := v.records.map f, map := m } : TrackIndex).rising c b := by
  refine ⟨List.pairwise_map.mpr (h.1.imp fun lt => by rw [seq, seq]; exact lt), fun hb y hy => ?_⟩
  obtain ⟨x, hx, rfl⟩ := List.mem_map.mp hy
  rw [seq]
  exact h.2 hb x hx

/-- A record of the next sequence at the end. -/
theorem TrackIndex.rising.append (h : v.rising c false) {r : SweepRecord} (seq : r.seq = c) {m : Table MapEntry} :
    ({ records := v.records ++ [r], map := m } : TrackIndex).rising
      (if c < 2 ^ 32 - 1 then c + 1 else c) (if c < 2 ^ 32 - 1 then false else true) := by
  have below := h.2 rfl
  refine ⟨List.pairwise_append.mpr ⟨h.1, List.pairwise_singleton _ _, fun x hx y hy => ?_⟩, fun hb y hy => ?_⟩
  · rw [List.mem_singleton.mp hy, seq]
    exact below x hx
  · split at hb
    · next more =>
      rw [if_pos more]
      rcases List.mem_append.mp hy with e | e
      · exact Nat.lt_succ_of_lt (below y e)
      · rw [List.mem_singleton.mp e, seq]
        exact Nat.lt_succ_self c
    · cases hb

/-- What the removal of a record keeps, the retirements of a placement keep. -/
theorem TrackIndex.rising.place (h : v.rising c b) {q : TrackIndex → Prop}
    (remove : ∀ {w : TrackIndex} r, w.rising c b → r ∈ w.records → q w → q (w.remove r)) (a n : Nat) (k : q v) :
    q (v.place a n) := by
  have all (rs : List SweepRecord) {w : TrackIndex} (hw : w.rising c b) (apart : rs.Pairwise (fun x y => x.seq < y.seq))
      (mem : ∀ r ∈ rs, r ∈ w.records) (kw : q w) : q (w.removeAll rs) := by
    induction rs generalizing w with
    | nil => exact kw
    | cons r rs ih =>
      rw [List.pairwise_cons] at apart
      refine ih (hw.sublist (w.remove_sublist r)) apart.2 (fun x hx => ?_) (remove r hw (mem r List.mem_cons_self) kw)
      refine (TrackIndex.mem_remove hw (mem r List.mem_cons_self) x).mpr ⟨mem x (List.mem_cons_of_mem _ hx), fun e => ?_⟩
      have := apart.1 x hx
      rw [e] at this
      exact Nat.lt_irrefl _ this
  have freed := all (v.records.filter (fun r => (pageRange a n).any (fun p => r.occupies p))) h (h.1.filter _)
    (fun r hr => (List.mem_filter.mp hr).1) k
  have sub := h.sublist (v.removeAll_sublist (v.records.filter (fun r => (pageRange a n).any (fun p => r.occupies p))))
  unfold TrackIndex.place TrackIndex.makeRoom
  split
  · split
    · next found => exact remove _ sub (List.mem_of_find?_eq_some found) freed
    · exact freed
  · exact freed

end

/-- The pages of a placement are free of other records after its retirements. -/
theorem TrackIndex.place_free {v : TrackIndex} {a n : Nat} {y : SweepRecord} (hy : y ∈ (v.place a n).records) (p : Nat)
    (low : a ≤ p) (high : p < a + n) : y.occupies p = false := by
  have left (rs : List SweepRecord) (w : TrackIndex) (x : SweepRecord) (hx : x ∈ (w.removeAll rs).records) : x ∉ rs := by
    induction rs generalizing w with
    | nil => exact List.not_mem_nil
    | cons r rs ih =>
      refine fun hr => (List.mem_cons.mp hr).elim (fun e => ?_) (ih _ hx)
      have := (TrackIndex.removeAll_sublist rs (w.remove r)).subset hx
      unfold TrackIndex.remove at this
      simp [e] at this
  have stays := left _ v y ((TrackIndex.makeRoom_sublist _).subset hy)
  by_contra occupied
  simp only [Bool.not_eq_false] at occupied
  refine stays (List.mem_filter.mpr ⟨(TrackIndex.place_sublist a n v).subset hy, ?_⟩)
  exact List.any_eq_true.mpr ⟨p, List.mem_map.mpr ⟨p - a, List.mem_range.mpr (by omega), by omega⟩, occupied⟩

/-! ## Keep marks -/

theorem tget_markKeep (k : Bool) (first n : Nat) (m : Table MapEntry) (l : Nat) :
    tget (markKeep k first n m) l =
      (tget m l).map (fun e => if first ≤ l ∧ l < first + n then { e with keep := k } else e) := by
  rw [← tget_map_value (fun l (e : MapEntry) => if first ≤ l ∧ l < first + n then { e with keep := k } else e)]
  refine congrArg (tget · l) (List.map_congr_left fun c _ => ?_)
  split <;> rfl

theorem SweepRecord.occupies_iff (p : Nat) (r : SweepRecord) :
    r.occupies p = true ↔ r.firstPage ≤ p ∧ p < r.firstPage + pageCount r.length := by
  simp [SweepRecord.occupies]

/-- No two records share a page. -/
def TrackIndex.apart (v : TrackIndex) : Prop :=
  v.records.Pairwise (fun x y => ∀ p, ¬ (x.occupies p = true ∧ y.occupies p = true))

/-- The entry at l carries the keep mark exactly while a kept record has its page. -/
def TrackIndex.marked (v : TrackIndex) (l : Nat) : Prop :=
  ∀ e, tget v.map l = some e → (e.keep = true ↔ ∃ y ∈ v.records, y.kept = true ∧ y.occupies l = true)

section
variable {v : TrackIndex} {c : Nat} {b : Bool}

theorem TrackIndex.apart.eq (h : v.apart) {x y : SweepRecord} (hx : x ∈ v.records) (hy : y ∈ v.records) {p : Nat}
    (px : x.occupies p = true) (py : y.occupies p = true) : x = y := by
  by_contra ne
  have symm : Std.Symm (fun x y : SweepRecord => ∀ p, ¬ (x.occupies p = true ∧ y.occupies p = true)) :=
    ⟨fun _ _ shared p both => shared p both.symm⟩
  exact List.Pairwise.forall h hx hy ne p ⟨px, py⟩

/-- Where a record leaves, no other one was. -/
theorem TrackIndex.marked_remove_own (rising : v.rising c b) (apart : v.apart) {r : SweepRecord} (mem : r ∈ v.records)
    {l : Nat} (own : r.occupies l = true) (old : r.kept = false → ∀ e, tget v.map l = some e → e.keep = false) :
    (v.remove r).marked l := by
  intro e he
  have unmarked : e.keep = false := by
    unfold TrackIndex.remove at he
    simp only at he
    split at he
    · rw [tget_markKeep] at he
      obtain ⟨f, -, rfl⟩ := Option.map_eq_some_iff.mp he
      rw [if_pos ((SweepRecord.occupies_iff l r).mp own)]
    · next unkept => exact old (by simpa using unkept) e he
  rw [unmarked]
  refine ⟨fun no => (nomatch no), fun ⟨y, hy, _, py⟩ => ?_⟩
  obtain ⟨hy, ne⟩ := (TrackIndex.mem_remove rising mem y).mp hy
  exact absurd (apart.eq hy mem py own) ne

theorem TrackIndex.marked_remove (rising : v.rising c b) (apart : v.apart) {r : SweepRecord} (mem : r ∈ v.records)
    {l : Nat} (h : v.marked l) : (v.remove r).marked l := by
  by_cases own : r.occupies l = true
  · refine TrackIndex.marked_remove_own rising apart mem own fun unkept e he => ?_
    by_contra keep
    obtain ⟨y, hy, kept, py⟩ := (h e he).mp (by simpa using keep)
    rw [apart.eq hy mem py own, unkept] at kept
    cases kept
  · intro e he
    have same : tget v.map l = some e := by
      unfold TrackIndex.remove at he
      simp only at he
      split at he
      · rw [tget_markKeep] at he
        obtain ⟨f, hf, rfl⟩ := Option.map_eq_some_iff.mp he
        rw [if_neg (fun w => own ((SweepRecord.occupies_iff l r).mpr w))]
        exact hf
      · exact he
    rw [h e same]
    refine exists_congr fun y => ?_
    rw [TrackIndex.mem_remove rising mem]
    exact ⟨fun ⟨hy, kept, py⟩ => ⟨⟨hy, fun e => own (e ▸ py)⟩, kept, py⟩, fun ⟨⟨hy, _⟩, kept, py⟩ => ⟨hy, kept, py⟩⟩

end

/-- The whole property of one track's index. -/
def TrackIndex.keepsMarks (v : TrackIndex) (c : Nat) (b : Bool) : Prop :=
  v.rising c b ∧ v.apart ∧ ∀ l, v.marked l

theorem TrackIndex.keepsMarks.remove {v : TrackIndex} {c : Nat} {b : Bool} (h : v.keepsMarks c b) {r : SweepRecord}
    (mem : r ∈ v.records) : (v.remove r).keepsMarks c b := by
  obtain ⟨rising, apart, marks⟩ := h
  exact ⟨rising.sublist (v.remove_sublist r), apart.sublist (v.remove_sublist r),
    fun l => TrackIndex.marked_remove rising apart mem (marks l)⟩

theorem SweepRecord.occupies_of_eq {r x : SweepRecord} (page : x.firstPage = r.firstPage) (length : x.length = r.length)
    (p : Nat) : x.occupies p = r.occupies p := by
  unfold SweepRecord.occupies; rw [page, length]

/-- Records keep their pages. -/
theorem TrackIndex.apart.map {v : TrackIndex} (h : v.apart) {f : SweepRecord → SweepRecord}
    (page : ∀ (r : SweepRecord) p, (f r).occupies p = r.occupies p) {m : Table MapEntry} :
    ({ records := v.records.map f, map := m } : TrackIndex).apart :=
  List.pairwise_map.mpr (h.imp fun shared p => by rw [page, page]; exact shared p)

theorem indexRules_keepsMarks : IndexRules TrackIndex.keepsMarks where
  map f alike := by
    rintro ⟨rising, apart, marks⟩
    refine ⟨rising.map fun r => (alike r).seq,
      apart.map fun r => SweepRecord.occupies_of_eq (alike r).firstPage (alike r).length, fun l e he => ?_⟩
    rw [marks l e he]
    constructor
    · rintro ⟨y, hy, kept, py⟩
      exact ⟨f y, List.mem_map_of_mem hy, (alike y).kept.trans kept,
        (SweepRecord.occupies_of_eq (alike y).firstPage (alike y).length l).trans py⟩
    · rintro ⟨x, hx, kept, px⟩
      obtain ⟨y, hy, rfl⟩ := List.mem_map.mp hx
      exact ⟨y, hy, (alike y).kept ▸ kept, SweepRecord.occupies_of_eq (alike y).firstPage (alike y).length l ▸ px⟩
  remove r mem h := h.remove mem
  extend {v c} r seq unkept _ h := by
    have placed := h.1.place (q := fun w => w.keepsMarks c false) (fun r _ mem kw => kw.remove mem) r.firstPage
      (pageCount r.length) h
    obtain ⟨rising, apart, marks⟩ := placed
    refine ⟨rising.append seq, List.pairwise_append.mpr ⟨apart, List.pairwise_singleton _ _, fun x hx y hy p both => ?_⟩,
      fun l e he => ?_⟩
    · rw [List.mem_singleton.mp hy, SweepRecord.occupies_iff p r] at both
      rw [TrackIndex.place_free hx p both.2.1 both.2.2] at both
      exact nomatch both.1
    · rw [marks l e he]
      refine exists_congr fun y => ?_
      rw [List.mem_append, List.mem_singleton]
      refine and_congr_left fun ⟨kept, _⟩ => ⟨.inl, fun hy => hy.resolve_right fun eq => ?_⟩
      rw [eq, unkept] at kept
      cases kept
  load {v c b l} m old new rest := by
    rintro ⟨rising, apart, marks⟩
    have rising' : ({ v with map := m } : TrackIndex).rising c b := rising
    have apart' : ({ v with map := m } : TrackIndex).apart := apart
    have others (j : Nat) (ne : j ≠ l) : ({ v with map := m } : TrackIndex).marked j :=
      fun e he => marks j e ((rest j ne) ▸ he)
    unfold TrackIndex.vacate
    split
    · next r found =>
      have mem : r ∈ ({ v with map := m } : TrackIndex).records := List.mem_of_find?_eq_some found
      refine ⟨rising'.sublist (TrackIndex.remove_sublist r _), apart'.sublist (TrackIndex.remove_sublist r _), fun j => ?_⟩
      by_cases e : j = l
      · subst e
        exact TrackIndex.marked_remove_own rising' apart' mem (List.find?_some found) fun _ => new
      · exact TrackIndex.marked_remove rising' apart' mem (others j e)
    · next none =>
      refine ⟨rising', apart', fun j => ?_⟩
      by_cases e : j = l
      · subst e
        intro e he
        rw [new e he]
        refine ⟨fun no => (nomatch no), fun ⟨y, hy, _, py⟩ => ?_⟩
        exact absurd py (by simpa using List.find?_eq_none.mp none y hy)
      · exact others j e
  keep {v c b} k x mem was _ := by
    rintro ⟨rising, apart, marks⟩
    have pages (r : SweepRecord) (p : Nat) :
        (if r.seq = x.seq then r.setKept k else r).occupies p = r.occupies p := by split <;> rfl
    refine ⟨rising.map fun r => by split <;> rfl, apart.map pages, fun l e he => ?_⟩
    unfold TrackIndex.setKept at he ⊢
    simp only [tget_markKeep] at he ⊢
    obtain ⟨f, hf, rfl⟩ := Option.map_eq_some_iff.mp he
    by_cases own : x.occupies l = true
    · rw [if_pos ((SweepRecord.occupies_iff l x).mp own)]
      constructor
      · intro hk
        exact ⟨x.setKept k, List.mem_map.mpr ⟨x, mem, by rw [if_pos rfl]⟩, hk, own⟩
      · rintro ⟨y, hy, kept, py⟩
        obtain ⟨z, hz, rfl⟩ := List.mem_map.mp hy
        rw [pages] at py
        rw [apart.eq hz mem py own, if_pos rfl] at kept
        exact kept
    · rw [if_neg (fun w => own ((SweepRecord.occupies_iff l x).mpr w)), marks l f hf]
      have other {y : SweepRecord} (py : y.occupies l = true) (hy : y ∈ v.records) : ¬ y.seq = x.seq := fun seq =>
        own (rising.inj hy mem seq ▸ py)
      constructor
      · rintro ⟨y, hy, kept, py⟩
        exact ⟨y, List.mem_map.mpr ⟨y, hy, by rw [if_neg (other py hy)]⟩, kept, py⟩
      · rintro ⟨z, hz, kept, pz⟩
        obtain ⟨y, hy, rfl⟩ := List.mem_map.mp hz
        rw [pages] at pz
        rw [if_neg (other pz hy)] at kept
        exact ⟨y, hy, kept, pz⟩
  clear {v c b} h := by
    refine ⟨⟨List.Pairwise.nil, fun _ y hy => nomatch hy⟩, List.Pairwise.nil, fun l e he => ?_⟩
    unfold clearKeepMarks at he
    simp only at he
    rw [tget_map_value (fun (l : Nat) (e : MapEntry) => ({ e with keep := false } : MapEntry))] at he
    obtain ⟨f, -, rfl⟩ := Option.map_eq_some_iff.mp he
    exact ⟨fun no => (nomatch no), fun ⟨y, hy, _⟩ => nomatch hy⟩

theorem keepMarksInOrder_iff (s : State) : KeepMarksInOrder s ↔ EveryIndex TrackIndex.keepsMarks s := by
  unfold KeepMarksInOrder EveryIndex TrackIndex.keepsMarks TrackIndex.rising TrackIndex.apart TrackIndex.marked
  exact forall_congr' fun t => by simp only [and_assoc]; rfl

theorem State.reset_indexOf (t : Track) : State.reset.indexOf t = { records := [], map := [] } := by
  simp [State.indexOf, State.records, State.map, State.reset]

theorem State.reset_counter (t : Track) : (State.reset.track t).seqCounter = 0 ∧ (State.reset.track t).spent = false := by
  simp [State.track, State.reset, TrackUnit.reset]

theorem keepMarksInOrder_reset : EveryIndex TrackIndex.keepsMarks State.reset := by
  intro t
  rw [State.reset_indexOf]
  exact ⟨⟨List.Pairwise.nil, fun _ y hy => nomatch hy⟩, List.Pairwise.nil, fun l e he => nomatch he⟩

/-- Settles O58. -/
theorem keepMarksFollowKeptSweeps : Obligations.KeepMarksFollowKeptSweeps := by
  have eq : KeepMarksInOrder = EveryIndex TrackIndex.keepsMarks := funext fun s => propext (keepMarksInOrder_iff s)
  unfold Obligations.KeepMarksFollowKeptSweeps
  rw [eq]
  exact (indexRules_keepsMarks.steps keepMarksInOrder_reset).kept (fun _ _ k => k)

end Sys2Proof.Machine

/-!
PROOF. The limits of a track's index (R47, R85, R87, R88), and a FILLING record exactly while the track captures (O57).
-/

namespace Sys2Proof.Machine

/-! ## The limits of an index -/

/-- The sequences and the counts of an index, but for its FILLING record. -/
def TrackIndex.fits (v : TrackIndex) (c : Nat) (b : Bool) : Prop :=
  v.rising c b ∧ c < 2 ^ 32 ∧ (∀ y ∈ v.records, y.seq < 2 ^ 32) ∧ v.records.length ≤ 256 ∧
  (v.records.filter (fun y => y.kept)).length ≤ 32 ∧ (v.records.filter (fun y => y.incomplete)).length ≤ 2

section
variable {v w : TrackIndex} {c : Nat} {b : Bool}

theorem TrackIndex.fits.sublist (h : v.fits c b) (less : w.records.Sublist v.records) : w.fits c b := by
  obtain ⟨rising, counter, seqs, length, kept, incomplete⟩ := h
  exact ⟨rising.sublist less, counter, fun y hy => seqs y (less.subset hy), less.length_le.trans length,
    (less.filter _).length_le.trans kept, (less.filter _).length_le.trans incomplete⟩

theorem length_filter_or_le (l : List SweepRecord) (p q : SweepRecord → Bool) :
    (l.filter (fun r => p r || q r)).length ≤ (l.filter p).length + (l.filter q).length := by
  induction l with
  | nil => exact Nat.le_refl _
  | cons r l ih =>
    simp only [List.filter_cons]
    cases p r <;> cases q r <;> simp <;> omega

/-- At most one record has a given sequence. -/
theorem TrackIndex.rising.length_seq (h : v.rising c b) (n : Nat) :
    (v.records.filter (fun y => decide (y.seq = n))).length ≤ 1 := by
  have order := h.1.filter (fun y => decide (y.seq = n))
  have same : ∀ y ∈ v.records.filter (fun y => decide (y.seq = n)), y.seq = n := fun y hy => by
    simpa using (List.mem_filter.mp hy).2
  generalize v.records.filter (fun y => decide (y.seq = n)) = l at order same ⊢
  match l with
  | [] => exact Nat.zero_le _
  | [x] => exact Nat.le_refl _
  | x :: y :: rest =>
    have less := (List.pairwise_cons.mp order).1 y List.mem_cons_self
    rw [same x List.mem_cons_self, same y (List.mem_cons_of_mem _ List.mem_cons_self)] at less
    exact absurd less (Nat.lt_irrefl _)

/-- A change that makes no more records have a property. -/
theorem length_filter_map_le {l : List SweepRecord} {f : SweepRecord → SweepRecord} {p : SweepRecord → Bool}
    (less : ∀ r ∈ l, p (f r) = true → p r = true) : ((l.map f).filter p).length ≤ (l.filter p).length := by
  rw [← List.countP_eq_length_filter, ← List.countP_eq_length_filter, List.countP_map]
  exact List.countP_mono_left less

theorem TrackIndex.fits.map (h : v.fits c b) {f : SweepRecord → SweepRecord} (seq : ∀ r : SweepRecord, (f r).seq = r.seq)
    (kept : ((v.records.map f).filter (fun y => y.kept)).length ≤ 32)
    (incomplete : ∀ r : SweepRecord, (f r).incomplete = true → r.incomplete = true) {m : Table MapEntry} :
    ({ records := v.records.map f, map := m } : TrackIndex).fits c b := by
  obtain ⟨rising, counter, seqs, length, -, few⟩ := h
  refine ⟨rising.map seq, counter, fun y hy => ?_, by simpa using length, kept,
    (length_filter_map_le fun r _ => incomplete r).trans few⟩
  obtain ⟨x, hx, rfl⟩ := List.mem_map.mp hy
  rw [seq]
  exact seqs x hx

/-- Every record is kept or incomplete, or one of them qualifies for the retirement from a full index. -/
theorem TrackIndex.length_makeRoom (length : v.records.length ≤ 256)
    (kept : (v.records.filter (fun y => y.kept)).length ≤ 32)
    (few : (v.records.filter (fun y => y.incomplete)).length < 2) : v.makeRoom.records.length ≤ 255 := by
  unfold TrackIndex.makeRoom Config.maxRecords
  split
  · next full =>
    split
    · next r found =>
      have mem := List.mem_of_find?_eq_some found
      have shorter : (v.remove r).records.length < v.records.length :=
        List.length_filter_lt_length_iff_exists.mpr ⟨r, mem, by simp⟩
      omega
    · next none =>
      have every : ∀ y ∈ v.records, (y.kept || y.incomplete) = true := fun y hy => by
        have := List.find?_eq_none.mp none y hy
        unfold SweepRecord.incomplete
        cases hk : y.kept <;> simp_all
      have all : v.records.filter (fun y => y.kept || y.incomplete) = v.records := List.filter_eq_self.mpr every
      have split := length_filter_or_le v.records (fun y => y.kept) (fun y => y.incomplete)
      rw [all] at split
      omega
  · omega

theorem indexRules_fits : IndexRules TrackIndex.fits where
  map f alike h := by
    refine h.map (fun r => (alike r).seq) ?_ (fun r => (alike r).incomplete)
    exact (length_filter_map_le fun r _ => (alike r).kept ▸ id).trans h.2.2.2.2.1
  remove r _ h := h.sublist (TrackIndex.remove_sublist r _)
  extend {v c} r seq unkept few h := by
    have sub := TrackIndex.place_sublist r.firstPage (pageCount r.length) v
    have room : (v.place r.firstPage (pageCount r.length)).records.length ≤ 255 := by
      have all := v.removeAll_sublist
        (v.records.filter (fun x => (pageRange r.firstPage (pageCount r.length)).any (fun p => x.occupies p)))
      obtain ⟨-, -, -, length, kept, -⟩ := h.sublist all
      exact TrackIndex.length_makeRoom length kept ((all.filter _).length_le.trans_lt few)
    have fewer := (sub.filter (fun y => y.incomplete)).length_le
    obtain ⟨rising, counter, seqs, -, kept, -⟩ := h.sublist sub
    refine ⟨rising.append seq, by split <;> omega, fun y hy => ?_, ?_, ?_, ?_⟩
    · rcases List.mem_append.mp hy with e | e
      · exact seqs y e
      · rw [List.mem_singleton.mp e, seq]; exact counter
    · simp only [List.length_append, List.length_singleton]; omega
    · simpa [List.filter_append, unkept] using kept
    · rw [List.filter_append, List.length_append]
      have := List.length_filter_le (fun y : SweepRecord => y.incomplete) [r]
      simp only [List.length_singleton] at this
      omega
  load m _ _ _ h := by
    have moved : TrackIndex.fits { records := _, map := m } _ _ := h
    exact moved.sublist (TrackIndex.vacate_sublist _ _)
  keep {v c b} k x mem was room h := by
    refine h.map (fun r => by split <;> rfl) ?_ (fun r => by split <;> exact id)
    cases k with
    | false =>
      refine (length_filter_map_le fun r _ hr => ?_).trans h.2.2.2.2.1
      split at hr
      · cases hr
      · exact hr
    | true =>
      have marked := length_filter_or_le v.records (fun y => y.kept) (fun y => decide (y.seq = x.seq))
      have one := h.1.length_seq x.seq
      have more := room rfl
      have less : ((v.records.map fun r => if r.seq = x.seq then r.setKept true else r).filter (fun y => y.kept)).length ≤
          (v.records.filter (fun y => y.kept || decide (y.seq = x.seq))).length := by
        rw [← List.countP_eq_length_filter, ← List.countP_eq_length_filter, List.countP_map]
        refine List.countP_mono_left fun r _ hr => ?_
        simp only [Function.comp_apply] at hr
        split at hr
        · next seq => simp [seq]
        · simp [hr]
      omega
  clear h := by
    obtain ⟨-, counter, -⟩ := h
    exact ⟨⟨List.Pairwise.nil, fun _ y hy => (nomatch hy)⟩, by decide, fun y hy => (nomatch hy), Nat.zero_le _,
      Nat.zero_le _, Nat.zero_le _⟩

end

end Sys2Proof.Machine

/-!
PROOF. A FILLING record stands in an index exactly while its track captures (R47, R50 to R56), and with the limits of the
index the whole of O57; the reset state (O60).
-/

namespace Sys2Proof.Machine

/-- Whether a track in this state fills a sweep. -/
def TrackState.fills : TrackState → Bool
  | .sweeping => true
  | .stopping => true
  | .idle => false
  | .armed => false
  | .awaiting => false
  | .halted _ => false

/-- How many FILLING records a list has. -/
def fillingCount (l : List SweepRecord) : Nat := (l.filter (fun y => y.state = .filling)).length

/-- One FILLING record while the track fills a sweep and none else; none whatever the state, for the tracks outside w. -/
def Fills (w : Track → Prop) (s : State) : Prop :=
  ∀ t, (w t → fillingCount (s.records t) = if (s.track t).state.fills then 1 else 0) ∧
    (¬ w t → fillingCount (s.records t) = 0)

section
variable {w : Track → Prop} {s x : State} {t : Track}

theorem Fills.change (h : Fills w s) (t : Track) (others : ∀ k, k ≠ t → x.track k = s.track k)
    (lists : ∀ k, k ≠ t → x.records k = s.records k)
    (own : w t → fillingCount (x.records t) = if (x.track t).state.fills then 1 else 0)
    (free : ¬ w t → fillingCount (x.records t) = 0) : Fills w x := by
  intro k
  by_cases e : k = t
  · subst e; exact ⟨own, free⟩
  · rw [others k e, lists k e]; exact h k

theorem Fills.of_count (h : Fills w s) (count : ∀ k, fillingCount (x.records k) = fillingCount (s.records k))
    (state : ∀ k, (x.track k).state.fills = (s.track k).state.fills) : Fills w x := by
  intro k
  rw [count, state]
  exact h k

theorem Fills.putTrack (h : Fills w s) (t : Track) {u : TrackUnit} (same : u.state.fills = (s.track t).state.fills) :
    Fills w (s.putTrack t u) := by
  refine h.of_count (fun _ => rfl) fun k => ?_
  rw [State.track_putTrack]
  split
  · next e => rw [e, same]
  · rfl

/-- A track that fills no sweep may be looked at either way. -/
theorem Fills.leave (h : Fills (fun _ => True) s) (quiet : (s.track t).state.fills = false) : Fills (· ≠ t) s := by
  intro k
  have own := (h k).1 trivial
  refine ⟨fun _ => own, fun e => ?_⟩
  rw [not_not.mp e, quiet] at own
  rw [not_not.mp e]
  exact own

theorem Fills.back (h : Fills (· ≠ t) s) (quiet : (s.track t).state.fills = false) : Fills (fun _ => True) s := by
  intro k
  refine ⟨fun _ => ?_, fun no => absurd trivial no⟩
  by_cases e : k = t
  · rw [e, quiet]
    exact (h t).2 (fun ne => ne rfl)
  · exact (h k).1 e

/-- A track unit that turns to a state without a sweep. -/
theorem Fills.turn (h : Fills (· ≠ t) s) {u : TrackUnit} (quiet : u.state.fills = false) :
    Fills (fun _ => True) (s.putTrack t u) := by
  refine Fills.back (t := t) (h.change t (fun k e => State.track_putTrack_other s u e.symm) (fun _ _ => rfl)
    (fun ne => absurd rfl ne) (h t).2) ?_
  rw [State.track_putTrack_same]
  exact quiet

end

theorem fillingCount_map {l : List SweepRecord} {f : SweepRecord → SweepRecord}
    (same : ∀ r : SweepRecord, (f r).state = .filling ↔ r.state = .filling) : fillingCount (l.map f) = fillingCount l := by
  unfold fillingCount
  rw [← List.countP_eq_length_filter, ← List.countP_eq_length_filter, List.countP_map]
  exact List.countP_congr fun r _ => by simp [same]

theorem records_putRecords (s : State) (t k : Track) (l : List SweepRecord) :
    (s.putRecords t l).records k = if k = t then l else s.records k := by
  by_cases e : k = t
  · subst e; simp
  · rw [State.records_putRecords_other _ _ (Ne.symm e), if_neg e]

theorem Fills.mapRecords {w : Track → Prop} {s : State} (h : Fills w s) (t : Track) {f : SweepRecord → SweepRecord}
    (same : ∀ r : SweepRecord, (f r).state = .filling ↔ r.state = .filling) :
    Fills w (s.putRecords t ((s.records t).map f)) := by
  refine h.of_count (fun k => ?_) fun _ => rfl
  rw [records_putRecords]
  split
  · next e => rw [e, fillingCount_map same]
  · rfl

theorem writes_fills (w : Track → Prop) : Writes (Fills w) where
  setTime _ k := k
  setRefreshElapsed _ k := k
  setLanes _ k := k
  setCheck _ k := k
  setMem _ _ k := k
  setReadout _ _ k := k
  setNotices _ _ k := k
  setAveragerRam _ _ k := k
  setDrams _ _ _ _ k := k
  putMarker u _ _ k := by cases u <;> exact k
  putTrack t _ tame k := Fills.putTrack k t (by rw [tame.state])
  putAverager _ _ _ k := k
  mapRecords t _ tame k := Fills.mapRecords k t fun r => (tame r).filling

/-- No register write moves a track unit to another state. -/
theorem writes_state (t : Track) (st : TrackState) : Writes (fun s => (s.track t).state = st) where
  setTime _ k := k
  setRefreshElapsed _ k := k
  setLanes _ k := k
  setCheck _ k := k
  setMem _ _ k := k
  setReadout _ _ k := k
  setNotices _ _ k := k
  setAveragerRam _ _ k := k
  setDrams _ _ _ _ k := k
  putMarker u _ _ k := by cases u <;> exact k
  putTrack _ _ tame k := by
    rw [State.track_putTrack]
    split
    · next e => rw [tame.state, ← e]; exact k
    · exact k
  putAverager _ _ _ k := k
  mapRecords _ _ _ k := k

/-! ## The FILLING record leaves -/

section
variable {s : State} {t : Track}

theorem fillingRecord_none (h : fillingRecord s t = none) : fillingCount (s.records t) = 0 := by
  unfold fillingCount
  rw [List.length_eq_zero_iff, List.filter_eq_nil_iff]
  exact List.find?_eq_none.mp h

theorem Fills.noRecord (h : Fills (fun _ => True) s) (none : fillingRecord s t = none) : Fills (· ≠ t) s := by
  intro k
  refine ⟨fun _ => (h k).1 trivial, fun e => ?_⟩
  rw [not_not.mp e]
  exact fillingRecord_none none

/-- With at most one FILLING record, nothing is left of them when it goes. -/
theorem fillingCount_one {l : List SweepRecord} {r : SweepRecord} {f : SweepRecord → SweepRecord} (once : fillingCount l ≤ 1)
    (mem : r ∈ l) (filling : r.state = .filling) (gone : (f r).state ≠ .filling)
    (fewer : ∀ y : SweepRecord, (f y).state = .filling → y.state = .filling) : fillingCount (l.map f) = 0 := by
  have single : l.filter (fun y => y.state = .filling) = [r] := by
    have here : r ∈ l.filter (fun y => y.state = .filling) := List.mem_filter.mpr ⟨mem, by simp [filling]⟩
    unfold fillingCount at once
    match hl : l.filter (fun y => y.state = .filling) with
    | [] => rw [hl] at here; cases here
    | [y] => rw [hl] at here; rw [List.mem_singleton.mp here]; exact hl
    | _ :: _ :: _ => rw [hl] at once; simp at once
  unfold fillingCount
  rw [List.length_eq_zero_iff, List.filter_eq_nil_iff]
  intro y hy fills
  obtain ⟨z, hz, rfl⟩ := List.mem_map.mp hy
  have own : z ∈ l.filter (fun y => y.state = .filling) :=
    List.mem_filter.mpr ⟨hz, by simpa using fewer z (by simpa using fills)⟩
  rw [single, List.mem_singleton] at own
  rw [own] at fills
  exact gone (by simpa using fills)

theorem Fills.once {w : Track → Prop} (h : Fills w s) (t : Track) : fillingCount (s.records t) ≤ 1 := by
  by_cases own : w t
  · rw [(h t).1 own]; split <;> omega
  · rw [(h t).2 own]; exact Nat.zero_le _

/-- The end of a capture: the FILLING record goes to DRAINING (R51). -/
theorem Fills.reachDraining (h : Fills (fun _ => True) s) {r : SweepRecord} (found : fillingRecord s t = some r)
    (short : Bool) : Fills (· ≠ t) (reachDraining t r short s) := by
  have quiet : Fills (fun _ => True) (stopLane t s) := (writes_fills _).stopLane t h
  have mem : r ∈ (stopLane t s).records t := by
    have := fillingRecord_mem found
    simpa [State.records] using this
  have filling : r.state = .filling := by simpa using List.find?_some found
  have drained : Fills (· ≠ t) (claim t r.seq (SweepRecord.drain short) (stopLane t s)) := by
    intro k
    unfold claim
    rw [records_putRecords]
    refine ⟨fun ne => ?_, fun e => ?_⟩
    · rw [if_neg ne]
      exact (quiet k).1 trivial
    · rw [if_pos (not_not.mp e)]
      refine fillingCount_one (quiet.once t) mem filling ?_ fun y => ?_
      · rw [if_pos rfl]
        unfold SweepRecord.drain
        rw [if_pos filling]
        simp
      · split
        · unfold SweepRecord.drain
          split
          · next old => exact fun _ => old
          · exact id
        · exact id
  unfold Machine.reachDraining
  refine (writes_fills _).averagerSweepEnd t _ _ (drained.putTrack t ?_)
  rfl

theorem reachDraining_state (t : Track) (r : SweepRecord) (short : Bool) (s : State) :
    ((reachDraining t r short s).track t).state = (s.track t).state := by
  have h := writes_state t (s.track t).state
  unfold reachDraining
  refine h.averagerSweepEnd t _ _ ?_
  rw [State.track_putTrack_same]
  exact h.stopLane t rfl

/-- The FILLING record is removed (R56). -/
theorem Fills.removeFilling (t : Track) (h : Fills (fun _ => True) s) : Fills (· ≠ t) (removeFilling t s) := by
  unfold Machine.removeFilling
  split
  · next none => exact h.noRecord none
  · next r found =>
    have quiet : Fills (fun _ => True) (dropStaged t r.seq (stopLane t s)) :=
      (writes_fills _).dropStaged t _ ((writes_fills _).stopLane t h)
    have mem : r ∈ (dropStaged t r.seq (stopLane t s)).records t := by
      have := fillingRecord_mem found
      simpa [State.records] using this
    have filling : r.state = .filling := by simpa using List.find?_some found
    simp only
    generalize dropStaged t r.seq (stopLane t s) = x at quiet mem ⊢
    refine (writes_fills _).averagerSweepRemoved t _ ?_
    have index (k : Track) := congrArg TrackIndex.records (removeRecord_index t k x r)
    intro k
    have state : ((removeRecord t r x).track k).state = (x.track k).state := by simp [State.track]
    rw [state]
    refine ⟨fun ne => ?_, fun e => ?_⟩
    · have other : (removeRecord t r x).records k = x.records k := by
        have := index k
        rw [if_neg ne] at this
        exact this
      rw [other]
      exact (quiet k).1 trivial
    · obtain rfl := not_not.mp e
      have own : (removeRecord k r x).records k = (x.records k).filter (fun y => y.seq ≠ r.seq) := by
        have := index k
        rw [if_pos rfl] at this
        exact this
      rw [own]
      unfold fillingCount
      rw [List.length_eq_zero_iff, List.filter_eq_nil_iff]
      intro y hy fills
      obtain ⟨hy, differs⟩ := List.mem_filter.mp hy
      have count := fillingCount_one (f := fun z => if z.seq = r.seq then { z with state := .complete } else z)
        (quiet.once k) mem filling (by simp) (fun z => by split <;> simp)
      unfold fillingCount at count
      rw [List.length_eq_zero_iff, List.filter_eq_nil_iff] at count
      refine count y (List.mem_map.mpr ⟨y, hy, ?_⟩) fills
      rw [if_neg (by simpa using differs)]

end

/-! ## The acts of a track -/

section
variable {s : State} {t : Track}

theorem Fills.activateSet {w : Track → Prop} (t : Track) (a : ParamSet) (h : Fills w s) : Fills w (activateSet t a s) :=
  (writes_fills w).activateSet t a (h.putTrack t rfl)

/-- Retirements from a track without a FILLING record. -/
theorem Fills.of_sublist {x : State} (h : Fills (· ≠ t) s) (others : ∀ k, k ≠ t → x.records k = s.records k)
    (less : (x.records t).Sublist (s.records t)) (state : ∀ k, (x.track k).state = (s.track k).state) :
    Fills (· ≠ t) x := by
  intro k
  rw [state]
  refine ⟨fun ne => ?_, fun e => ?_⟩
  · rw [others k ne]
    exact (h k).1 ne
  · obtain rfl := not_not.mp e
    exact Nat.le_zero.mp (((less.filter _).length_le).trans ((h k).2 e).le)

theorem retire_state (t k : Track) (r : SweepRecord) (s : State) :
    ((retire t r s).track k).state = (s.track k).state := by
  have h := writes_state k (s.track k).state
  have removed : ((removeRecord t r s).track k).state = (s.track k).state := by simp [State.track]
  unfold retire overtakeSweep
  refine h.endReads _ _ ?_
  split
  · exact h.dropStaged t _ removed
  · exact removed

theorem placeAt_state (t k : Track) (c : Nat) (s : State) : ((placeAt t c s).track k).state = (s.track k).state := by
  have occupants (rs : List SweepRecord) : ((retireAll t rs s).track k).state = (s.track k).state :=
    kept_foldl (p := fun x => (x.track k).state = (s.track k).state) (fun s r => retire t r s)
      (fun r kx => (retire_state t k r _).trans kx) rs rfl
  unfold placeAt
  refine Eq.trans (b := (State.track (ite _ _ _) k).state) rfl ?_
  split
  · split
    · exact (retire_state t k _ _).trans (occupants _)
    · exact occupants _
  · exact occupants _

theorem Fills.placeAt (h : Fills (· ≠ t) s) (c : Nat) : Fills (· ≠ t) (placeAt t c s) := by
  have index (k : Track) := congrArg TrackIndex.records (placeAt_index t k s c)
  refine h.of_sublist (fun k ne => ?_) ?_ fun k => placeAt_state t k c s
  · have := index k
    rw [if_neg ne] at this
    exact this
  · have := index t
    rw [if_pos rfl] at this
    rw [show (Machine.placeAt t c s).records t = _ from this]
    exact TrackIndex.place_sublist _ _ _

/-- The new record is FILLING and the track sweeps (R50). -/
theorem Fills.openSweep (h : Fills (· ≠ t) s) (ev : MarkerEvent) (c : Nat) :
    Fills (fun _ => True) (openSweep t ev c s) := by
  refine (writes_fills _).openSweep t ev c fun k => ⟨fun _ => ?_, fun no => absurd trivial no⟩
  unfold openRecord
  rw [records_putRecords]
  by_cases e : k = t
  · subst e
    have none := (h k).2 (fun ne => ne rfl)
    unfold fillingCount at none ⊢
    rw [if_pos rfl, List.filter_append, List.length_append, none]
    rw [show ((s.putTrack k { (s.track k).takeSequence with state := .sweeping }).putRecords k
      (s.records k ++ [newRecord (s.track k) ev c])).track k = _ from State.track_putTrack_same s k _]
    rfl
  · rw [if_neg e, show ((s.putTrack t { (s.track t).takeSequence with state := .sweeping }).putRecords t
      (s.records t ++ [newRecord (s.track t) ev c])).track k = _ from State.track_putTrack_other s _ (Ne.symm e)]
    exact (h k).1 e

theorem Fills.haltTrack (h : Fills (· ≠ t) s) (reason : HaltReason) : Fills (fun _ => True) (haltTrack t reason s) :=
  (writes_fills _).postStopped t _ (h.turn rfl)

theorem Fills.goIdle (h : Fills (· ≠ t) s) (reason : StopReason) : Fills (fun _ => True) (goIdle t reason s) :=
  (writes_fills _).postStopped t _ (h.turn rfl)

theorem Fills.continueStart (h : Fills (· ≠ t) s) (ev : MarkerEvent) : Fills (fun _ => True) (continueStart t ev s) := by
  have ready : Fills (· ≠ t) (takeOffset t (activatePending t s)) := by
    refine Fills.putTrack ?_ t rfl
    unfold activatePending
    split
    · exact h.activateSet t _
    · exact h
  rw [continueStart_eq]
  split
  · exact ready.haltTrack _
  · split
    · exact ready.haltTrack _
    · exact ready.haltTrack _
    · exact (ready.placeAt _).openSweep ev _

theorem Fills.startOrHold (h : Fills (· ≠ t) s) (ev : MarkerEvent) (on : (s.track t).state ≠ .stopping) :
    Fills (fun _ => True) (startOrHold t ev s) := by
  unfold Machine.startOrHold holdBack
  split
  · split
    · next state => exact h.back (by rw [state]; rfl)
    · exact h.turn rfl
    · next state => exact h.back (by rw [state]; rfl)
    · next state => exact absurd state on
    · next state => exact h.back (by rw [state]; rfl)
    · next state => exact h.back (by rw [state]; rfl)
  · exact h.continueStart ev

theorem Fills.startSweep (h : Fills (fun _ => True) s) (ev : MarkerEvent) (on : (s.track t).state ≠ .stopping) :
    Fills (fun _ => True) (startSweep t ev s) := by
  unfold Machine.startSweep
  split
  · next none => exact (h.noRecord none).startOrHold ev on
  · next r found =>
    have ended := h.reachDraining found true
    simp only
    split
    · exact ended.goIdle _
    · exact ended.startOrHold ev (by rw [reachDraining_state]; exact on)

theorem Fills.endStopping (h : Fills (fun _ => True) s) : Fills (fun _ => True) (endStopping t s) := by
  have idle {x : State} (hx : Fills (· ≠ t) x) : Fills (fun _ => True)
      (if (x.track t).runComplete then Machine.goIdle t .countDone x else Machine.goIdle t .stopped x) := by
    split
    · exact hx.goIdle _
    · exact hx.goIdle _
  unfold Machine.endStopping
  cases found : fillingRecord s t with
  | none => exact idle (h.noRecord found)
  | some r => exact idle (h.reachDraining found true)

theorem Fills.takeEvent (h : Fills (fun _ => True) s) (ev : MarkerEvent) (t : Track) :
    Fills (fun _ => True) (takeEvent ev t s) := by
  unfold Machine.takeEvent setPrevMarker
  simp only
  split
  · refine Fills.putTrack ?_ t rfl
    split
    · next state =>
      split
      · exact h
      · exact h.startSweep ev (by rw [state]; decide)
    · next state => exact h.startSweep ev (by rw [state]; decide)
    · next state => exact h.startSweep ev (by rw [state]; decide)
    · exact h.endStopping
    · exact h
    · exact h
  · exact h

theorem Fills.takeLoss (h : Fills (fun _ => True) s) (u : MarkerId) (t : Track) :
    Fills (fun _ => True) (takeLoss u t s) := by
  unfold Machine.takeLoss
  simp only
  split
  · split
    · exact (writes_fills _).reselect t ((h.removeFilling t).turn rfl)
    · next state => exact (writes_fills _).reselect t ((h.leave (by rw [state]; rfl)).turn rfl)
    · exact (h.removeFilling t).goIdle _
    · exact (writes_fills _).reselect t h
    · exact h
    · exact h
  · exact h

theorem Fills.endCapture (h : Fills (fun _ => True) s) (t : Track) : Fills (fun _ => True) (endCapture t s) := by
  unfold Machine.endCapture afterCapture
  split
  · exact h
  · next r found =>
    have ended := h.reachDraining found false
    split
    · exact ended.goIdle _
    · split
      · exact ended.turn rfl
      · exact ended.goIdle _
      all_goals
        next state => exact ended.back (by rw [state]; rfl)

theorem Fills.takeWord (h : Fills (fun _ => True) s) (t : Track) (word : BitVec 16) (parity : Bool) :
    Fills (fun _ => True) (takeWord t word parity s) := by
  have write := writes_fills (fun _ => True)
  have flagged := write.putLane t { s.lane t with flag := none } h
  have after {x : State} (pos : Nat) (hx : Fills (fun _ => True) x) : Fills (fun _ => True) (afterResolution t pos x) := by
    unfold afterResolution
    split
    · exact hx.endCapture t
    · exact write.issueCatchUp t hx
  unfold Machine.takeWord
  split
  · exact h
  · unfold resolveWord
    simp only
    split
    · exact flagged
    · refine after _ ?_
      split
      · exact write.acceptWord t _ _ _ flagged
      · exact write.losePosition t _ flagged

/-! ## Requests to a track -/

theorem Fills.commit (h : Fills (fun _ => True) s) (t : Track) : Fills (fun _ => True) (commit t s) := by
  unfold Machine.commit commitLater commitNow
  split
  · exact h.putTrack t rfl
  · simp only
    split <;> exact h.activateSet t _

theorem TrackState.fills_of_unbound {st : TrackState} (h : st.bound = false) : st.fills = false := by
  revert h
  cases st <;> simp [TrackState.fills, TrackState.bound]

theorem Fills.stopTrack (h : Fills (fun _ => True) s) (t : Track) : Fills (fun _ => True) (stopTrack t s) := by
  unfold Machine.stopTrack setTrackState
  split
  · next state => exact h.putTrack t (by rw [state]; rfl)
  · next state => exact (h.leave (by rw [state]; rfl)).goIdle _
  · next state => exact (h.leave (by rw [state]; rfl)).goIdle _
  all_goals exact h

theorem Fills.abortTrack (h : Fills (fun _ => True) s) (t : Track) : Fills (fun _ => True) (abortTrack t s) := by
  have removed := h.removeFilling t
  unfold Machine.abortTrack
  simp only
  split
  · next idle => exact removed.back (by rw [idle]; rfl)
  · exact removed.goIdle _

theorem Fills.clearTrack (h : Fills (fun _ => True) s) (t : Track) : Fills (fun _ => True) (clearTrack t s) := by
  obtain ⟨-, -, records, -⟩ := TrackReset.write_own (TrackReset.of t s) t s
  refine h.change t (fun k e => by rw [clearTrack_track, if_neg e]) (fun k e => ?_) (fun _ => ?_)
    fun no => absurd trivial no
  · exact (TrackReset.write_other (TrackReset.of t s) t k s e).2.2.1
  · rw [clearTrack_track, if_pos rfl, show (Machine.clearTrack t s).records t = [] from records]
    rfl

theorem Fills.applyItem (h : Fills (fun _ => True) s) (t : Track) (l : Nat) (item : LoadItem)
    (unbound : (s.track t).state.bound = false) : Fills (fun _ => True) (applyItem t l item s) := by
  have quiet := TrackState.fills_of_unbound unbound
  have state (k : Track) : ((Machine.applyItem t l item s).track k).state = (s.track k).state := by
    obtain ⟨o, m, written⟩ := writeItem_only t l item s
    rw [applyItem_eq, written]
    split
    · exact retire_state t k _ _
    · rfl
  have index (k : Track) := congrArg TrackIndex.records (applyItem_index t l item s k)
  refine Fills.back (t := t) ((h.leave quiet).of_sublist (fun k ne => ?_) ?_ state) (by rw [state]; exact quiet)
  · have := index k
    rw [if_neg ne] at this
    exact this
  · have := index t
    rw [if_pos rfl] at this
    rw [show (Machine.applyItem t l item s).records t = _ from this]
    exact TrackIndex.vacate_sublist _ _

theorem Fills.setKept (h : Fills (fun _ => True) s) (t : Track) (v : Bool) (x : SweepRecord) :
    Fills (fun _ => True) (setKept t v x s) :=
  h.mapRecords t (f := fun r => if r.seq = x.seq then r.setKept v else r) fun r => by split <;> exact Iff.rfl

/-- A complete record leaves an index whose sequences differ. -/
theorem Fills.drop (h : Fills (fun _ => True) s) {c : Nat} {b : Bool} (rising : (s.indexOf t).rising c b)
    {r : SweepRecord} (mem : r ∈ s.records t) (complete : r.incomplete = false) :
    Fills (fun _ => True) (retire t r s) := by
  have index (k : Track) := congrArg TrackIndex.records (retire_index t k s r)
  refine h.of_count (fun k => ?_) fun k => by rw [retire_state]
  have records := index k
  by_cases e : k = t
  · subst e
    rw [if_pos rfl] at records
    rw [show (retire k r s).records k = (s.records k).filter (fun y => y.seq ≠ r.seq) from records]
    unfold fillingCount
    rw [List.filter_filter]
    refine congrArg List.length (List.filter_congr fun y hy => ?_)
    by_cases filling : y.state = .filling
    · have differs : y.seq ≠ r.seq := fun seq => by
        rw [← rising.inj hy mem seq] at complete
        simp [SweepRecord.incomplete, filling] at complete
      simp [differs]
    · simp [filling]
  · rw [if_neg e] at records
    exact congrArg fillingCount records

theorem Fills.resetPart (h : Fills (fun _ => True) s) : Fills (fun _ => True) (resetPart s) := by
  have write := writes_fills (fun _ => True)
  have markers : Fills (fun _ => True) ((s.setMarkerA s.markerA.resetPart).setMarkerB s.markerB.resetPart) := h
  have track {x : State} (t : Track) (hx : Fills (fun _ => True) x) : Fills (fun _ => True) (resetPartTrack t x) :=
    write.putLane t _ (((writes_fills _).mapBursts (fun b =>
      if !b.isRead && b.track = t && !drains (Machine.removeFilling t x) t b.seq then { b with attached := false } else b)
      (hx.removeFilling t)).turn rfl)
  have tracks := kept_foldl (p := Fills fun _ => True) (fun s t => resetPartTrack t s) (fun t => track t) allTracks markers
  have averagers := kept_foldl (p := Fills fun _ => True) (fun s t => Machine.resetAverager t s)
    (fun t => write.resetAverager t) allTracks (write.endReads (fun _ => true) .reset tracks)
  unfold Machine.resetPart
  simp only
  generalize allTracks.foldl (fun s t => Machine.resetAverager t s) _ = x at averagers ⊢
  exact averagers

end

end Sys2Proof.Machine

/-!
PROOF. The whole of O57, and the state after a power-on reset (O60).
-/

namespace Sys2Proof.Machine

/-- An index within its limits, with a FILLING record exactly while its track fills one. -/
def IndexFits (s : State) : Prop := EveryIndex TrackIndex.fits s ∧ Fills (fun _ => True) s

theorem indexInOrder_iff (s : State) : IndexInOrder s ↔ IndexFits s := by
  have filling (l : List SweepRecord) (st : TrackState) :
      (fillingCount l = if st.fills then 1 else 0) ↔
        (l.filter (fun y => y.state = .filling)).length ≤ 1 ∧
          ((∃ y ∈ l, y.state = .filling) ↔ st = .sweeping ∨ st = .stopping) := by
    have some : (∃ y ∈ l, y.state = .filling) ↔ fillingCount l ≠ 0 := by
      unfold fillingCount
      rw [ne_eq, List.length_eq_zero_iff, List.filter_eq_nil_iff]
      simp
    have fills : (st = .sweeping ∨ st = .stopping) ↔ st.fills = true := by cases st <;> simp [TrackState.fills]
    rw [some, fills]
    change _ ↔ fillingCount l ≤ 1 ∧ _
    generalize fillingCount l = n
    cases st.fills <;> simp <;> omega
  have incomplete (l : List SweepRecord) : l.filter (fun y => y.state ≠ .complete) = l.filter (fun y => y.incomplete) :=
    List.filter_congr fun y _ => by cases hs : y.state <;> simp [SweepRecord.incomplete, hs]
  unfold IndexInOrder IndexFits EveryIndex Fills TrackIndex.fits TrackIndex.rising
  rw [← forall_and]
  refine forall_congr' fun t => ?_
  simp only [not_true, false_implies, and_true, true_implies]
  rw [filling, incomplete, show (s.indexOf t).records = s.records t from rfl]
  simp only [and_assoc]

theorem moves_index : Moves IndexFits := by
  have index := indexRules_fits.acts.moves
  have fills := writes_fills (fun _ => True)
  exact {
    setTime := fun _ k => k
    setRefreshElapsed := fun _ k => k
    setLanes := fun _ k => k
    setCheck := fun _ k => k
    setMem := fun _ _ k => k
    setReadout := fun _ _ k => k
    setNotices := fun _ _ k => k
    setAveragerRam := fun _ _ k => k
    setDrams := fun _ _ _ _ k => k
    putMarker := fun u m order k => ⟨index.putMarker u m order k.1, fills.putMarker u m order k.2⟩
    putTrack := fun t u tame k => ⟨index.putTrack t u tame k.1, fills.putTrack t u tame k.2⟩
    putAverager := fun _ _ _ k => k
    mapRecords := fun t f tame k => ⟨index.mapRecords t f tame k.1, fills.mapRecords t f tame k.2⟩
    takeEvent := fun ev t k => ⟨index.takeEvent ev t k.1, k.2.takeEvent ev t⟩
    takeLoss := fun u t k => ⟨index.takeLoss u t k.1, k.2.takeLoss u t⟩
    takeWord := fun t word parity k => ⟨index.takeWord t word parity k.1, k.2.takeWord t word parity⟩
    commit := fun t struct limits k => ⟨index.commit t struct limits k.1, k.2.commit t⟩
    armTrack := fun t count unbound small k =>
      ⟨index.armTrack t count unbound small k.1, (k.2.leave (TrackState.fills_of_unbound unbound)).turn rfl⟩
    stopTrack := fun t k => ⟨index.stopTrack t k.1, k.2.stopTrack t⟩
    abortTrack := fun t k => ⟨index.abortTrack t k.1, k.2.abortTrack t⟩
    clearTrack := fun t k => ⟨index.clearTrack t k.1, k.2.clearTrack t⟩
    applyItem := fun t l item unbound passed k =>
      ⟨index.applyItem t l item unbound passed k.1, k.2.applyItem t l item unbound⟩
    setKept := fun t v x mem was room k => ⟨index.setKept t v x mem was room k.1, k.2.setKept t v x⟩
    drop := fun t r mem complete k => ⟨index.drop t r mem complete k.1, k.2.drop (k.1 t).1 mem complete⟩
    freshStart := fun t base kk coasted good free k =>
      ⟨index.freshStart t base kk coasted good free k.1,
        k.2.of_count (fun u => by simp [freshStart_eq, replaceAverager, State.records])
          (fun u => by simp [freshStart_eq, State.track])⟩
    resetPart := fun k => ⟨index.resetPart k.1, k.2.resetPart⟩ }

theorem indexFits_reset : IndexFits State.reset := by
  refine ⟨fun t => ?_, fun t => ⟨fun _ => ?_, fun no => absurd trivial no⟩⟩
  · rw [State.reset_indexOf, (State.reset_counter t).1]
    exact ⟨⟨List.Pairwise.nil, fun _ y hy => (nomatch hy)⟩, by decide, fun y hy => (nomatch hy), Nat.zero_le _,
      Nat.zero_le _, Nat.zero_le _⟩
  · simp [State.records, State.reset, State.track, fillingCount, TrackUnit.reset, TrackState.fills]

theorem steps_index : Steps IndexFits where
  toMoves := moves_index
  setLink _ k := k
  reset _ _ _ := indexFits_reset

/-- Settles O57. -/
theorem sweepIndexesStayInOrder : Obligations.SweepIndexesStayInOrder := by
  have eq : IndexInOrder = IndexFits := funext fun s => propext (indexInOrder_iff s)
  unfold Obligations.SweepIndexesStayInOrder
  rw [eq]
  exact steps_index.kept (fun _ _ k => k)

/-! ## The state after power-on reset -/

theorem withinLimits_reset : WithinLimits State.reset := by
  refine (withinLimits_iff _).mpr ⟨?_, ?_, ?_, NoticeUnit.fits_reset, fun t => ?_, averagersFit_reset⟩
  · simp [State.reset, MemControl.reset, MemControl.fits]
  · exact ⟨Nat.zero_le _, Nat.zero_le _, rfl⟩
  · simp [State.reset, Readout.reset, Readout.fits]
  · simp [State.reset, State.track, TrackUnit.countsFit, TrackUnit.reset, OffsetMode.interval_pos]

/-- Settles O60. -/
theorem propertiesHoldAtReset : Obligations.PropertiesHoldAtReset :=
  ⟨memoriesInOrder_reset, withinLimits_reset, setsInOrder_reset, (indexInOrder_iff _).mpr indexFits_reset,
    (keepMarksInOrder_iff _).mpr keepMarksInOrder_reset, MarkerUnit.inOrder_reset, MarkerUnit.inOrder_reset⟩

end Sys2Proof.Machine

/-!
PROOF. Steps, resets, the receiver and the outbound pair.
-/

namespace Sys2Proof.Machine

/-! ## Commands that take a request -/

/-- A command that takes a request does what the owning block's meaning says. -/
theorem exec_of_serves {c : Instr} {dt : Nat} {s x : State} {r : RawRequest} {rest : List RawRequest} {q : Request}
    (act : RawRequest → Request → State → Option State) (h : Serves s r rest q)
    (run : exec c s = .next (onRequest dt s act)) (served : act r q (handed dt s rest) = some x) :
    exec c s = .next x := by
  rw [run, onRequest_serves h served]

/-- A command that is an event, while the RESET line is not held. -/
theorem exec_of_live {c : Instr} {dt : Nat} {s : State} {f : State → State} (free : s.resetHeld = false)
    (run : exec c s = .next (live dt s f)) : exec c s = .next (f (elapse dt s)) := by
  rw [run, live_free free]

/-! ## Steps and resets -/

/-- Settles O1. -/
theorem stepRunsFrontCommand : Obligations.StepRunsFrontCommand := by
  refine ⟨fun c rest s => step_front c rest s, fun s empty => ?_⟩
  have quiet : step s = .next (live 1 s id) := by unfold step; rw [empty]
  refine ⟨fun held => ?_, fun free => ?_⟩
  · rw [quiet, live_held held]
  · rw [quiet, live_free free]
    rfl

/-- Settles O3. -/
theorem resetStateHoldsTableValues : Obligations.ResetStateHoldsTableValues := by
  refine ⟨rfl, rfl, fun u => by cases u <;> rfl, fun t p hp => ?_, fun t => ?_, rfl, rfl, rfl, rfl, rfl, rfl, fun t => ?_,
    rfl, rfl, rfl, rfl, ?_, rfl⟩
  · subst hp
    simp [State.track, State.lane, State.reset, TrackUnit.reset, Lane.reset, ParamSet.default]
  · simp [State.map, State.records, State.writePosition, State.reset]
  · simp [State.averager, State.reset, Averager.reset]
  · decide

/-- Settles O4. -/
theorem resetsRestoreAndHold : Obligations.ResetsRestoreAndHold := by
  intro s
  refine ⟨rfl, fun free => ?_, fun held => ?_, fun free => ?_, fun held c notPower notReleased => ?_⟩
  · change Host.Outcome.next (if s.resetHeld then s else resetValues true none s) = _
    rw [free]
    rfl
  · change Host.Outcome.next (if s.resetHeld then resetValues false (some .resetLine) s else s) = _
    rw [held]
    rfl
  · change Host.Outcome.next (if s.resetHeld then resetValues false (some .resetLine) s else s) = _
    rw [free]
    rfl
  · cases c with
    | powerOnReset => exact absurd rfl notPower
    | resetLineReleased => exact absurd rfl notReleased
    | resetLineAsserted =>
      change Host.Outcome.next (if s.resetHeld then s else resetValues true none s) = _
      rw [held]
      rfl
    | _ =>
      exact (congrArg Host.Outcome.next (live_held held) : Host.Outcome.next (live _ s _) = _)

/-! ## The receiver, symbol by symbol (R168, R169, R171) -/

section
variable {s : State}

theorem receiveByte_hunt (b : Byte) (h : s.link.receiver = .hunt) : receiveByte b s = s := by
  unfold receiveByte; simp only [h]

theorem receiveByte_header_short (b : Byte) (h : s.link.receiver = .header) (short : s.link.buffer.length < 7) :
    receiveByte b s = s.setLink { s.link with buffer := s.link.buffer ++ [b] } := by
  have room : (s.link.buffer ++ [b]).length < 8 := by simp; omega
  unfold receiveByte setReceiver
  simp only [h, if_pos room]

/-- The eighth header byte is judged. -/
theorem receiveByte_header_last (b : Byte) (h : s.link.receiver = .header) (last : s.link.buffer.length = 7) :
    receiveByte b s =
      if 1040 < payloadLength (s.link.buffer ++ [b]) then discardFrame .length s
      else s.setLink { s.link with receiver := .body, buffer := s.link.buffer ++ [b] } := by
  have whole : ¬ (s.link.buffer ++ [b]).length < 8 := by simp [last]
  unfold receiveByte setReceiver
  simp only [h, if_neg whole]
  rfl

theorem receiveByte_body (b : Byte) (h : s.link.receiver = .body) :
    receiveByte b s =
      if 8 + payloadLength s.link.buffer + 2 ≤ s.link.buffer.length then discardFrame .length s
      else s.setLink { s.link with buffer := s.link.buffer ++ [b] } := by
  have more : 8 + payloadLength s.link.buffer + 2 < (s.link.buffer ++ [b]).length ↔
      8 + payloadLength s.link.buffer + 2 ≤ s.link.buffer.length := by
    rw [List.length_append, List.length_singleton, Nat.lt_succ_iff]
  unfold receiveByte setReceiver
  simp only [h, more]

theorem receiveStart_hunt (h : s.link.receiver = .hunt) :
    receiveStart s = s.setLink { s.link with receiver := .header, buffer := [] } := by
  unfold receiveStart setReceiver; simp only [h]

/-- A discarded frame leaves the receiver in HUNT with a notice (R169). -/
theorem discardFrame_eq (kind : LinkErrorKind) (s : State) :
    discardFrame kind s =
      post Source.linkError (.linkError kind s.time) (s.setLink { s.link with receiver := .hunt, buffer := [] }) := rfl

theorem receiveStart_frame (h : s.link.receiver ≠ .hunt) :
    receiveStart s =
      post Source.linkError (.linkError .endMissing s.time)
        (s.setLink { s.link with receiver := .header, buffer := [] }) := by
  unfold receiveStart
  split
  · next hunt => exact absurd hunt h
  · rfl
  · rfl

theorem receiveGap_hunt (h : s.link.receiver = .hunt) : receiveGap s = s := by
  unfold receiveGap; simp only [h]

theorem receiveGap_frame (h : s.link.receiver ≠ .hunt) : receiveGap s = discardFrame .endMissing s := by
  unfold receiveGap
  split
  · next hunt => exact absurd hunt h
  · rfl
  · rfl

theorem receiveEnd_hunt (h : s.link.receiver = .hunt) : receiveEnd s = s := by
  unfold receiveEnd; simp only [h]

theorem receiveEnd_header (h : s.link.receiver = .header) : receiveEnd s = discardFrame .length s := by
  unfold receiveEnd; simp only [h]

theorem receiveEnd_body (h : s.link.receiver = .body) :
    receiveEnd s =
      match frameFault s.link.buffer with
      | some kind => discardFrame kind s
      | none => acceptRequest (requestOf s.link.buffer) (setReceiver .hunt [] s) := by
  unfold receiveEnd; simp only [h] <;> rfl

end

/-! ### The checks of a frame, in order (R169) -/

section
variable {l : List Byte}

theorem frameFault_short (h : l.length < 8 + payloadLength l + 2) : frameFault l = some .length := by
  unfold frameFault
  split
  · rfl
  · rfl

theorem frameFault_whole (h : 8 + payloadLength l + 2 ≤ l.length) :
    frameFault l =
      if (crc (l.take (8 + payloadLength l))).toNat ≠ fieldAt l (8 + payloadLength l) then some .crc
      else if fieldAt l 0 ≠ 1 then some .notRequest else none := by
  unfold frameFault
  rw [if_neg (by omega), if_neg (by omega)]
  rfl

end

/-- Settles O5: the receiver's cases, each from the state of the receiver. -/
theorem receiverTakesSymbols : Obligations.ReceiverTakesSymbols := by
  refine ⟨fun dt b s free => ?_, fun dt s free => ?_⟩
  · have start : exec (.inboundStartSymbol dt) s = .next (receiveStart (elapse dt s)) := exec_of_live free rfl
    have byte : exec (.inboundDataByte dt b) s = .next (receiveByte b (elapse dt s)) := exec_of_live free rfl
    have idle : exec (.inboundFrameBroken dt .idle) s = .next (receiveGap (elapse dt s)) :=
      exec_of_live (f := receive .idle) free rfl
    have broken : exec (.inboundFrameBroken dt .undecodable) s = .next (receiveGap (elapse dt s)) :=
      exec_of_live (f := receive .undecodable) free rfl
    rw [start, byte, idle, broken]
    refine ⟨fun hunt => ?_, fun frame => ?_, fun header short => ?_, fun header last long => ?_,
      fun header last fits => ?_, fun body more => ?_, fun body full => ?_⟩
    · exact ⟨congrArg _ (receiveStart_hunt hunt), congrArg _ (receiveByte_hunt b hunt),
        congrArg _ (receiveGap_hunt hunt), congrArg _ (receiveGap_hunt hunt)⟩
    · exact ⟨congrArg _ (receiveStart_frame frame), congrArg _ (receiveGap_frame frame), rfl⟩
    · exact congrArg _ (receiveByte_header_short b header short)
    · exact congrArg _ ((receiveByte_header_last (s := elapse dt s) b header last).trans (if_pos long))
    · exact congrArg _ ((receiveByte_header_last (s := elapse dt s) b header last).trans (if_neg (Nat.not_lt.mpr fits)))
    · exact congrArg _ ((receiveByte_body (s := elapse dt s) b body).trans (if_neg (Nat.not_le.mpr more)))
    · exact congrArg _ ((receiveByte_body (s := elapse dt s) b body).trans (if_pos full))
  · have ends : exec (.inboundFrameEnd dt) s = .next (receiveEnd (elapse dt s)) := exec_of_live free rfl
    rw [ends]
    refine ⟨fun hunt => congrArg _ (receiveEnd_hunt hunt), fun header => congrArg _ (receiveEnd_header header),
      fun body => ?_⟩
    have judged := receiveEnd_body (s := elapse dt s) body
    rw [elapse_link] at judged
    refine ⟨fun short => ?_, fun whole => ?_⟩
    · rw [judged, frameFault_short short]
      rfl
    · rw [frameFault_whole whole] at judged
      refine ⟨fun differs => ?_, fun agrees => ?_⟩
      · rw [judged, if_pos differs]
        rfl
      · rw [if_neg (not_not.mpr agrees)] at judged
        refine ⟨fun other => ?_, fun request room => ?_, fun request full => ?_⟩
        · rw [judged, if_pos other]
          rfl
        · rw [judged, if_neg (not_not.mpr request)]
          exact congrArg _ (if_pos room)
        · rw [judged, if_neg (not_not.mpr request)]
          exact congrArg _ (if_neg (Nat.not_lt.mpr full))

/-! ## The outbound pair (R174) -/

section
variable {α β : Type} {f : α → Option β}

theorem mapM_eq_none {l : List α} (h : ∃ a ∈ l, f a = none) : l.mapM f = none := by
  induction l with
  | nil => obtain ⟨a, ha, -⟩ := h; cases ha
  | cons x l ih =>
    rw [List.mapM_cons]
    cases hx : f x with
    | none => rfl
    | some y =>
      obtain ⟨a, ha, none⟩ := h
      rcases List.mem_cons.mp ha with e | e
      · rw [e, hx] at none; cases none
      · rw [ih ⟨a, e, none⟩]; rfl

theorem mapM_eq_some {l : List α} {m : List β} (h : l.map f = m.map some) : l.mapM f = some m := by
  induction l generalizing m with
  | nil =>
    cases m with
    | nil => rfl
    | cons y m => cases h
  | cons x l ih =>
    cases m with
    | nil => cases h
    | cons y m =>
      simp only [List.map_cons, List.cons.injEq] at h
      rw [List.mapM_cons, h.1, ih h.2]
      rfl

end

/-- A frame with a position that has not been taken is not built (R143). -/
theorem Read.builtFrame_none {r : Read} {j : Nat}
    (h : ∃ i, i < r.frameSize j ∧ tget r.samples (r.frameStart j + i) = none) : r.builtFrame j = none := by
  obtain ⟨i, less, none⟩ := h
  exact mapM_eq_none ⟨i, List.mem_range.mpr less, none⟩

theorem Read.builtFrame_some {r : Read} {j : Nat} {samples : List Sample} (size : samples.length = r.frameSize j)
    (h : ∀ i, i < r.frameSize j → tget r.samples (r.frameStart j + i) = samples[i]?) :
    r.builtFrame j = some samples := by
  refine mapM_eq_some (List.ext_getElem (by simp [size]) fun i h1 h2 => ?_)
  rw [List.length_map, List.length_range] at h1
  rw [List.getElem_map, List.getElem_map, List.getElem_range, h i h1, List.getElem?_eq_getElem]

section
variable {s : State}

/-- What is sent with a frame. -/
theorem sendNext_some {f : Frame} {x : State} (h : chooseFrame s = some (f, x)) :
    sendNext s = x.setLink { x.link with outgoing := some f } := by
  unfold sendNext; rw [h]; rfl

theorem sendNext_none (h : chooseFrame s = none) : sendNext s = s.setLink { s.link with outgoing := none } := by
  unfold sendNext; rw [h]; rfl

theorem chooseFrame_owed {cause : RestartCause} (h : s.link.owed = some cause) :
    chooseFrame s = some (restartedFrame cause, s.setLink { s.link with owed := none }) := by
  unfold chooseFrame; rw [h]

theorem chooseFrame_reply (owed : s.link.owed = none) {r : Reply} {rest : List Reply} (h : s.link.replies = r :: rest) :
    chooseFrame s = some (r.frame, s.setLink { s.link with replies := rest }) := by
  unfold chooseFrame; rw [owed, h]

theorem chooseNotice_some {e : NoticeEntry} {rest : List NoticeEntry} (h : s.notices.entries = e :: rest)
    (level : s.notices.threshold ≤ s.notices.level e.source) :
    chooseNotice s = some (e.frame, s.setNotices { s.notices with entries := rest }) := by
  unfold chooseNotice; rw [h]; exact if_pos level

theorem chooseNotice_none (h : ∀ e ∈ s.notices.entries.head?, s.notices.level e.source < s.notices.threshold) :
    chooseNotice s = none := by
  unfold chooseNotice
  split
  · rfl
  · next e rest he =>
    rw [he] at h
    exact if_neg (Nat.not_le.mpr (h e rfl))

/-- With no RESTARTED frame owed and no reply, a notice goes first, and then what the engine offers. -/
theorem chooseFrame_rest (owed : s.link.owed = none) (replies : s.link.replies = []) :
    chooseFrame s = (chooseNotice s).orElse fun _ => offeredFrame s := by
  unfold chooseFrame
  rw [owed, replies]
  simp only
  cases chooseNotice s <;> rfl

theorem offeredFrame_ended {x : EndFrame} {rest : List EndFrame} (h : s.readout.ended = x :: rest) :
    offeredFrame s = some (x.frame, s.setReadout { s.readout with ended := rest }) := by
  unfold offeredFrame; rw [h]

theorem offeredFrame_idle (ended : s.readout.ended = []) (queue : s.readout.queue = []) : offeredFrame s = none := by
  unfold offeredFrame; rw [ended, queue]

theorem offeredFrame_read (ended : s.readout.ended = []) {r : Read} {rest : List Read}
    (queue : s.readout.queue = r :: rest) :
    offeredFrame s =
      match r.builtFrame r.unsentFrame with
      | none => none
      | some samples =>
        if r.isLastFrame r.unsentFrame then
          some (dataFrame r (r.frameStart r.unsentFrame) samples true (r.delivered + samples.length),
            s.setReadout { s.readout with queue := rest })
        else
          some (dataFrame r (r.frameStart r.unsentFrame) samples false 0,
            s.setReadout { s.readout with
              queue :=
                { r with
                  delivered := r.delivered + samples.length,
                  samples := r.samples.filter (fun c => r.frameStart (r.unsentFrame + 1) ≤ c.1) } :: rest }) := by
  unfold offeredFrame; rw [ended, queue] <;> rfl

end

/-- Settles O11: the choices in order, each with the earlier ones ruled out. -/
theorem outboundPairChoosesInOrder : Obligations.OutboundPairChoosesInOrder := by
  intro dt s free
  have run : exec (.outboundPairFree dt) s = .next (follow (sendNext (elapse dt s))) :=
    exec_of_live (f := fun s => follow (sendNext s)) free rfl
  have sent {f : Frame} {x : State} (h : chooseFrame (elapse dt s) = some (f, x)) :
      exec (.outboundPairFree dt) s = .next (follow (x.setLink { x.link with outgoing := some f })) := by
    rw [run, sendNext_some h]
  have idle (h : chooseFrame (elapse dt s) = none) :
      exec (.outboundPairFree dt) s = .next (follow ((elapse dt s).setLink { s.link with outgoing := none })) := by
    rw [run, sendNext_none h]
    rfl
  refine ⟨fun cause owed => sent (chooseFrame_owed owed), fun owed => ⟨fun r rest replies => ?_, fun replies => ?_⟩⟩
  · exact sent (chooseFrame_reply (s := elapse dt s) owed replies)
  have order := chooseFrame_rest (s := elapse dt s) owed replies
  refine ⟨fun e rest he level => ?_, fun low => ?_⟩
  · rw [chooseNotice_some (s := elapse dt s) he level] at order
    exact sent order
  rw [chooseNotice_none (s := elapse dt s) low] at order
  change chooseFrame (elapse dt s) = offeredFrame (elapse dt s) at order
  refine ⟨fun x rest he => ?_, fun ended queue => ?_, fun r rest j first size ended queue hj hf hs => ?_⟩
  · rw [offeredFrame_ended (s := elapse dt s) he] at order
    exact sent order
  · rw [offeredFrame_idle (s := elapse dt s) ended queue] at order
    exact idle order
  rw [offeredFrame_read (s := elapse dt s) ended queue] at order
  subst hj
  subst hf
  subst hs
  refine ⟨fun hole => ?_, fun samples length taken => ?_⟩
  · rw [show r.builtFrame r.unsentFrame = none from Read.builtFrame_none hole] at order
    exact idle order
  · rw [show r.builtFrame r.unsentFrame = some samples from Read.builtFrame_some length taken] at order
    have start : r.frameStart (r.unsentFrame + 1) = r.firstPos + 256 * (r.delivered / 256) + 256 := by
      unfold Read.frameStart Read.unsentFrame
      omega
    simp only [start, length] at order
    refine ⟨fun last => ?_, fun more => ?_⟩
    · simp only [show r.isLastFrame r.unsentFrame = true from decide_eq_true last, if_true] at order
      exact sent order
    · simp only [show r.isLastFrame r.unsentFrame = false from decide_eq_false (Nat.not_le.mpr more),
        Bool.false_eq_true, if_false] at order
      exact sent order

end Sys2Proof.Machine

/-!
PROOF. Requests and their payloads: track fields out of range, the spellings of Table 12.3, request frames sent symbol by
symbol, and the bytes of frames and records.
-/

namespace Sys2Proof.Machine

/-! ## Track fields -/

/-- Settles O9: each handler looks for the track first. -/
theorem outOfRangeTrackIsRefused : Obligations.OutOfRangeTrackIsRefused := by
  intro dt order s r rest q n h field big
  have missing := trackOf_big big
  cases q with
  | stageTrack m items =>
    cases field
    exact exec_of_serves serveStageTrack h rfl (by simp only [serveStageTrack, missing]; rfl)
  | commitTrack m =>
    cases field
    exact exec_of_serves serveCommitTrack h rfl (by simp only [serveCommitTrack, missing]; rfl)
  | updateOffset m =>
    cases field
    exact exec_of_serves serveUpdateOffset h rfl (by simp only [serveUpdateOffset, missing]; rfl)
  | armTrack m count =>
    cases field
    exact exec_of_serves serveArmTrack h rfl (by simp only [serveArmTrack, missing]; rfl)
  | stopTrack m =>
    cases field
    exact exec_of_serves serveStopTrack h rfl (by simp only [serveStopTrack, missing]; rfl)
  | abortTrack m =>
    cases field
    exact exec_of_serves serveAbortTrack h rfl (by simp only [serveAbortTrack, missing]; rfl)
  | resetTrack m =>
    cases field
    exact exec_of_serves serveResetTrack h rfl (by simp only [serveResetTrack, missing]; rfl)
  | trackStatus m =>
    cases field
    exact exec_of_serves serveTrackStatus h rfl (by simp only [serveTrackStatus, missing]; rfl)
  | loadMap m first items =>
    cases field
    exact exec_of_serves serveLoadMap h rfl (by simp only [serveLoadMap, missing]; rfl)
  | checkPage m page =>
    cases field
    exact exec_of_serves serveCheckPage h rfl (by simp only [serveCheckPage, missing]; rfl)
  | keepSweep m seq =>
    cases field
    exact exec_of_serves serveKeepSweep h rfl (by simp only [serveKeepSweep, missing]; rfl)
  | releaseSweep m seq =>
    cases field
    exact exec_of_serves serveReleaseSweep h rfl (by simp only [serveReleaseSweep, missing]; rfl)
  | dropSweep m seq =>
    cases field
    exact exec_of_serves serveDropSweep h rfl (by simp only [serveDropSweep, missing]; rfl)
  | listSweeps m seq most =>
    cases field
    exact exec_of_serves serveListSweeps h rfl (by simp only [serveListSweeps, missing]; rfl)
  | sweepInfo m seq =>
    cases field
    exact exec_of_serves serveSweepInfo h rfl (by simp only [serveSweepInfo, missing]; rfl)
  | injectFault m kind =>
    cases field
    exact exec_of_serves serveInjectFault h rfl (by simp only [serveInjectFault, missing]; rfl)
  | readSweep m seq first count o =>
    cases field
    exact exec_of_serves serveReadSweep h rfl (by simp only [serveReadSweep, missing]; rfl)
  | readMean m o =>
    cases field
    exact exec_of_serves serveReadMean h rfl (by simp only [serveReadMean, missing]; rfl)
  | averagerStatus m =>
    cases field
    exact exec_of_serves serveAveragerStatus h rfl (by simp only [serveAveragerStatus, missing]; rfl)
  | restartAverage m =>
    cases field
    exact exec_of_serves serveRestartAverage h rfl (by simp only [serveRestartAverage, missing]; rfl)
  | setAverager m enable region coasted =>
    cases field
    cases enable with
    | true =>
      refine exec_of_serves serveSetAveragerEnable h rfl ?_
      simp only [serveSetAveragerEnable, enableAverager, missing]
      rfl
    | false => exact exec_of_serves serveSetAveragerDisable h rfl (by simp only [serveSetAveragerDisable, missing]; rfl)
  | _ => cases field

/-! ## Values as bytes (R186) -/

theorem length_leBytes (k n : Nat) : (leBytes k n).length = k := by
  induction k generalizing n with
  | zero => rfl
  | succ k ih => simp [leBytes, ih]

/-- A signed 2-byte value is its low byte and its high byte. -/
theorem leInt_two (v : Int) : leInt 2 v = [BitVec.ofInt 8 v, BitVec.ofInt 8 (v / 256)] := by
  unfold leInt leBytes leBytes leBytes
  refine congrArg₂ List.cons (BitVec.eq_of_toNat_eq ?_) (congrArg₂ List.cons (BitVec.eq_of_toNat_eq ?_) rfl) <;>
    simp only [BitVec.toNat_ofNat, BitVec.toNat_ofInt, Nat.reducePow] <;> omega

/-! ## Frames and records as sent -/

theorem orderedSample_eq (o : ByteOrder) (v : Int) :
    orderedSample o v =
      match o with
      | .lowFirst => [BitVec.ofInt 8 v, BitVec.ofInt 8 (v / 256)]
      | .highFirst => [BitVec.ofInt 8 (v / 256), BitVec.ofInt 8 v] := by
  cases o <;> simp [orderedSample, leInt_two]

/-- The lowest flag of a sum of flags, and the others. -/
theorem testBit_flag (b : Bool) (n i : Nat) :
    (b.toNat + 2 * n).testBit 0 = b ∧ (b.toNat + 2 * n).testBit (i + 1) = n.testBit i := by
  constructor
  · rw [Nat.testBit_zero]
    cases b <;> simp
  · rw [Nat.testBit_succ]
    congr 1
    have := b.toNat_le
    omega

/-- The flags of a record, one bit each (Table 12.5). -/
theorem SweepRecord.flags_testBit (y : SweepRecord) :
    y.flags.testBit 0 = y.coasted ∧ y.flags.testBit 1 = y.short ∧ y.flags.testBit 2 = y.gap ∧
    y.flags.testBit 3 = y.clipped ∧ y.flags.testBit 4 = y.offsetRail ∧ y.flags.testBit 5 = y.kept ∧
    y.flags.testBit 6 = y.averaged ∧ y.flags.testBit 7 = y.damaged := by
  have nested : y.flags = y.coasted.toNat + 2 * (y.short.toNat + 2 * (y.gap.toNat + 2 * (y.clipped.toNat +
      2 * (y.offsetRail.toNat + 2 * (y.kept.toNat + 2 * (y.averaged.toNat + 2 * (y.damaged.toNat + 2 * 0))))))) := by
    unfold SweepRecord.flags
    omega
  rw [nested]
  refine ⟨?_, ?_, ?_, ?_, ?_, ?_, ?_, ?_⟩ <;>
    simp only [(testBit_flag _ _ 0).1, (testBit_flag _ _ 0).2, (testBit_flag _ _ 1).2, (testBit_flag _ _ 2).2,
      (testBit_flag _ _ 3).2, (testBit_flag _ _ 4).2, (testBit_flag _ _ 5).2, (testBit_flag _ _ 6).2]

theorem SweepRecord.flags_lt (y : SweepRecord) : y.flags < 256 := by
  unfold SweepRecord.flags
  have := y.coasted.toNat_le
  have := y.short.toNat_le
  have := y.gap.toNat_le
  have := y.clipped.toNat_le
  have := y.offsetRail.toNat_le
  have := y.kept.toNat_le
  have := y.averaged.toNat_le
  have := y.damaged.toNat_le
  omega

theorem length_recordBytes (y : SweepRecord) : (recordBytes y).length = 31 := by
  unfold recordBytes seqBytes timeBytes leInt
  cases y.losses <;> simp [length_leBytes]

theorem recordBytes_eq (y : SweepRecord) :
    recordBytes y =
      leBytes 4 y.seq ++ leBytes 6 y.markerTime.toNat ++ leBytes 6 y.period ++ leBytes 2 y.firstPage ++
        leBytes 2 y.length ++ leBytes 2 y.generation.toNat ++ leInt 2 y.offsetUsed ++
        [(match y.state with
          | .filling => 0
          | .draining => 1
          | .complete => 2), if y.unit = .A then 0 else 1, BitVec.ofNat 8 y.flags] ++
        (match y.losses with
         | none => [0, 0, 0, 0]
         | some l => leBytes 2 l.count ++ leBytes 2 l.first) := by
  unfold recordBytes seqBytes timeBytes
  cases y.state <;> cases y.unit <;> rfl

/-- Settles O12. -/
theorem framesAndRecordsAsSent : Obligations.FramesAndRecordsAsSent := by
  refine ⟨fun c => by cases c <;> rfl, fun e => ?_, fun r first samples final delivered => ?_, fun y => ?_, fun w => ?_,
    fun w => rfl, fun t => rfl, fun seq flags => rfl, fun reason done counter => ?_, fun t number last k => rfl,
    fun t e => rfl, fun cause t e => by cases cause <;> rfl, fun f => rfl, fun w => rfl, fun change t b => ?_,
    fun kind t => by cases kind <;> rfl⟩
  · unfold EndFrame.frame
    cases e.status <;> simp [leBytes, EndStatus.code]
  · unfold dataFrame
    refine ⟨rfl, rfl, by cases r.kind <;> rfl, ?_⟩
    simp only [orderedSample_eq, EndStatus.code] <;> cases final <;> rfl
  · exact ⟨recordBytes_eq y, length_recordBytes y, y.flags_lt, y.flags_testBit⟩
  · unfold wordFaultBytes seqBytes
    cases w.code <;> rfl
  · cases reason with
    | halted h => cases h <;> rfl
    | _ => rfl
  · cases change with
    | standby cause => cases cause <;> rfl
    | running cause => cases cause <;> rfl

end Sys2Proof.Machine

/-!
PROOF. A request frame sent symbol by symbol reaches the request queue unchanged (R166 to R171).
-/

namespace Sys2Proof.Machine

/-! ## Two-byte fields -/

theorem leNat_leBytes (k n : Nat) : leNat (leBytes k n) = n % 256 ^ k := by
  induction k generalizing n with
  | zero => simp [leNat, leBytes, Nat.mod_one]
  | succ k ih =>
    simp only [leBytes, leNat, ih, BitVec.toNat_ofNat]
    rw [Nat.pow_succ' (m := 256), Nat.mod_mul (a := 256)]

/-- A 2-byte field where it was written. -/
theorem fieldAt_leBytes (before after : List Byte) {n : Nat} (small : n < 65536) :
    fieldAt (before ++ (leBytes 2 n ++ after)) before.length = n := by
  unfold fieldAt
  rw [List.drop_left, List.take_left' (length_leBytes 2 n), leNat_leBytes]
  exact Nat.mod_eq_of_lt small

theorem fieldAt_append {l : List Byte} (m : List Byte) {i : Nat} (long : i + 2 ≤ l.length) :
    fieldAt (l ++ m) i = fieldAt l i := by
  unfold fieldAt
  rw [List.drop_append_of_le_length (by omega), List.take_append_of_le_length (by rw [List.length_drop]; omega)]

/-! ## The fields of a frame -/

section
variable (f : Frame)

theorem Frame.length_header : f.header.length = 8 := by simp [Frame.header, length_leBytes]

theorem Frame.length_wire : f.wire.length = 8 + f.payload.length + 2 := by
  simp [Frame.wire, Frame.length_header, length_leBytes]
  omega

variable {f}

theorem Frame.fieldAt_type : fieldAt f.wire 0 = f.ftype.code := by
  have small : f.ftype.code < 65536 := by cases f.ftype <;> decide
  have h := fieldAt_leBytes [] (leBytes 2 f.code ++ (leBytes 2 f.tag ++ (leBytes 2 f.payload.length ++ (f.payload ++
    leBytes 2 (crc (f.header ++ f.payload)).toNat)))) small
  simpa only [Frame.wire, Frame.header, List.append_assoc, List.nil_append, List.length_nil] using h

theorem Frame.fieldAt_code (small : f.code < 65536) : fieldAt f.wire 2 = f.code := by
  have h := fieldAt_leBytes (leBytes 2 f.ftype.code) (leBytes 2 f.tag ++ (leBytes 2 f.payload.length ++ (f.payload ++
    leBytes 2 (crc (f.header ++ f.payload)).toNat))) small
  simpa only [Frame.wire, Frame.header, List.append_assoc, length_leBytes] using h

theorem Frame.fieldAt_tag (small : f.tag < 65536) : fieldAt f.wire 4 = f.tag := by
  have h := fieldAt_leBytes (leBytes 2 f.ftype.code ++ leBytes 2 f.code) (leBytes 2 f.payload.length ++ (f.payload ++
    leBytes 2 (crc (f.header ++ f.payload)).toNat)) small
  simpa only [Frame.wire, Frame.header, List.append_assoc, List.length_append, length_leBytes] using h

theorem Frame.payloadLength_wire (small : f.payload.length ≤ 1040) : payloadLength f.wire = f.payload.length := by
  have h := fieldAt_leBytes (leBytes 2 f.ftype.code ++ (leBytes 2 f.code ++ leBytes 2 f.tag)) (f.payload ++
    leBytes 2 (crc (f.header ++ f.payload)).toNat) (n := f.payload.length) (by omega)
  simpa only [payloadLength, Frame.wire, Frame.header, List.append_assoc, List.length_append, length_leBytes] using h

theorem Frame.take_wire : f.wire.take (8 + f.payload.length) = f.header ++ f.payload :=
  List.take_left' (by rw [List.length_append, Frame.length_header])

theorem Frame.fieldAt_crc : fieldAt f.wire (8 + f.payload.length) = (crc (f.header ++ f.payload)).toNat := by
  have h := fieldAt_leBytes (f.header ++ f.payload) [] (crc (f.header ++ f.payload)).isLt
  rw [List.length_append, Frame.length_header, List.append_nil] at h
  exact h

/-- A request frame passes the three checks. -/
theorem Frame.frameFault_wire (kind : f.ftype = .request) (small : f.payload.length ≤ 1040) :
    frameFault f.wire = none := by
  rw [frameFault_whole (by rw [Frame.payloadLength_wire small, Frame.length_wire]), Frame.payloadLength_wire small,
    Frame.take_wire, Frame.fieldAt_crc, Frame.fieldAt_type, kind]
  simp [FrameType.code]

/-- The request a frame carries. -/
theorem Frame.requestOf_wire (code : f.code < 65536) (tag : f.tag < 65536) (small : f.payload.length ≤ 1040) :
    requestOf f.wire = { code := f.code, tag := f.tag, payload := f.payload } := by
  unfold requestOf
  rw [Frame.fieldAt_code code, Frame.fieldAt_tag tag, Frame.payloadLength_wire small]
  congr 1
  unfold Frame.wire
  rw [List.append_assoc, List.drop_left' (Frame.length_header f), List.take_left' rfl]

end

/-! ## The bytes of a frame, one after another -/

/-- The link with part of a frame in the buffer. -/
def Link.taking (l : Link) (done : List Byte) : Link :=
  { l with receiver := if done.length < 8 then .header else .body, buffer := done }

theorem receiveByte_taking {x : State} {l : Link} {w : List Byte} (done : List Byte) (b : Byte) (rest : List Byte)
    (whole : done ++ b :: rest = w) (length : w.length = 8 + payloadLength w + 2) (small : payloadLength w ≤ 1040)
    (link : x.link = l.taking done) : receiveByte b x = x.setLink (l.taking (done ++ [b])) := by
  have split : done ++ [b] ++ rest = w := by rw [← whole]; simp
  have counted : done.length + 1 + rest.length = w.length := by rw [← whole]; simp; omega
  by_cases part : done.length < 8
  · have header : x.link.receiver = .header := by rw [link]; exact if_pos part
    have buffer : x.link.buffer = done := by rw [link]; rfl
    by_cases short : done.length < 7
    · rw [receiveByte_header_short b header (by rw [buffer]; exact short), link]
      simp [Link.taking, part, show done.length + 1 < 8 by omega]
    · have last : done.length = 7 := by omega
      have judged : payloadLength (done ++ [b]) = payloadLength w := by
        rw [← split]
        exact (fieldAt_append rest (by simp; omega)).symm
      rw [receiveByte_header_last b header (by rw [buffer]; exact last), buffer, judged, if_neg (by omega), link]
      simp [Link.taking, last]
  · have body : x.link.receiver = .body := by rw [link]; exact if_neg part
    have buffer : x.link.buffer = done := by rw [link]; rfl
    have judged : payloadLength done = payloadLength w := by
      rw [← whole]
      exact (fieldAt_append (b :: rest) (by omega)).symm
    rw [receiveByte_body b body, buffer, judged, if_neg (by omega), link]
    simp [Link.taking, part, show ¬ done.length + 1 < 8 by omega]

/-- The bytes of a frame fill the buffer. -/
theorem runCommands_bytes (dt : Nat) (tail : List Instr) {l : Link} {w : List Byte}
    (length : w.length = 8 + payloadLength w + 2) (small : payloadLength w ≤ 1040) (rest done : List Byte) (x : State)
    (whole : done ++ rest = w) (free : x.resetHeld = false) (link : x.link = l.taking done) :
    ∃ y, runCommands (rest.map (fun b => .inboundDataByte dt b) ++ tail) x = runCommands tail y ∧
      y.notices = x.notices ∧ y.resetHeld = false ∧ y.link = l.taking w := by
  induction rest generalizing done x with
  | nil =>
    refine ⟨x, rfl, rfl, free, ?_⟩
    rw [link, ← whole, List.append_nil]
  | cons b rest ih =>
    have taken := receiveByte_taking (x := elapse dt x) done b rest whole length small link
    have run : exec (.inboundDataByte dt b) x = .next ((elapse dt x).setLink (l.taking (done ++ [b]))) := by
      rw [← taken]
      exact exec_of_live (f := receiveByte b) free rfl
    obtain ⟨y, ran, notices, held, link⟩ := ih (done ++ [b]) ((elapse dt x).setLink (l.taking (done ++ [b])))
      (by rw [← whole]; simp) free rfl
    refine ⟨y, ?_, notices, held, link⟩
    rw [List.map_cons, List.cons_append, runCommands, run]
    exact ran

/-- Settles O6: the bytes fill the buffer, and at the end symbol the frame passes the checks. -/
theorem sentRequestFrameIsQueued : Obligations.SentRequestFrameIsQueued := by
  intro dt f s kind code tag small free hunt room
  have start : exec (.inboundStartSymbol dt) s = .next (receiveStart (elapse dt s)) := exec_of_live free rfl
  rw [receiveStart_hunt (s := elapse dt s) hunt] at start
  obtain ⟨y, ran, notices, held, link⟩ := runCommands_bytes dt [.inboundFrameEnd dt] (l := s.link)
    (w := f.wire) (by rw [Frame.payloadLength_wire small, Frame.length_wire])
    (by rw [Frame.payloadLength_wire small]; exact small) f.wire []
    ((elapse dt s).setLink { s.link with receiver := .header, buffer := [] }) rfl free rfl
  have long : ¬ f.wire.length < 8 := by rw [Frame.length_wire]; omega
  have body : (elapse dt y).link.receiver = .body := by
    rw [elapse_link, link]
    change (if f.wire.length < 8 then ReceiverState.header else .body) = .body
    rw [if_neg long]
  have buffer : (elapse dt y).link.buffer = f.wire := by rw [elapse_link, link]; rfl
  have ends : exec (.inboundFrameEnd dt) y = .next (acceptRequest (requestOf f.wire) (setReceiver .hunt [] (elapse dt y))) := by
    rw [exec_of_live (f := receiveEnd) held rfl, receiveEnd_body body, buffer, Frame.frameFault_wire kind small]
  have accepted : acceptRequest (requestOf f.wire) (setReceiver .hunt [] (elapse dt y)) =
      (elapse dt y).setLink { s.link with
        receiver := .hunt, buffer := [],
        queue := s.link.queue ++ [{ code := f.code, tag := f.tag, payload := f.payload }] } := by
    have queue : (setReceiver .hunt [] (elapse dt y)).link.queue.length < Config.queueDepth := by
      simp only [setReceiver, State.setLink_link, elapse_link, link, Link.taking]
      exact room
    unfold acceptRequest
    rw [if_pos queue, Frame.requestOf_wire code tag small]
    simp only [setReceiver, State.setLink_link, elapse_link, link, Link.taking, setter_link_link]
  refine ⟨(elapse dt y).setLink { s.link with
      receiver := .hunt, buffer := [],
      queue := s.link.queue ++ [{ code := f.code, tag := f.tag, payload := f.payload }] }, ?_, notices, rfl⟩
  unfold frameCommands
  rw [runCommands, start]
  refine ran.trans ?_
  rw [runCommands, ends, accepted]
  rfl

end Sys2Proof.Machine

/-!
PROOF. Requests parse exactly as Table 12.3 spells them (R172, R187).
-/

namespace Sys2Proof.Machine

/-! ## Bytes and values -/

theorem leBytes_leNat (l : List Byte) : leBytes l.length (leNat l) = l := by
  induction l with
  | nil => rfl
  | cons b l ih =>
    have low : BitVec.ofNat 8 (b.toNat + 256 * leNat l) = b := by
      refine BitVec.eq_of_toNat_eq ?_
      rw [BitVec.toNat_ofNat]
      have := b.isLt
      omega
    have high : (b.toNat + 256 * leNat l) / 256 = leNat l := by
      have := b.isLt
      omega
    simp only [List.length_cons, leNat, leBytes, low, high, ih]

theorem leNat_leBytes_of_lt {k n : Nat} (small : n < 256 ^ k) : leNat (leBytes k n) = n := by
  rw [leNat_leBytes, Nat.mod_eq_of_lt small]

theorem leNat_two_lt (a b : Byte) : leNat [a, b] < 65536 := by
  have small := leNat_lt [a, b]
  norm_num at small
  exact small

theorem leNat_four_lt (a b c d : Byte) : leNat [a, b, c, d] < 2 ^ 32 := by
  have small := leNat_lt [a, b, c, d]
  norm_num at small ⊢
  exact small

theorem leBytes_two (a b : Byte) : leBytes 2 (leNat [a, b]) = [a, b] := leBytes_leNat [a, b]

theorem leBytes_four (a b c d : Byte) : leBytes 4 (leNat [a, b, c, d]) = [a, b, c, d] := leBytes_leNat [a, b, c, d]

theorem leNat_leBytes_two {n : Nat} (small : n < 65536) : leNat (leBytes 2 n) = n := leNat_leBytes_of_lt small

theorem leNat_leBytes_four {n : Nat} (small : n < 2 ^ 32) : leNat (leBytes 4 n) = n := by
  refine leNat_leBytes_of_lt ?_
  norm_num
  exact small

theorem flagOf_flagByte (v : Bool) : flagOf (flagByte v) = some v := by cases v <;> rfl

theorem flagOf_iff (b : Byte) (v : Bool) : flagOf b = some v ↔ b = flagByte v := by
  unfold flagOf flagByte
  constructor
  · intro h
    split at h
    · next zero => cases h; exact zero
    · split at h
      · next one => cases h; exact one
      · cases h
  · rintro rfl
    cases v <;> rfl

/-- A signed 2-byte value and its bytes (R186). -/
theorem signed16_leInt {v : Int} (low : -32768 ≤ v) (high : v ≤ 32767) : signed16 (leNat (leInt 2 v)) = v := by
  unfold leInt
  rw [leNat_leBytes]
  unfold signed16
  simp only [Nat.reducePow]
  split <;> omega

theorem leInt_signed16 (lo hi : Byte) : leInt 2 (signed16 (leNat [lo, hi])) = [lo, hi] := by
  have small := leNat_lt [lo, hi]
  have value : (signed16 (leNat [lo, hi]) % (256 ^ 2 : Nat)).toNat = leNat [lo, hi] := by
    simp only [List.length_cons, List.length_nil, Nat.zero_add, Nat.reduceAdd, Nat.reducePow] at small ⊢
    unfold signed16
    split <;> omega
  unfold leInt
  rw [value]
  exact leBytes_leNat [lo, hi]

theorem signed16_range (lo hi : Byte) :
    -32768 ≤ signed16 (leNat [lo, hi]) ∧ signed16 (leNat [lo, hi]) ≤ 32767 := by
  have small := leNat_lt [lo, hi]
  simp only [List.length_cons, List.length_nil, Nat.zero_add, Nat.reduceAdd, Nat.reducePow] at small
  unfold signed16
  split <;> omega

/-! ## Payloads that are lists -/

theorem spellsFields_of_fieldItems {kinds : Nat} : ∀ {bs : List Byte} {items : List (Nat × Int)},
    fieldItems kinds bs = some items → (items.map (fun i => i.1)).Nodup → SpellsFields kinds bs items
  | [], items, parsed, _ => by
    cases parsed
    exact .nil
  | n :: lo :: hi :: rest, items, parsed, once => by
    unfold fieldItems at parsed
    split at parsed
    · next known =>
      split at parsed
      · next more found =>
        cases parsed
        rw [List.map_cons, List.nodup_cons] at once
        have spelled := SpellsFields.cons n.toNat (signed16 (leNat [lo, hi])) known (signed16_range lo hi).1
          (signed16_range lo hi).2 (fun i hi' e => once.1 (List.mem_map.mpr ⟨i, hi', e⟩))
          (spellsFields_of_fieldItems found once.2)
        rw [leInt_signed16, BitVec.ofNat_toNat, BitVec.setWidth_eq] at spelled
        exact spelled
      · cases parsed
    · cases parsed
  | [_], items, parsed, _ => by cases parsed
  | [_, _], items, parsed, _ => by cases parsed

theorem fieldItems_of_spells {kinds : Nat} (few : kinds ≤ 256) {bs : List Byte} {items : List (Nat × Int)}
    (h : SpellsFields kinds bs items) : fieldItems kinds bs = some items ∧ (items.map (fun i => i.1)).Nodup := by
  induction h with
  | nil => exact ⟨rfl, List.nodup_nil⟩
  | cons n v known low high new _ ih =>
    refine ⟨?_, ?_⟩
    · have number : (BitVec.ofNat 8 n).toNat = n := by
        rw [BitVec.toNat_ofNat]
        exact Nat.mod_eq_of_lt (by omega)
      have value := signed16_leInt low high
      rw [leInt_two] at value ⊢
      simp only [List.cons_append, List.nil_append, fieldItems, number, if_pos known, ih.1, value]
    · rw [List.map_cons, List.nodup_cons]
      refine ⟨fun mem => ?_, ih.2⟩
      obtain ⟨i, hi, e⟩ := List.mem_map.mp mem
      exact new i hi e

/-- Field items whose numbers the kind defines, each at most once. -/
theorem optionalFields_iff {kinds : Nat} (few : kinds ≤ 256) (bs : List Byte) (items : List (Nat × Int)) :
    optionalFields kinds bs = some items ↔ SpellsFields kinds bs items := by
  unfold optionalFields distinctFields
  constructor
  · intro h
    split at h
    · next found =>
      split at h
      · next once =>
        cases h
        exact spellsFields_of_fieldItems found (of_decide_eq_true once)
      · cases h
    · cases h
  · intro h
    obtain ⟨parsed, once⟩ := fieldItems_of_spells few h
    rw [parsed]
    simp only [decide_eq_true once, if_true]

theorem spellsItems_of_loadItems : ∀ {bs : List Byte} {items : List LoadItem},
    loadItems bs = some items → SpellsItems bs items
  | [], items, parsed => by
    cases parsed
    exact .nil
  | kind :: h :: lo :: hi :: rest, items, parsed => by
    unfold loadItems at parsed
    split at parsed
    · cases parsed
    · next more found =>
      have tail := spellsItems_of_loadItems found
      split at parsed
      · next unmap =>
        cases parsed
        exact unmap ▸ .cons (.unmap h lo hi) tail
      · split at parsed
        · next map =>
          split at parsed
          · next hp flag =>
            cases parsed
            have page : leBytes 2 (BitVec.ofNat 16 (leNat [lo, hi])).toNat = [lo, hi] := by
              rw [BitVec.toNat_ofNat, Nat.mod_eq_of_lt (leNat_two_lt lo hi), leBytes_two]
            have item := SpellsItem.mapPage (BitVec.ofNat 16 (leNat [lo, hi])) hp
            rw [page, ← (flagOf_iff h hp).mp flag] at item
            exact map ▸ .cons item tail
          · cases parsed
        · cases parsed
  | [_], items, parsed => by cases parsed
  | [_, _], items, parsed => by cases parsed
  | [_, _, _], items, parsed => by cases parsed

theorem loadItems_of_spells {bs : List Byte} {items : List LoadItem} (h : SpellsItems bs items) :
    loadItems bs = some items := by
  induction h with
  | nil => rfl
  | cons item _ ih =>
    cases item with
    | unmap x y z => simp [loadItems, ih]
    | mapPage page hp =>
      have value : BitVec.ofNat 16 (leNat (leBytes 2 page.toNat)) = page := by
        rw [leNat_leBytes_two page.isLt, BitVec.ofNat_toNat, BitVec.setWidth_eq]
      have bytes : leBytes 2 page.toNat = [BitVec.ofNat 8 page.toNat, BitVec.ofNat 8 (page.toNat / 256)] := rfl
      rw [bytes] at value ⊢
      simp only [List.cons_append, List.nil_append, loadItems, ih, value, flagOf_flagByte]
      rfl

/-! ## What each parser accepts is a row of Table 12.3 -/

section
variable {l : List Byte} {q : Request}

theorem parseTrack_some {f : Nat → Request} (h : parseTrack f l = some q) : ∃ t : Byte, l = [t] ∧ q = f t.toNat := by
  unfold parseTrack at h
  split at h
  · next t => cases h; exact ⟨t, rfl, rfl⟩
  · cases h

theorem parseNone_some {f : Request} (h : parseNone f l = some q) : l = [] ∧ q = f := by
  unfold parseNone at h
  split at h
  · cases h; exact ⟨rfl, rfl⟩
  · cases h

theorem parseTrackSeq_some {f : Nat → Nat → Request} (h : parseTrackSeq f l = some q) :
    ∃ (t : Byte) (seq : Nat), seq < 2 ^ 32 ∧ l = t :: leBytes 4 seq ∧ q = f t.toNat seq := by
  unfold parseTrackSeq at h
  split at h
  · next t a b c d =>
    cases h
    exact ⟨t, _, leNat_four_lt a b c d, by rw [leBytes_four], rfl⟩
  · cases h

theorem spells_of_parseSetMarker (h : parseSetMarker l = some q) : Spells 0x01 l q := by
  unfold parseSetMarker at h
  split at h
  · next u rest =>
    obtain ⟨items, parsed, rfl⟩ := Option.map_eq_some_iff.mp h
    exact .setMarker u ((optionalFields_iff (by decide) rest items).mp parsed)
  · cases h

theorem spells_of_parseStageTrack (h : parseStageTrack l = some q) : Spells 0x10 l q := by
  unfold parseStageTrack at h
  split at h
  · next t rest =>
    obtain ⟨items, parsed, rfl⟩ := Option.map_eq_some_iff.mp h
    exact .stageTrack t ((optionalFields_iff (by decide) rest items).mp parsed)
  · cases h

theorem spells_of_parseArmTrack (h : parseArmTrack l = some q) : Spells 0x13 l q := by
  unfold parseArmTrack at h
  split at h
  · next t lo hi =>
    cases h
    have spelled := Spells.armTrack t _ (leNat_two_lt lo hi)
    rw [leBytes_two] at spelled
    exact spelled
  · cases h

theorem spells_of_parseLoadMap (h : parseLoadMap l = some q) : Spells 0x20 l q := by
  unfold parseLoadMap at h
  split at h
  · next t f0 f1 c0 c1 rest =>
    split at h
    · next items parsed =>
      split at h
      · next count =>
        cases h
        have few : items.length < 65536 := count ▸ leNat_two_lt c0 c1
        have spelled := Spells.loadMap t _ (leNat_two_lt f0 f1) few (spellsItems_of_loadItems parsed)
        rw [← count, leBytes_two, leBytes_two] at spelled
        exact spelled
      · cases h
    · cases h
  · cases h

theorem spells_of_parseCheckPage (h : parseCheckPage l = some q) : Spells 0x21 l q := by
  unfold parseCheckPage at h
  split at h
  · next t lo hi =>
    cases h
    have spelled := Spells.checkPage t _ (leNat_two_lt lo hi)
    rw [leBytes_two] at spelled
    exact spelled
  · cases h

theorem spells_of_parsePageOwner (h : parsePageOwner l = some q) : Spells 0x22 l q := by
  unfold parsePageOwner at h
  split at h
  · next lo hi =>
    cases h
    have spelled := Spells.pageOwner _ (leNat_two_lt lo hi)
    rw [leBytes_two] at spelled
    exact spelled
  · cases h

theorem spells_of_parseListSweeps (h : parseListSweeps l = some q) : Spells 0x33 l q := by
  unfold parseListSweeps at h
  split at h
  · next t a b c d m =>
    cases h
    have spelled := Spells.listSweeps t _ m (leNat_four_lt a b c d)
    rw [leBytes_four] at spelled
    exact spelled
  · cases h

theorem spells_of_parseSetAutoStandby (h : parseSetAutoStandby l = some q) : Spells 0x42 l q := by
  unfold parseSetAutoStandby at h
  split at h
  · obtain ⟨on, flag, rfl⟩ := Option.map_eq_some_iff.mp h
    exact (flagOf_iff _ on).mp flag ▸ .setAutoStandby on
  · next e d =>
    obtain ⟨on, flag, rfl⟩ := Option.map_eq_some_iff.mp h
    exact (flagOf_iff _ on).mp flag ▸ .setAutoStandbyDelay on d
  · cases h

theorem spells_of_parseSetChecking (h : parseSetChecking l = some q) : Spells 0x50 l q := by
  unfold parseSetChecking at h
  split at h
  · cases h; exact .setChecking _
  · cases h

theorem spells_of_parseInjectFault (h : parseInjectFault l = some q) : Spells 0x53 l q := by
  unfold parseInjectFault at h
  split at h
  · cases h; exact .injectFault _ _
  · cases h

theorem spells_of_parseReadSweep (h : parseReadSweep l = some q) : Spells 0x60 l q := by
  unfold parseReadSweep at h
  split at h
  · next t a b c d p0 p1 c0 c1 o =>
    cases h
    have spelled := Spells.readSweep t _ _ _ o (leNat_four_lt a b c d) (leNat_two_lt p0 p1) (leNat_two_lt c0 c1)
    rw [leBytes_four, leBytes_two, leBytes_two] at spelled
    exact spelled
  · cases h

theorem spells_of_parseReadMean (h : parseReadMean l = some q) : Spells 0x61 l q := by
  unfold parseReadMean at h
  split at h
  · cases h; exact .readMean _ _
  · cases h

theorem spells_of_parseAbortRead (h : parseAbortRead l = some q) : Spells 0x62 l q := by
  unfold parseAbortRead at h
  split at h
  · next lo hi =>
    cases h
    have spelled := Spells.abortRead _ (leNat_two_lt lo hi)
    rw [leBytes_two] at spelled
    exact spelled
  · cases h

theorem spells_of_parseSetAverager (h : parseSetAverager l = some q) : Spells 0x70 l q := by
  unfold parseSetAverager at h
  split at h
  · next t e =>
    obtain ⟨on, flag, rfl⟩ := Option.map_eq_some_iff.mp h
    exact (flagOf_iff e on).mp flag ▸ .setAverager t on
  · next t e b0 b1 k0 k1 =>
    obtain ⟨on, flag, rfl⟩ := Option.map_eq_some_iff.mp h
    have spelled := Spells.setAveragerRegion t on _ _ (leNat_two_lt b0 b1) (leNat_two_lt k0 k1)
    rw [leBytes_two, leBytes_two, ← (flagOf_iff e on).mp flag] at spelled
    exact spelled
  · next t e b0 b1 k0 k1 i =>
    split at h
    · next on ic flag coasted =>
      cases h
      have spelled := Spells.setAveragerCoasted t on _ _ ic (leNat_two_lt b0 b1) (leNat_two_lt k0 k1)
      rw [leBytes_two, leBytes_two, ← (flagOf_iff e on).mp flag, ← (flagOf_iff i ic).mp coasted] at spelled
      exact spelled
    · cases h
  · cases h

theorem spells_of_parseSetNoticeLevel (h : parseSetNoticeLevel l = some q) : Spells 0x80 l q := by
  unfold parseSetNoticeLevel at h
  split at h
  · cases h; exact .setNoticeLevel _ _
  · cases h

theorem spells_of_parseSetNoticeThreshold (h : parseSetNoticeThreshold l = some q) : Spells 0x81 l q := by
  unfold parseSetNoticeThreshold at h
  split at h
  · cases h; exact .setNoticeThreshold _
  · cases h

theorem spells_of_parseClearNotices (h : parseClearNotices l = some q) : Spells 0x83 l q := by
  unfold parseClearNotices at h
  split at h
  · split at h
    · next count => cases h; exact .clearNotices _ _ count
    · cases h
  · cases h

end

/-! ## Both directions -/

theorem spells_of_parseRequest {r : RawRequest} {q : Request} (h : parseRequest r = some q) :
    Spells r.code r.payload q := by
  unfold parseRequest at h
  split at h
  · next code => exact code ▸ spells_of_parseSetMarker h
  · next code => obtain ⟨t, l, rfl⟩ := parseTrack_some h; rw [code, l]; exact .markerStatus t
  · next code => exact code ▸ spells_of_parseStageTrack h
  · next code => obtain ⟨t, l, rfl⟩ := parseTrack_some h; rw [code, l]; exact .commitTrack t
  · next code => obtain ⟨t, l, rfl⟩ := parseTrack_some h; rw [code, l]; exact .updateOffset t
  · next code => exact code ▸ spells_of_parseArmTrack h
  · next code => obtain ⟨t, l, rfl⟩ := parseTrack_some h; rw [code, l]; exact .stopTrack t
  · next code => obtain ⟨t, l, rfl⟩ := parseTrack_some h; rw [code, l]; exact .abortTrack t
  · next code => obtain ⟨t, l, rfl⟩ := parseTrack_some h; rw [code, l]; exact .resetTrack t
  · next code => obtain ⟨t, l, rfl⟩ := parseTrack_some h; rw [code, l]; exact .trackStatus t
  · next code => exact code ▸ spells_of_parseLoadMap h
  · next code => exact code ▸ spells_of_parseCheckPage h
  · next code => exact code ▸ spells_of_parsePageOwner h
  · next code => obtain ⟨t, n, small, l, rfl⟩ := parseTrackSeq_some h; rw [code, l]; exact .keepSweep t n small
  · next code => obtain ⟨t, n, small, l, rfl⟩ := parseTrackSeq_some h; rw [code, l]; exact .releaseSweep t n small
  · next code => obtain ⟨t, n, small, l, rfl⟩ := parseTrackSeq_some h; rw [code, l]; exact .dropSweep t n small
  · next code => exact code ▸ spells_of_parseListSweeps h
  · next code => obtain ⟨t, n, small, l, rfl⟩ := parseTrackSeq_some h; rw [code, l]; exact .sweepInfo t n small
  · next code => obtain ⟨l, rfl⟩ := parseNone_some h; rw [code, l]; exact .standby
  · next code => obtain ⟨l, rfl⟩ := parseNone_some h; rw [code, l]; exact .wake
  · next code => exact code ▸ spells_of_parseSetAutoStandby h
  · next code => obtain ⟨l, rfl⟩ := parseNone_some h; rw [code, l]; exact .memoryStatus
  · next code => exact code ▸ spells_of_parseSetChecking h
  · next code => obtain ⟨l, rfl⟩ := parseNone_some h; rw [code, l]; exact .readFault
  · next code => obtain ⟨l, rfl⟩ := parseNone_some h; rw [code, l]; exact .clearFault
  · next code => exact code ▸ spells_of_parseInjectFault h
  · next code => exact code ▸ spells_of_parseReadSweep h
  · next code => exact code ▸ spells_of_parseReadMean h
  · next code => exact code ▸ spells_of_parseAbortRead h
  · next code => exact code ▸ spells_of_parseSetAverager h
  · next code => obtain ⟨t, l, rfl⟩ := parseTrack_some h; rw [code, l]; exact .averagerStatus t
  · next code => obtain ⟨t, l, rfl⟩ := parseTrack_some h; rw [code, l]; exact .restartAverage t
  · next code => exact code ▸ spells_of_parseSetNoticeLevel h
  · next code => exact code ▸ spells_of_parseSetNoticeThreshold h
  · next code => obtain ⟨l, rfl⟩ := parseNone_some h; rw [code, l]; exact .noticeStatus
  · next code => exact code ▸ spells_of_parseClearNotices h
  · next code => obtain ⟨l, rfl⟩ := parseNone_some h; rw [code, l]; exact .queryIdentity
  · next code => obtain ⟨l, rfl⟩ := parseNone_some h; rw [code, l]; exact .readClock
  · next code => obtain ⟨l, rfl⟩ := parseNone_some h; rw [code, l]; exact .resetPart
  · cases h

theorem parseTrackSeq_of_small (f : Nat → Nat → Request) (t : Byte) {seq : Nat} (small : seq < 2 ^ 32) :
    parseTrackSeq f (t :: leBytes 4 seq) = some (f t.toNat seq) :=
  congrArg (fun n => some (f t.toNat n)) (leNat_leBytes_four small)

theorem parseLoadMap_of_spells (t : Byte) {first : Nat} {bs : List Byte} {items : List LoadItem}
    (lowFirst : first < 65536) (lowCount : items.length < 65536) (spelled : SpellsItems bs items) :
    parseLoadMap (t :: (leBytes 2 first ++ leBytes 2 items.length ++ bs)) = some (.loadMap t.toNat first items) := by
  have firstPage := leNat_leBytes_two lowFirst
  have count := leNat_leBytes_two lowCount
  simp only [leBytes] at firstPage count
  simp only [leBytes, List.cons_append, List.nil_append, parseLoadMap, loadItems_of_spells spelled, firstPage, count,
    if_true]

theorem parseRequest_of_spells {r : RawRequest} {q : Request} (h : Spells r.code r.payload q) :
    parseRequest r = some q := by
  obtain ⟨code, tag, payload⟩ := r
  cases h with
  | setMarker u items => exact congrArg (Option.map _) ((optionalFields_iff (by decide) _ _).mpr items)
  | stageTrack t items => exact congrArg (Option.map _) ((optionalFields_iff (by decide) _ _).mpr items)
  | armTrack t count small => exact congrArg (fun n => some (Request.armTrack t.toNat n)) (leNat_leBytes_two small)
  | checkPage t page small => exact congrArg (fun n => some (Request.checkPage t.toNat n)) (leNat_leBytes_two small)
  | pageOwner page small => exact congrArg (fun n => some (Request.pageOwner n)) (leNat_leBytes_two small)
  | abortRead tag small => exact congrArg (fun n => some (Request.abortRead n)) (leNat_leBytes_two small)
  | keepSweep t seq small => exact parseTrackSeq_of_small .keepSweep t small
  | releaseSweep t seq small => exact parseTrackSeq_of_small .releaseSweep t small
  | dropSweep t seq small => exact parseTrackSeq_of_small .dropSweep t small
  | sweepInfo t seq small => exact parseTrackSeq_of_small .sweepInfo t small
  | listSweeps t seq most small =>
    exact congrArg (fun n => some (Request.listSweeps t.toNat n most.toNat)) (leNat_leBytes_four small)
  | loadMap t first lowFirst lowCount items => exact parseLoadMap_of_spells t lowFirst lowCount items
  | setAutoStandby enable => cases enable <;> rfl
  | setAutoStandbyDelay enable delay => cases enable <;> rfl
  | readSweep t seq first count order lowSeq lowFirst lowCount =>
    have parsed : parseReadSweep (t :: (leBytes 4 seq ++ leBytes 2 first ++ leBytes 2 count ++ [order])) =
      some (.readSweep t.toNat (leNat (leBytes 4 seq)) (leNat (leBytes 2 first)) (leNat (leBytes 2 count)) order.toNat) :=
      rfl
    rw [leNat_leBytes_four lowSeq, leNat_leBytes_two lowFirst, leNat_leBytes_two lowCount] at parsed
    exact parsed
  | setAverager t enable => cases enable <;> rfl
  | setAveragerRegion t enable base k lowBase lowK =>
    have parsed : parseSetAverager (t :: flagByte enable :: (leBytes 2 base ++ leBytes 2 k)) =
        (flagOf (flagByte enable)).map (fun on =>
          .setAverager t.toNat on (some (leNat (leBytes 2 base), leNat (leBytes 2 k))) none) := rfl
    rw [flagOf_flagByte, leNat_leBytes_two lowBase, leNat_leBytes_two lowK] at parsed
    exact parsed
  | setAveragerCoasted t enable base k coasted lowBase lowK =>
    have parsed : parseSetAverager (t :: flagByte enable :: (leBytes 2 base ++ leBytes 2 k ++ [flagByte coasted])) =
        some (.setAverager t.toNat enable (some (leNat (leBytes 2 base), leNat (leBytes 2 k))) (some coasted)) := by
      cases enable <;> cases coasted <;> rfl
    rw [leNat_leBytes_two lowBase, leNat_leBytes_two lowK] at parsed
    exact parsed
  | clearNotices n codes count => exact if_pos count
  | _ => rfl

theorem parseRequest_iff (r : RawRequest) (q : Request) : parseRequest r = some q ↔ Spells r.code r.payload q :=
  ⟨spells_of_parseRequest, parseRequest_of_spells⟩

/-- Table 12.3 names no other code. -/
theorem Spells.code_mem {code : Nat} {l : List Byte} {q : Request} (h : Spells code l q) :
    code ∈ [0x01, 0x02, 0x10, 0x11, 0x12, 0x13, 0x14, 0x15, 0x16, 0x17, 0x20, 0x21, 0x22, 0x30, 0x31, 0x32, 0x33,
      0x34, 0x40, 0x41, 0x42, 0x43, 0x50, 0x51, 0x52, 0x53, 0x60, 0x61, 0x62, 0x70, 0x71, 0x72, 0x80, 0x81, 0x82, 0x83,
      0x90, 0x91, 0x92] := by
  cases h <;> decide

/-! ## The answer to a request that does not parse -/

theorem serveMalformed_elapse {dt : Nat} {s : State} {r : RawRequest} {rest : List RawRequest}
    (idle : s.link.inHand = none) (room : ownWaiting s < 4) (queue : s.link.queue = r :: rest)
    (unread : parseRequest r = none) :
    serveMalformed (elapse dt s) =
      addReply true r .malformed (if r.code = 0x20 then [0, 0] else []) (handed dt s rest) := by
  have room' : ownWaiting (elapse dt s) < 4 := room
  have taken : takeRequest (elapse dt s) = some (r, handed dt s rest) := by
    simp [takeRequest, idle, queue, room', Config.maxOwnReplies, handed]
  unfold serveMalformed
  rw [taken]
  simp only [unread]
  rfl

/-- Settles O10. -/
theorem malformedRequestIsAnswered : Obligations.MalformedRequestIsAnswered := by
  refine ⟨parseRequest_iff, fun dt s r rest free idle room queue unread => ?_, fun r outside => ?_⟩
  · exact (exec_of_live free rfl).trans (congrArg Host.Outcome.next (serveMalformed_elapse idle room queue unread))
  · cases parsed : parseRequest r with
    | none => rfl
    | some q => exact absurd (spells_of_parseRequest parsed).code_mem outside

end Sys2Proof.Machine

/-!
PROOF. Marker units: what each request and each event on the input does, case by case (R2 to R20).
-/

namespace Sys2Proof.Machine

@[simp] theorem State.putMarker_time (s : State) (u : MarkerId) (m : MarkerUnit) : (s.putMarker u m).time = s.time := by
  cases u <;> rfl

@[simp] theorem State.putMarker_marker (s : State) (u : MarkerId) : s.putMarker u (s.marker u) = s := by
  cases u <;> rfl

/-! ## Edges and windows -/

theorem MarkerUnit.endsPulse_iff (m : MarkerUnit) (e : Edge) : m.endsPulse e = true ↔
    m.detected = some .rising ∧ e = .falling ∨ m.detected = some .falling ∧ e = .rising := by
  unfold MarkerUnit.endsPulse
  cases m.detected with
  | none => simp
  | some d => cases d <;> cases e <;> simp [Polarity.trailingEdge]

theorem MarkerUnit.startsPulse_iff (m : MarkerUnit) (e : Edge) : m.startsPulse e = true ↔
    m.detected = some .rising ∧ e = .rising ∨ m.detected = some .falling ∧ e = .falling := by
  unfold MarkerUnit.startsPulse
  cases m.detected with
  | none => simp
  | some d => cases d <;> cases e <;> simp [Polarity.activeEdge]

theorem unitOf_unitByte (u : MarkerId) : unitOf (unitByte u).toNat = some u := by cases u <;> rfl

theorem unitOf_big {n : Nat} (h : 2 ≤ n) : unitOf n = none := by
  match n, h with
  | n + 2, _ => rfl

section
variable {w : Window} {p now : Time}

theorem Window.judge_eq_early
    (h : elapsed w.start now < elapsed p now ∨ elapsed w.start p < w.openAfter) : w.judge p now = .early := by
  unfold Window.judge
  split
  · rfl
  · next began => rw [if_pos (h.resolve_left began)]

theorem Window.judge_eq_inside (began : elapsed p now ≤ elapsed w.start now) (opened : w.openAfter ≤ elapsed w.start p)
    (open' : elapsed w.start p ≤ w.closeAfter) : w.judge p now = .inside := by
  unfold Window.judge
  rw [if_neg (by omega), if_neg (by omega), if_pos open']

theorem Window.judge_eq_late (began : elapsed p now ≤ elapsed w.start now) (opened : w.openAfter ≤ elapsed w.start p)
    (closed : w.closeAfter < elapsed w.start p) : w.judge p now = .late := by
  unfold Window.judge
  rw [if_neg (by omega), if_neg (by omega), if_neg (by omega)]

theorem Window.judge_outside (h : elapsed w.start now < elapsed p now ∨ elapsed w.start p < w.openAfter ∨
    w.closeAfter < elapsed w.start p) : w.judge p now ≠ .inside := by
  unfold Window.judge
  split
  · exact nofun
  · split
    · exact nofun
    · rw [if_neg (by omega)]
      exact nofun

end

/-! ## Pulses -/

section
variable {u : MarkerId} {e : Edge} {order : List Track} {s : State} {p : Time}

theorem activeEdge_idle (h : (s.marker u).detected = none ∨ (s.marker u).pulse ≠ none ∨
    (s.marker u).detected = some .rising ∧ e = .falling ∨ (s.marker u).detected = some .falling ∧ e = .rising) :
    activeEdge u e s = s := by
  refine if_neg fun starts => ?_
  obtain ⟨starts, idle⟩ := Bool.and_eq_true_iff.mp starts
  rw [MarkerUnit.startsPulse_iff] at starts
  rw [Option.isNone_iff_eq_none] at idle
  rcases h with unknown | busy | ⟨rising, rfl⟩ | ⟨falling, rfl⟩
  · simp [unknown] at starts
  · exact busy idle
  · simp [rising] at starts
  · simp [falling] at starts

theorem activeEdge_starts (h : (s.marker u).detected = some .rising ∧ e = .rising ∨
    (s.marker u).detected = some .falling ∧ e = .falling) (idle : (s.marker u).pulse = none) :
    activeEdge u e s = s.putMarker u { s.marker u with pulse := some s.time } := by
  refine if_pos (Bool.and_eq_true_iff.mpr ⟨((s.marker u).startsPulse_iff e).mpr h, ?_⟩)
  rw [idle]
  rfl

theorem trailingEdge_idle (h : (s.marker u).pulse = none ∨ (s.marker u).detected = none ∨
    (s.marker u).detected = some .rising ∧ e = .rising ∨ (s.marker u).detected = some .falling ∧ e = .falling) :
    trailingEdge u e order s = s := by
  unfold trailingEdge
  split
  · rfl
  · next p pulse =>
    refine if_neg fun ends => ?_
    rw [MarkerUnit.endsPulse_iff] at ends
    rcases h with idle | unknown | ⟨rising, rfl⟩ | ⟨falling, rfl⟩
    · rw [pulse] at idle; cases idle
    · simp [unknown] at ends
    · simp [rising] at ends
    · simp [falling] at ends

/-- The trailing edge of the observed pulse, when the pulse is too short (R3). -/
theorem trailingEdge_short (pulse : (s.marker u).pulse = some p)
    (ends : (s.marker u).detected = some .rising ∧ e = .falling ∨ (s.marker u).detected = some .falling ∧ e = .rising)
    (short : elapsed p s.time < (s.marker u).settings.minWidth * 16) :
    trailingEdge u e order s = rejectPulse u order (s.putMarker u { s.marker u with pulse := none }) := by
  unfold trailingEdge
  simp only [pulse]
  rw [if_pos (((s.marker u).endsPulse_iff e).mpr ends)]
  unfold endPulse
  exact if_neg (by simp [MarkerUnit.qualifies, short])

/-- The trailing edge of the observed pulse, when the pulse is long enough (R3). -/
theorem trailingEdge_qualified (pulse : (s.marker u).pulse = some p)
    (ends : (s.marker u).detected = some .rising ∧ e = .falling ∨ (s.marker u).detected = some .falling ∧ e = .rising)
    (long : (s.marker u).settings.minWidth * 16 ≤ elapsed p s.time) :
    trailingEdge u e order s = qualifiedPulse u order p (s.putMarker u { s.marker u with pulse := none }) := by
  unfold trailingEdge
  simp only [pulse]
  rw [if_pos (((s.marker u).endsPulse_iff e).mpr ends)]
  unfold endPulse
  exact if_pos (by simp [MarkerUnit.qualifies, long])

theorem rejectPulse_free (free : (s.marker u).closeHeld = false) : rejectPulse u order s = s := by
  cases window : (s.marker u).window with
  | none => simp only [rejectPulse, window]
  | some w =>
    simp only [rejectPulse, window]
    exact if_neg (by simp [free])

theorem rejectPulse_held {w : Window} (window : (s.marker u).window = some w) (held : (s.marker u).closeHeld = true) :
    rejectPulse u order s = closeEmpty u order w (s.putMarker u { s.marker u with closeHeld := false }) := by
  unfold rejectPulse
  simp only [window]
  exact if_pos held

theorem qualifiedPulse_noSignal (h : (s.marker u).state = .noSignal) : qualifiedPulse u order p s =
    s.putMarker u { s.marker u with state := .acquiring, reference := some p, count := 0 } := by
  simp only [qualifiedPulse, h]

theorem qualifiedPulse_acquiring (h : (s.marker u).state = .acquiring) :
    qualifiedPulse u order p s = acquire u order p s := by
  simp only [qualifiedPulse, h]

theorem qualifiedPulse_lock (h : (s.marker u).state = .locked ∨ (s.marker u).state = .coasting) :
    qualifiedPulse u order p s = windowPulse u order p s := by
  rcases h with h | h <;> simp only [qualifiedPulse, h]

/-! ## Acquisition (R9, R10) -/

theorem period_inRange {n : Nat} (low : 40000 ≤ n) (high : n ≤ 400000000) :
    ¬ (n < Config.minPeriod || Config.maxPeriod < n) = true := by
  simp only [Bool.or_eq_true, decide_eq_true_eq]
  unfold Config.minPeriod Config.maxPeriod
  omega

theorem acquire_first (h : (s.marker u).reference = none) :
    acquire u order p s = s.putMarker u { s.marker u with reference := some p } := by
  simp only [acquire, h]

section
variable {ref : Time} (reference : (s.marker u).reference = some ref)
include reference

theorem acquire_outOfRange (h : elapsed ref p < 40000 ∨ 400000000 < elapsed ref p) :
    acquire u order p s = s.putMarker u { s.marker u with reference := some p, count := 0 } := by
  simp only [acquire, reference]
  exact if_pos (by simp only [Bool.or_eq_true, decide_eq_true_eq]; exact h)

variable (low : 40000 ≤ elapsed ref p) (high : elapsed ref p ≤ 400000000)
include low high

theorem acquire_disagrees (h : (s.marker u).count = 0 ∨
      (s.marker u).estimate + (s.marker u).estimate * (s.marker u).settings.tolerance / 64 < elapsed ref p ∨
      elapsed ref p + (s.marker u).estimate * (s.marker u).settings.tolerance / 64 < (s.marker u).estimate) :
    acquire u order p s =
      s.putMarker u { s.marker u with reference := some p, estimate := elapsed ref p, count := 1 } := by
  simp only [acquire, reference]
  rw [if_neg (period_inRange low high)]
  refine if_pos ?_
  simp only [Bool.or_eq_true, decide_eq_true_eq]
  simp only [MarkerUnit.allowance]
  omega

theorem acquire_agrees (counted : (s.marker u).count ≠ 0)
    (most : elapsed ref p ≤ (s.marker u).estimate + (s.marker u).estimate * (s.marker u).settings.tolerance / 64)
    (least : (s.marker u).estimate ≤ elapsed ref p + (s.marker u).estimate * (s.marker u).settings.tolerance / 64) :
    acquire u order p s =
      if (s.marker u).count = 3 then enterLocked u order p (elapsed ref p) s
      else s.putMarker u
        { s.marker u with reference := some p, estimate := elapsed ref p, count := (s.marker u).count + 1 } := by
  simp only [acquire, reference]
  rw [if_neg (period_inRange low high), if_neg]
  · simp only [Config.lockCount, Nat.reduceEqDiff]
  · simp only [Bool.or_eq_true, decide_eq_true_eq]
    simp only [MarkerUnit.allowance]
    omega

end

/-! ## Windows (R11 to R17) -/

section
variable {w : Window} (window : (s.marker u).window = some w)
include window

theorem windowPulse_early (h : w.judge p s.time = .early) :
    windowPulse u order p s = s.putMarker u { s.marker u with early := true } := by
  simp only [windowPulse, window, h]

theorem windowPulse_late (h : w.judge p s.time = .late) : windowPulse u order p s = s := by
  simp only [windowPulse, window, h]

theorem windowPulse_locked (h : w.judge p s.time = .inside) (state : (s.marker u).state = .locked) :
    windowPulse u order p s = acceptLocked u order w p s := by
  simp only [windowPulse, window, h, state]

theorem windowPulse_coasting (h : w.judge p s.time = .inside) (state : (s.marker u).state = .coasting) :
    windowPulse u order p s = acceptCoasting u order p s := by
  simp only [windowPulse, window, h, state]

theorem closeWindow_early (h : elapsed w.start s.time < w.closeAfter) : closeWindow u order s = s := by
  simp only [closeWindow, window]
  exact if_neg (by simp [Window.due, h])

theorem closeWindow_due (h : w.closeAfter ≤ elapsed w.start s.time) (free : (s.marker u).closeHeld = false) :
    closeWindow u order s =
      if (s.marker u).pulseHolds w s.time then s.putMarker u { s.marker u with closeHeld := true }
      else closeEmpty u order w s := by
  simp only [closeWindow, window]
  exact if_pos (by simp [Window.due, h, free])

end

theorem closeEmpty_coasts {w : Window} {coast : Nat}
    (state : (s.marker u).state = .locked ∧ coast = 1 ∨
      (s.marker u).state = .coasting ∧ coast = (s.marker u).coast + 1)
    (within : (s.marker u).state = .locked ∨ coast ≤ (s.marker u).settings.coastLimit) :
    closeEmpty u order w s = coastOn u order coast w.closeTime s := by
  rcases state with ⟨locked, rfl⟩ | ⟨coasting, rfl⟩
  · simp only [closeEmpty, locked]
  · simp only [closeEmpty, coasting]
    exact if_pos (within.resolve_left (by rw [coasting]; decide))

theorem closeEmpty_loses {w : Window} (coasting : (s.marker u).state = .coasting)
    (past : (s.marker u).settings.coastLimit < (s.marker u).coast + 1) :
    closeEmpty u order w s = coastOut u order w.closeTime s := by
  simp only [closeEmpty, coasting]
  exact if_neg (by omega)

end

/-! ## SET_MARKER (R2) -/

/-- Settles O15. -/
theorem setMarkerRestartsAcquisition : Obligations.SetMarkerRestartsAcquisition := by
  intro dt order s r rest n items h
  refine ⟨fun big => ?_, fun u name => ⟨fun bad => ?_, fun x good => ⟨_, rfl, ?_⟩⟩⟩
  · exact exec_of_serves (serveSetMarker order) h rfl (by simp only [serveSetMarker, unitOf_big big]; rfl)
  · subst name
    exact exec_of_serves (serveSetMarker order) h rfl
      (by simp only [serveSetMarker, unitOf_unitByte, handed_marker, bad]; rfl)
  · subst name
    refine exec_of_serves (serveSetMarker order) h rfl ?_
    simp only [serveSetMarker, unitOf_unitByte, handed_marker, good, setMarker, announceLoss_frame, putMarker_frame]
    rfl

/-! ## Pulses and windows -/

/-- Settles O16. -/
theorem pulsesAcquireAndLock : Obligations.PulsesAcquireAndLock := by
  refine ⟨fun dt u e s free => ⟨fun idle => ?_, fun starts idle => ?_⟩, fun dt u e order s free idle => ?_,
    fun dt u e order s p free pulse ends => ⟨fun short held => ?_, fun long => ⟨fun state => ?_, fun state =>
      ⟨fun none => ?_, fun ref reference => ⟨fun outside => ?_, fun low high => ⟨fun disagrees => ?_,
        fun counted few most least => ?_⟩⟩⟩⟩⟩,
    fun dt u e order s p ref free pulse ends long state reference count low high most least => ?_⟩
  all_goals
    rw [exec_of_live free rfl]
    simp only [← elapse_marker dt s, ← elapse_time dt s] at *
    generalize elapse dt s = t at *
    refine congrArg Host.Outcome.next ?_
  · exact activeEdge_idle idle
  · exact activeEdge_starts starts idle
  all_goals refine congrArg follow ?_
  · exact trailingEdge_idle idle
  · rw [trailingEdge_short pulse ends short, rejectPulse_free (by simpa only [State.marker_putMarker_same])]
  all_goals rw [trailingEdge_qualified pulse ends long]
  · rw [qualifiedPulse_noSignal (by simpa only [State.marker_putMarker_same])]
    simp only [State.marker_putMarker_same, State.putMarker_putMarker]
  all_goals rw [qualifiedPulse_acquiring (by simpa only [State.marker_putMarker_same])]
  · rw [acquire_first (by simpa only [State.marker_putMarker_same])]
    simp only [State.marker_putMarker_same, State.putMarker_putMarker]
  · rw [acquire_outOfRange (by simpa only [State.marker_putMarker_same]) outside]
    simp only [State.marker_putMarker_same, State.putMarker_putMarker]
  · rw [acquire_disagrees (by simpa only [State.marker_putMarker_same]) low high
      (by simpa only [State.marker_putMarker_same])]
    simp only [State.marker_putMarker_same, State.putMarker_putMarker]
  · rw [acquire_agrees (by simpa only [State.marker_putMarker_same]) low high
      (by simpa only [State.marker_putMarker_same]) (by simpa only [State.marker_putMarker_same])
      (by simpa only [State.marker_putMarker_same])]
    simp only [State.marker_putMarker_same, State.putMarker_putMarker, if_neg few]
  · rw [acquire_agrees (by simpa only [State.marker_putMarker_same]) low high
      (by simp only [State.marker_putMarker_same]; omega) (by simpa only [State.marker_putMarker_same])
      (by simpa only [State.marker_putMarker_same])]
    simp only [State.marker_putMarker_same, if_pos count, enterLocked, State.putMarker_putMarker]
    rfl

/-- Settles O17. -/
theorem windowPulseIsEarlyOrAccepted : Obligations.WindowPulseIsEarlyOrAccepted := by
  intro dt u edge order s p w e free pulse window ends long state
  rw [exec_of_live free rfl]
  simp only [← elapse_marker dt s, ← elapse_time dt s] at *
  generalize elapse dt s = t at *
  have lock : (t.marker u).state = .locked ∨ (t.marker u).state = .coasting :=
    state.imp (fun h => h.1) (fun h => h.1)
  have pulse' : trailingEdge u edge order t =
      windowPulse u order p (t.putMarker u { t.marker u with pulse := none }) := by
    rw [trailingEdge_qualified pulse ends long, qualifiedPulse_lock (by simpa only [State.marker_putMarker_same])]
  rw [pulse']
  refine ⟨fun early => ?_, fun began opened open' => ?_, fun began opened closed => ?_⟩ <;>
    refine congrArg Host.Outcome.next (congrArg follow ?_)
  · rw [windowPulse_early (by simpa only [State.marker_putMarker_same])
      (by rw [State.putMarker_time]; exact Window.judge_eq_early early)]
    simp only [State.marker_putMarker_same, State.putMarker_putMarker]
  · have inside : w.judge p (t.putMarker u { t.marker u with pulse := none }).time = .inside := by
      rw [State.putMarker_time]; exact Window.judge_eq_inside began opened open'
    rcases state with ⟨locked, rfl⟩ | ⟨coasting, rfl⟩
    · rw [windowPulse_locked (by simpa only [State.marker_putMarker_same]) inside
        (by simpa only [State.marker_putMarker_same])]
      simp only [acceptLocked, State.marker_putMarker_same, State.putMarker_putMarker, locked, if_true]
      rfl
    · rw [windowPulse_coasting (by simpa only [State.marker_putMarker_same]) inside
        (by simpa only [State.marker_putMarker_same])]
      simp only [acceptCoasting, State.marker_putMarker_same, State.putMarker_putMarker, coasting, reduceCtorEq, if_false]
      rfl
  · rw [windowPulse_late (by simpa only [State.marker_putMarker_same])
      (by rw [State.putMarker_time]; exact Window.judge_eq_late began opened closed)]

/-- Settles O18. -/
theorem emptyWindowCoastsOrLoses : Obligations.EmptyWindowCoastsOrLoses := by
  intro dt u e order s w coast pulse y free window state coasts loses
  simp only [exec_of_live (c := .windowClose dt u order) free rfl,
    exec_of_live (c := .pulseTrailingEdge dt ⟨u, e⟩ order) free rfl]
  simp only [← elapse_marker dt s, ← elapse_time dt s] at *
  generalize elapse dt s = t at *
  have empty : closeEmpty u order w (t.putMarker u { t.marker u with pulse := pulse, closeHeld := false }) = y := by
    by_cases within : (t.marker u).state = .locked ∨ coast ≤ (t.marker u).settings.coastLimit
    · rw [coasts within, closeEmpty_coasts (coast := coast) (by simpa only [State.marker_putMarker_same])
        (by simpa only [State.marker_putMarker_same])]
      simp only [coastOn, State.marker_putMarker_same, State.putMarker_putMarker]
      rfl
    · obtain ⟨notLocked, past⟩ := not_or.mp within
      obtain ⟨coasting, rfl⟩ := state.resolve_left fun h => notLocked h.1
      rw [loses coasting (by omega), closeEmpty_loses (by simpa only [State.marker_putMarker_same])
        (by simp only [State.marker_putMarker_same]; omega)]
      simp only [coastOut, State.marker_putMarker_same, State.putMarker_putMarker]
      rfl
  have taken : (t.marker u).pulse = pulse → (t.marker u).closeHeld = false → closeEmpty u order w t = y := by
    intro same held
    have put : t.putMarker u { t.marker u with pulse := pulse, closeHeld := false } = t := by
      rw [← same, ← held]
      exact t.putMarker_marker u
    rwa [put] at empty
  refine ⟨fun early => ?_, fun due held idle none => ?_, fun p due held busy kept outside => ?_,
    fun p due held busy began opened open' => ?_, fun p held busy none ends short => ?_⟩ <;>
    refine congrArg Host.Outcome.next (congrArg follow ?_)
  · exact closeWindow_early window early
  · rw [closeWindow_due window due held, if_neg (by simp only [MarkerUnit.pulseHolds, idle]; exact Bool.false_ne_true)]
    exact taken (idle.trans none.symm) held
  · rw [closeWindow_due window due held, if_neg]
    · exact taken (busy.trans kept.symm) held
    · simp only [MarkerUnit.pulseHolds, busy, decide_eq_true_eq]
      exact Window.judge_outside outside
  · rw [closeWindow_due window due held, if_pos]
    simp only [MarkerUnit.pulseHolds, busy, decide_eq_true_eq]
    exact Window.judge_eq_inside began opened open'
  · rw [trailingEdge_short busy ends short, rejectPulse_held (by simpa only [State.marker_putMarker_same])
      (by simpa only [State.marker_putMarker_same])]
    simp only [State.marker_putMarker_same, State.putMarker_putMarker, ← none]
    exact empty

/-- Settles O19. -/
theorem levelsDecidePolarity : Obligations.LevelsDecidePolarity := by
  intro dt u ended s highs lows free mode state unknown
  simp only [exec_of_live (c := .levelComplete dt u ended) free rfl]
  simp only [← elapse_marker dt s, ← elapse_time dt s] at *
  generalize elapse dt s = t at *
  have measuring : levelEdge u ended t = t.putMarker u ((t.marker u).levelEnd ended t.time) :=
    if_pos (by simp [MarkerUnit.measuring, mode, state, unknown])
  rw [measuring]
  refine ⟨fun none => ?_, fun start level => ⟨fun short => ?_, fun long hh hl => ⟨fun few => ?_, fun h l => ?_⟩⟩⟩ <;>
    refine congrArg Host.Outcome.next (congrArg (fun m => follow (t.putMarker u m)) ?_)
  · simp only [MarkerUnit.levelEnd, none]
  · simp only [MarkerUnit.levelEnd, level]
    exact if_neg (by simp [MarkerUnit.qualifies, short])
  all_goals
    have record : (t.marker u).measurement.record ended (elapsed start t.time) t.time =
        { highs := highs, lows := lows, levelStart := some t.time } := by
      subst hh hl
      cases ended <;> simp [Measurement.record]
    simp only [MarkerUnit.levelEnd, level, record]
    rw [if_pos (by simp [MarkerUnit.qualifies, long])]
  · exact if_neg (by simp only [Measurement.decided, Bool.and_eq_true, decide_eq_true_eq]; omega)
  · refine (if_pos (by simp only [Measurement.decided, Bool.and_eq_true, decide_eq_true_eq]; omega)).trans ?_
    rfl

end Sys2Proof.Machine

/-!
PROOF. Parameter fields, staging and commits (R24 to R28, R38).
-/

namespace Sys2Proof.Machine

/-! ## Fields and their ranges -/

theorem polarityModeOf_eq (v : Int) : polarityModeOf v =
    if 0 ≤ v ∧ v ≤ 2 then some (if v = 0 then .auto else if v = 1 then .rising else .falling) else none := by
  unfold polarityModeOf
  grind

theorem markerSelectOf_eq (v : Int) : markerSelectOf v =
    if 0 ≤ v ∧ v ≤ 2 then some (if v = 0 then .a else if v = 1 then .b else .auto) else none := by
  unfold markerSelectOf
  grind

theorem offsetModeOf_eq (v : Int) : offsetModeOf v =
    if 0 ≤ v ∧ v ≤ 3 then some (if v = 0 then .manual else if v = 1 then .auto else if v = 2 then .hold else .onRequest)
    else none := by
  unfold offsetModeOf
  grind

theorem autoIntervalOf_eq (v : Int) : autoIntervalOf v =
    if 0 ≤ v ∧ v ≤ 2 then some (if v = 0 then .every else if v = 1 then .every8 else .every32) else none := by
  unfold autoIntervalOf
  grind

theorem lengthOf_eq (v : Int) : lengthOf v = if 64 ≤ v ∧ v ≤ 4096 ∧ v % 4 = 0 then some v.toNat else none := by
  unfold lengthOf within
  by_cases range : 64 ≤ v ∧ v ≤ 4096
  · simp only [Nat.cast_ofNat, if_pos range]
    grind
  · simp only [Nat.cast_ofNat, if_neg range]
    rw [if_neg (by tauto)]

theorem map_guard {α β : Type} {c : Prop} [Decidable c] (a : α) (f : α → β) :
    (((if c then some a else none).map f).isSome ↔ c) ∧
    ∀ y, (if c then some a else none).map f = some y ↔ c ∧ f a = y := by
  by_cases h : c <;> simp [h]

theorem MarkerSettings.setField_ranges (x : MarkerSettings) (n : Nat) (v : Int) :
    ((x.setField (n, v)).isSome ↔
      (n = 0 ∧ 0 ≤ v ∧ v ≤ 2) ∨ (n = 1 ∧ 0 ≤ v ∧ v ≤ 255) ∨ (n = 2 ∧ 1 ≤ v ∧ v ≤ 16) ∨ (n = 3 ∧ 1 ≤ v ∧ v ≤ 15)) ∧
    (∀ y, x.setField (n, v) = some y →
      (n = 0 → v = ((y.polarityMode.code).toNat : Int) ∧ y = { x with polarityMode := y.polarityMode }) ∧
      (n = 1 → y = { x with minWidth := v.toNat }) ∧
      (n = 2 → y = { x with tolerance := v.toNat }) ∧
      (n = 3 → y = { x with coastLimit := v.toNat })) := by
  match n with
  | 0 =>
    simp only [setField, polarityModeOf_eq, map_guard]
    refine ⟨by simp, ?_⟩
    rintro y ⟨range, rfl⟩
    refine ⟨fun _ => ⟨?_, rfl⟩, nofun, nofun, nofun⟩
    obtain rfl | rfl | rfl : v = 0 ∨ v = 1 ∨ v = 2 := by omega
    all_goals rfl
  | 1 =>
    simp only [setField, within, map_guard]
    refine ⟨by simp, ?_⟩
    rintro y ⟨-, rfl⟩
    exact ⟨nofun, fun _ => rfl, nofun, nofun⟩
  | 2 =>
    simp only [setField, within, map_guard]
    refine ⟨by simp, ?_⟩
    rintro y ⟨-, rfl⟩
    exact ⟨nofun, nofun, fun _ => rfl, nofun⟩
  | 3 =>
    simp only [setField, within, map_guard]
    refine ⟨by simp, ?_⟩
    rintro y ⟨-, rfl⟩
    exact ⟨nofun, nofun, nofun, fun _ => rfl⟩
  | n + 4 => exact ⟨by simp [setField], nofun⟩

theorem ParamSet.setField_ranges (x : ParamSet) (n : Nat) (v : Int) :
    ((x.setField (n, v)).isSome ↔
      (n = 0 ∧ 0 ≤ v ∧ v ≤ 2) ∨ (n = 1 ∧ 0 ≤ v ∧ v ≤ 2047) ∨ (n = 2 ∧ 1 ≤ v ∧ v ≤ 2048) ∨
      (n = 3 ∧ 64 ≤ v ∧ v ≤ 4096 ∧ v % 4 = 0) ∨ (n = 4 ∧ 0 ≤ v ∧ v ≤ 31) ∨ (n = 5 ∧ 512 ≤ v ∧ v ≤ 2047) ∨
      (n = 6 ∧ 0 ≤ v ∧ v ≤ 3) ∨ (n = 7 ∧ -8192 ≤ v ∧ v ≤ 8191) ∨ (n = 8 ∧ 0 ≤ v ∧ v ≤ 4095) ∨
      (n = 9 ∧ 1 ≤ v ∧ v ≤ 256) ∨ (n = 10 ∧ -8192 ≤ v ∧ v ≤ 8191) ∨ (n = 11 ∧ 0 ≤ v ∧ v ≤ 2)) ∧
    (∀ y, x.setField (n, v) = some y →
      (n = 0 → y = { x with markerSelect := if v = 0 then .a else if v = 1 then .b else .auto }) ∧
      (n = 1 → y = { x with base := v.toNat }) ∧ (n = 2 → y = { x with windowSize := v.toNat }) ∧
      (n = 3 → y = { x with length := v.toNat }) ∧ (n = 4 → y = { x with phase := v.toNat }) ∧
      (n = 5 → y = { x with gain := v.toNat }) ∧
      (n = 6 → y = { x with
        offsetMode := if v = 0 then .manual else if v = 1 then .auto else if v = 2 then .hold else .onRequest }) ∧
      (n = 7 → y = { x with manualOffset := v }) ∧ (n = 8 → y = { x with placement := v.toNat }) ∧
      (n = 9 → y = { x with duration := v.toNat }) ∧ (n = 10 → y = { x with target := v }) ∧
      (n = 11 → y = { x with interval := if v = 0 then .every else if v = 1 then .every8 else .every32 })) := by
  match n with
  | 0 =>
    simp only [setField, markerSelectOf_eq, map_guard]
    exact ⟨by simp, by rintro y ⟨-, rfl⟩; simp⟩
  | 1 =>
    simp only [setField, within, map_guard]
    exact ⟨by simp, by rintro y ⟨-, rfl⟩; simp⟩
  | 2 =>
    simp only [setField, within, map_guard]
    exact ⟨by simp, by rintro y ⟨-, rfl⟩; simp⟩
  | 3 =>
    simp only [setField, lengthOf_eq, map_guard]
    exact ⟨by simp, by rintro y ⟨-, rfl⟩; simp⟩
  | 4 =>
    simp only [setField, within, map_guard]
    exact ⟨by simp, by rintro y ⟨-, rfl⟩; simp⟩
  | 5 =>
    simp only [setField, within, map_guard]
    exact ⟨by simp, by rintro y ⟨-, rfl⟩; simp⟩
  | 6 =>
    simp only [setField, offsetModeOf_eq, map_guard]
    exact ⟨by simp, by rintro y ⟨-, rfl⟩; simp⟩
  | 7 =>
    simp only [setField, offsetOf, map_guard]
    exact ⟨by simp, by rintro y ⟨-, rfl⟩; simp⟩
  | 8 =>
    simp only [setField, within, map_guard]
    exact ⟨by simp, by rintro y ⟨-, rfl⟩; simp⟩
  | 9 =>
    simp only [setField, within, map_guard]
    exact ⟨by simp, by rintro y ⟨-, rfl⟩; simp⟩
  | 10 =>
    simp only [setField, offsetOf, map_guard]
    exact ⟨by simp, by rintro y ⟨-, rfl⟩; simp⟩
  | 11 =>
    simp only [setField, autoIntervalOf_eq, map_guard]
    exact ⟨by simp, by rintro y ⟨-, rfl⟩; simp⟩
  | n + 12 => simp [setField]

theorem MarkerSettings.setFields_cons (x : MarkerSettings) (f : Nat × Int) (rest : List (Nat × Int)) :
    x.setFields (f :: rest) = (x.setField f).bind (fun y => y.setFields rest) := by
  rw [setFields]
  cases x.setField f <;> rfl

theorem ParamSet.setFields_cons (x : ParamSet) (f : Nat × Int) (rest : List (Nat × Int)) :
    x.setFields (f :: rest) = (x.setField f).bind (fun y => y.setFields rest) := by
  rw [setFields]
  cases x.setField f <;> rfl

/-! ## The checks of a commit -/

theorem ParamSet.structurallyDiffers_iff (x y : ParamSet) : x.structurallyDiffers y = true ↔
    x.markerSelect ≠ y.markerSelect ∨ x.base ≠ y.base ∨ x.windowSize ≠ y.windowSize := by
  simp [structurallyDiffers, or_assoc]

theorem ParamSet.limitsHold_iff (x : ParamSet) : x.limitsHold = true ↔
    x.base + x.windowSize ≤ 2048 ∧ 2 * ((x.length + 511) / 512) ≤ x.windowSize ∧
      x.placement + x.duration ≤ x.length := by
  simp only [limitsHold, Bool.and_eq_true, decide_eq_true_eq, and_assoc]
  exact Iff.rfl

theorem TrackState.bound_iff (st : TrackState) : st.bound = true ↔
    st = .armed ∨ st = .sweeping ∨ st = .awaiting ∨ st = .stopping := by
  cases st <;> simp [bound]

theorem TrackState.not_bound_iff (st : TrackState) : st.bound = false ↔ st = .idle ∨ ∃ h, st = .halted h := by
  cases st <;> simp [bound]

theorem TrackState.capturing_iff (st : TrackState) : st.capturing = true ↔
    st = .sweeping ∨ st = .awaiting ∨ st = .stopping := by
  cases st <;> simp [capturing]

section
variable {r : RawRequest} {t : Track} {s : State}

theorem serveCommitTrack_busy (differs : (s.track t).staged.structurallyDiffers (s.track t).active = true)
    (bound : (s.track t).state.bound = true) :
    serveCommitTrack r (.commitTrack t.val) s = some (answer r .busy s) := by
  simp only [serveCommitTrack, trackOf_val, differs, bound, Bool.and_self, if_true]

section
variable (allowed : ((s.track t).staged.structurallyDiffers (s.track t).active && (s.track t).state.bound) = false)
include allowed

theorem serveCommitTrack_badField (limits : (s.track t).staged.limitsHold = false) :
    serveCommitTrack r (.commitTrack t.val) s = some (answer r .badField s) := by
  simp only [serveCommitTrack, trackOf_val, allowed, limits, Bool.false_eq_true, if_false]

theorem serveCommitTrack_ok (limits : (s.track t).staged.limitsHold = true) :
    serveCommitTrack r (.commitTrack t.val) s = some (follow (answer r .ok (commit t s))) := by
  simp only [serveCommitTrack, trackOf_val, allowed, limits, Bool.false_eq_true, if_false, if_true]

end

end

/-- Settles O20. -/
theorem fieldsStagingAndCommitAreChecked : Obligations.FieldsStagingAndCommitAreChecked := by
  refine ⟨⟨MarkerSettings.setField_ranges, ParamSet.setField_ranges⟩,
    ⟨fun x => ⟨rfl, x.setFields_cons⟩, fun x => ⟨rfl, x.setFields_cons⟩⟩, fun dt s r rest t =>
    ⟨fun items h => ⟨fun bad => ?_, fun x good => ?_⟩, fun h => ⟨fun mode => ?_, fun mode => ?_⟩⟩,
    fun dt s r rest t st ac h hst hac => ?_⟩
  · exact exec_of_serves serveStageTrack h rfl (by simp only [serveStageTrack, trackOf_val, handed_track, bad]; rfl)
  · exact exec_of_serves serveStageTrack h rfl (by simp only [serveStageTrack, trackOf_val, handed_track, good]; rfl)
  · exact exec_of_serves serveUpdateOffset h rfl
      (by simp only [serveUpdateOffset, trackOf_val, handed_track, mode, if_true]; rfl)
  · exact exec_of_serves serveUpdateOffset h rfl
      (by simp only [serveUpdateOffset, trackOf_val, handed_track, mode, if_false]; rfl)
  · subst hst hac
    refine ⟨fun differs bound => ?_, fun allowed => ?_⟩
    · exact exec_of_serves serveCommitTrack h rfl (serveCommitTrack_busy
        ((ParamSet.structurallyDiffers_iff _ _).mpr differs) ((TrackState.bound_iff _).mpr bound))
    · have allowed' : ((s.track t).staged.structurallyDiffers (s.track t).active && (s.track t).state.bound) = false := by
        rcases allowed with same | rest
        · rw [Bool.and_eq_false_iff]
          refine .inl (Bool.eq_false_iff.mpr fun d => ?_)
          rw [ParamSet.structurallyDiffers_iff] at d
          tauto
        · rw [Bool.and_eq_false_iff]
          exact .inr ((TrackState.not_bound_iff _).mpr rest)
      refine ⟨fun outside => ?_, fun window room joined capturing => ?_⟩
      · refine exec_of_serves serveCommitTrack h rfl (serveCommitTrack_badField allowed' (Bool.eq_false_iff.mpr fun l => ?_))
        have := (ParamSet.limitsHold_iff _).mp l
        simp only [handed_track] at this
        omega
      · refine exec_of_serves serveCommitTrack h rfl ((serveCommitTrack_ok (s := handed dt s rest) allowed'
          ((ParamSet.limitsHold_iff _).mpr ⟨window, room, joined⟩)).trans ?_)
        have : commit t (handed dt s rest) = commitLater t (handed dt s rest) :=
          if_pos ((TrackState.capturing_iff _).mpr capturing)
        rw [this]
        rfl

end Sys2Proof.Machine

/-!
PROOF. Commits that take effect at once, and ARM_TRACK, STOP_TRACK and ABORT_TRACK (R26, R42, R45, R46).
-/

namespace Sys2Proof.Machine

/-! ## A set becomes active, case by case (R26, R159, R162) -/

section
variable (t : Track) (a : ParamSet) (s : State)

theorem activateSet_track (k : Track) :
    (activateSet t a s).track k = if k = t then (s.track t).activate a else s.track k := by
  have tracks : (activateSet t a s).tracks = (s.putTrack t ((s.track t).activate a)).tracks := by
    unfold activateSet
    simp only [restartBlock_frame]
    split
    · rfl
    · simp only [disableAverager_frame]
  exact (congrArg (fun l : Vector TrackUnit 8 => l[k]) tracks).trans (State.track_putTrack _ _ _ _)

variable {t a s}

theorem activateSet_of_disabled (h : (s.averager t).region = none) :
    activateSet t a s = s.putTrack t ((s.track t).activate a) := by
  have still : ((s.putTrack t ((s.track t).activate a)).averager t).region = none := h
  unfold activateSet
  simp only [disableAverager_of_disabled .length still, ite_self, restartBlock_of_disabled still]

theorem activateSet_of_sameLength (h : a.length = (s.track t).active.length) :
    activateSet t a s = restartBlock t (s.putTrack t ((s.track t).activate a)) := by
  unfold activateSet
  simp only [if_pos h]

theorem activateSet_of_newLength (enabled : (s.averager t).region ≠ none)
    (h : a.length ≠ (s.track t).active.length) : activateSet t a s =
      replaceAverager t ((s.averager t).disable .length) (s.putTrack t ((s.track t).activate a)) := by
  have still : ((s.putTrack t ((s.track t).activate a)).averager t).region ≠ none := enabled
  unfold activateSet
  simp only [if_neg h, disableAverager_of_enabled .length still]
  rw [restartBlock_of_disabled]
  · rfl
  · rw [replaceAverager_averager_same]
    rfl

theorem activateSet_readout (h : (s.averager t).region = none ∨ a.length = (s.track t).active.length) :
    (activateSet t a s).readout = s.readout := by
  rcases h with disabled | length
  · rw [activateSet_of_disabled disabled]; rfl
  · rw [activateSet_of_sameLength length]; simp

theorem activateSet_averagerRam (h : (s.averager t).region = none ∨ a.length ≠ (s.track t).active.length) :
    (activateSet t a s).averagerRam = s.averagerRam := by
  by_cases disabled : (s.averager t).region = none
  · rw [activateSet_of_disabled disabled]; rfl
  · rw [activateSet_of_newLength disabled (h.resolve_left disabled)]; rfl

/-- A block restart clears the sums, except while a publication reads them (R159). -/
theorem restartBlock_ramWord {g : Region} (region : (s.averager t).region = some g) (w : Nat) :
    (restartBlock t s).ramWord w =
      if (s.averager t).publication = none ∧ g.base ≤ w ∧ w < g.base + g.length then 0 else s.ramWord w := by
  by_cases publication : (s.averager t).publication = none
  · rw [restartBlock_of_gathering region publication, ramWord_clearSums]
    simp only [publication, true_and]
    rfl
  · rw [restartBlock_of_publishing region publication, if_neg fun h => publication h.1]
    rfl

/-- A generation step leaves the other averagers alone. -/
theorem activateSet_averager_other {k : Track} (ne : k ≠ t) : (activateSet t a s).averager k = s.averager k := by
  by_cases region : (s.averager t).region = none
  · rw [activateSet_of_disabled region]; rfl
  · by_cases length : a.length = (s.track t).active.length
    · obtain ⟨g, enabled⟩ := Option.ne_none_iff_exists'.mp region
      rw [activateSet_of_sameLength length, restartBlock_only (s := s.putTrack t _) (g := g) enabled]
      exact State.averager_putAverager_other _ _ ne.symm
    · rw [activateSet_of_newLength region length, replaceAverager_averager_other _ _ ne]; rfl

end

/-- What an activated set does to its own fields of the track unit. -/
theorem TrackUnit.activate_eq (u : TrackUnit) (a : ParamSet) : u.activate a =
    { u with
      active := a, pendingSet := none, generation := u.generation + 1, intervalCount := 0,
      offsetInUse := if a.offsetMode = .manual then a.manualOffset else u.offsetInUse,
      updateRequest := if a.offsetMode = .onRequest then u.updateRequest else false } := by
  unfold TrackUnit.activate offsetUnder
  cases mode : a.offsetMode <;> simp

/-! ## A commit taken at once -/

section
variable (t : Track) (s : State)

theorem commitNow_writePosition : (commitNow t s).writePosition t =
    if (s.track t).staged.base = (s.track t).active.base ∧ (s.track t).staged.windowSize = (s.track t).active.windowSize
    then s.writePosition t else (s.track t).staged.base := by
  unfold commitNow
  simp only
  split
  · simp only [State.writePosition, activateSet_frame]
  · exact State.writePosition_putWritePosition_same _ _ _

/-- Beside the write position a commit taken at once is the activation of the staged set. -/
theorem commitNow_only : commitNow t s =
    (activateSet t (s.track t).staged s).setWritePos (commitNow t s).writePos := by
  unfold commitNow
  simp only
  split <;> rfl

end

/-- Settles O21. -/
theorem commitTakesEffectAtOnce : Obligations.CommitTakesEffectAtOnce := by
  rintro dt s r rest t u a h rfl rfl state window room joined
  have allowed : ((s.track t).staged.structurallyDiffers (s.track t).active && (s.track t).state.bound) = false := by
    rw [Bool.and_eq_false_iff]
    rcases state with idle | halted | ⟨-, same⟩
    · exact .inr ((TrackState.not_bound_iff _).mpr (.inl idle))
    · exact .inr ((TrackState.not_bound_iff _).mpr (.inr halted))
    · refine .inl (Bool.eq_false_iff.mpr fun d => ?_)
      rw [ParamSet.structurallyDiffers_iff] at d
      tauto
  have atOnce : commit t (handed dt s rest) = commitNow t (handed dt s rest) := by
    refine if_neg fun c => ?_
    rcases (TrackState.capturing_iff _).mp c with e | e | e <;> rcases state with idle | ⟨_, halted⟩ | ⟨armed, -⟩ <;>
      simp_all
  refine ⟨_, exec_of_serves serveCommitTrack h rfl (serveCommitTrack_ok (s := handed dt s rest) allowed
    ((ParamSet.limitsHold_iff _).mpr ⟨window, room, joined⟩)), ?_⟩
  rw [atOnce, show ∀ y, answer r .ok y = addReply true r .ok [] y from fun _ => rfl]
  simp only [follow_reads, follow_frame, follow_ramWord, addReply_reads, addReply_frame, addReply_ramWord, addReply_link]
  refine ⟨?_, fun k ne => ?_, commitNow_writePosition t _, fun region => ?_, fun g region length => ?_, fun kept => ?_, fun kept => ?_,
    fun region length => ?_, fun k ne => ?_, ?_⟩
  all_goals
    rw [commitNow_only]
    simp only [handed_track]
  · exact (activateSet_track t _ _ t).trans ((if_pos rfl).trans (TrackUnit.activate_eq _ _))
  · exact (activateSet_track t _ _ k).trans (if_neg ne)
  · rw [activateSet_of_disabled (s := handed dt s rest) region]
    rfl
  · rw [activateSet_of_sameLength (s := handed dt s rest) length]
    refine ⟨?_, fun w => ?_⟩
    · rw [restartBlock_only (s := (handed dt s rest).putTrack t _) (g := g) region]
      exact State.averager_putAverager_same _ _ _
    · exact restartBlock_ramWord (s := (handed dt s rest).putTrack t _) region w
  · exact activateSet_readout (s := handed dt s rest) kept
  · exact activateSet_averagerRam (s := handed dt s rest) kept
  · rw [activateSet_of_newLength (s := handed dt s rest) region length]
    exact ⟨replaceAverager_averager_same _ _ _, rfl, replaceAverager_ended _ ((s.averager t).disable .length) _⟩
  · exact activateSet_averager_other ne
  · simp
    rfl

end Sys2Proof.Machine

/-!
PROOF. The removal of a FILLING sweep, and ARM_TRACK, STOP_TRACK and ABORT_TRACK by the track state (R42 to R46, R56).
-/

namespace Sys2Proof.Machine

/-! ## The removal of a FILLING sweep (R56) -/

theorem State.lane_putLane (s : State) (t k : Track) (v : Lane) :
    (s.putLane t v).lane k = if k = t then v else s.lane k := by
  by_cases e : k = t
  · subst e; simp
  · rw [State.lane_putLane_other _ _ (Ne.symm e), if_neg e]

theorem removeFilling_none {t : Track} {s : State} (h : fillingRecord s t = none) : removeFilling t s = s := by
  simp only [removeFilling, h]

/-- A sweep's removal restarts the block of the averager whose current sweep it is (R159). -/
theorem averagerSweepRemoved_averager (t k : Track) (seq : Nat) (s : State) :
    (averagerSweepRemoved t seq s).averager k =
      if k = t ∧ (s.averager t).current = some seq ∧ (s.averager t).region ≠ none then (s.averager t).restart
      else s.averager k := by
  unfold averagerSweepRemoved
  split
  · next current =>
    cases region : (s.averager t).region with
    | none => rw [restartBlock_of_disabled region, if_neg (by simp)]
    | some g =>
      rw [restartBlock_only region, (setAveragerRam_reads _ _ _).2.2.2.2.2, State.averager_putAverager]
      simp [current]
  · next current => rw [if_neg (by tauto)]

section
variable {t : Track} {s : State} {f : SweepRecord} (h : fillingRecord s t = some f) (k : Track)
include h

theorem removeFilling_some : removeFilling t s =
    averagerSweepRemoved t f.seq (removeRecord t f (dropStaged t f.seq (stopLane t s))) := by
  simp only [removeFilling, h]

theorem removeFilling_track : (removeFilling t s).track k =
    if k = t then { (s.track t).dropSweep f.seq with schedule := none } else s.track k := by
  rw [removeFilling_some h]
  have kept : (averagerSweepRemoved t f.seq (removeRecord t f (dropStaged t f.seq (stopLane t s)))).track k =
      ((stopLane t s).putTrack t (((stopLane t s).track t).dropSweep f.seq)).track k := by
    simp only [State.track, averagerSweepRemoved_frame, removeRecord_frame]
    rfl
  have lane (x : Track) : (stopLane t s).track x = if x = t then { s.track t with schedule := none } else s.track x :=
    State.track_putTrack (s.putLane t Lane.reset) t x _
  rw [kept, State.track_putTrack, lane, lane, if_pos rfl]
  split
  · rfl
  · rfl

theorem removeFilling_lane : (removeFilling t s).lane k = if k = t then Lane.reset else s.lane k := by
  rw [removeFilling_some h, ← State.lane_putLane]
  simp only [State.lane, averagerSweepRemoved_frame, removeRecord_frame, dropStaged_frame]
  rfl

theorem removeFilling_index : (removeFilling t s).indexOf k =
    if k = t then (s.indexOf t).remove f else s.indexOf k := by
  have removed (x : State) : (averagerSweepRemoved t f.seq x).indexOf k = x.indexOf k :=
    State.indexOf_of_eq k (by simp only [averagerSweepRemoved_frame]) (by simp only [averagerSweepRemoved_frame])
  rw [removeFilling_some h, removed, removeRecord_index]
  rw [State.indexOf_of_eq k (s := s), State.indexOf_of_eq t (s := s)] <;> simp

theorem removeFilling_averager : (removeFilling t s).averager k = (averagerSweepRemoved t f.seq s).averager k := by
  rw [removeFilling_some h, averagerSweepRemoved_averager, averagerSweepRemoved_averager]
  simp only [State.averager, removeRecord_frame, dropStaged_frame]
  rfl

end

/-! ## Arming and stopping -/

theorem MarkerUnit.inLock_iff (m : MarkerUnit) : m.inLock = true ↔ m.state = .locked ∨ m.state = .coasting := by
  simp [inLock]

/-- The unit that a marker select takes (R43). -/
theorem chooseUnit_eq {s : State} {m : MarkerSelect} {sel : Option MarkerId}
    (h : m = .a ∧ sel = some .A ∨ m = .b ∧ sel = some .B ∨ m = .auto ∧ ChosenUnit s sel) : chooseUnit s m = sel := by
  rcases h with ⟨rfl, rfl⟩ | ⟨rfl, rfl⟩ | ⟨rfl, ⟨lockA, rfl⟩ | ⟨notLocked, notCoasting, rest⟩⟩
  · rfl
  · rfl
  · exact if_pos ((MarkerUnit.inLock_iff _).mpr lockA)
  · have outA : ¬ s.markerA.inLock = true := by
      rw [MarkerUnit.inLock_iff]
      tauto
    unfold chooseUnit
    simp only
    rw [if_neg outA]
    rcases rest with ⟨lockB, rfl⟩ | ⟨notLocked, notCoasting, rfl⟩
    · exact if_pos ((MarkerUnit.inLock_iff _).mpr lockB)
    · refine if_neg ?_
      rw [MarkerUnit.inLock_iff]
      tauto

/-- A stop while no sweep is being captured takes the track to IDLE (R45). -/
theorem stopTrack_waiting {t : Track} {s : State} (h : (s.track t).state = .armed ∨ (s.track t).state = .awaiting) :
    stopTrack t s = goIdle t .stopped s := by
  rcases h with h | h <;> simp only [stopTrack, h]

theorem stopTrack_none {t : Track} {s : State}
    (h : (s.track t).state = .idle ∨ (s.track t).state = .stopping ∨ ∃ r, (s.track t).state = .halted r) :
    stopTrack t s = s := by
  rcases h with h | h | ⟨r, h⟩ <;> simp only [stopTrack, h]

theorem goIdle_eq (t : Track) (reason : StopReason) (s : State) : goIdle t reason s =
    post (Source.trackStopped t) (.trackStopped reason (s.track t).sweepsDone (s.track t).seqCounter)
      (s.putTrack t { s.track t with state := .idle, selected := none }) := by
  unfold goIdle postStopped unbind
  rw [State.track_putTrack_same]

theorem abortTrack_idle {t : Track} {s : State} (idle : (s.track t).state = .idle) (none : fillingRecord s t = none) :
    abortTrack t s = s := by
  unfold abortTrack
  simp only [removeFilling_none none]
  exact if_pos idle

theorem abortTrack_busy {t : Track} {s : State} (busy : ((removeFilling t s).track t).state ≠ .idle) :
    abortTrack t s = goIdle t .aborted (removeFilling t s) :=
  if_neg busy

/-- Settles O22. -/
theorem armStopAndAbortByTrackState : Obligations.ArmStopAndAbortByTrackState := by
  intro dt s r rest t
  refine ⟨fun count h => ⟨fun bound => ?_, fun free sel chosen => ?_⟩,
    fun h => ⟨fun sweeping => ?_, fun waiting => ?_, fun still => ?_⟩,
    fun h => ⟨fun idle none => ?_, fun busy none => ?_, fun f busy filling => ?_⟩⟩
  · refine exec_of_serves serveArmTrack h rfl ?_
    simp only [serveArmTrack, trackOf_val, handed_track, (TrackState.bound_iff _).mpr bound, if_true]
    rfl
  · refine exec_of_serves serveArmTrack h rfl ?_
    simp only [serveArmTrack, trackOf_val, handed_track, (TrackState.not_bound_iff _).mpr free, Bool.false_eq_true,
      if_false, armTrack, chooseUnit_eq (s := handed dt s rest) chosen]
    rfl
  · refine exec_of_serves serveStopTrack h rfl ?_
    simp only [serveStopTrack, trackOf_val, stopTrack, handed_track, sweeping]
    rfl
  · refine exec_of_serves serveStopTrack h rfl ?_
    simp only [serveStopTrack, trackOf_val, stopTrack_waiting (s := handed dt s rest) waiting, goIdle_eq, handed_track]
    rfl
  · refine exec_of_serves serveStopTrack h rfl ?_
    simp only [serveStopTrack, trackOf_val, stopTrack_none (s := handed dt s rest) still]
    rfl
  · refine exec_of_serves serveAbortTrack h rfl ?_
    simp only [serveAbortTrack, trackOf_val, abortTrack_idle (s := handed dt s rest) idle none]
    rfl
  · have unchanged : removeFilling t (handed dt s rest) = handed dt s rest := removeFilling_none none
    refine exec_of_serves serveAbortTrack h rfl ?_
    simp only [serveAbortTrack, trackOf_val, abortTrack_busy (s := handed dt s rest) (t := t) (by rwa [unchanged]),
      unchanged, goIdle_eq, handed_track]
    rfl
  · have filling' : fillingRecord (handed dt s rest) t = some f := filling
    have unit := removeFilling_track filling'
    have index := removeFilling_index filling'
    have busy' : ((removeFilling t (handed dt s rest)).track t).state ≠ .idle := by
      rw [unit, if_pos rfl]
      exact busy
    have served : serveAbortTrack r (.abortTrack t.val) (handed dt s rest) =
        some (follow (addReply true r .ok [] (goIdle t .aborted (removeFilling t (handed dt s rest))))) := by
      simp only [serveAbortTrack, trackOf_val, abortTrack_busy busy']
      rfl
    refine ⟨_, exec_of_serves serveAbortTrack h rfl served, ?_⟩
    have records (k : Track) : (removeFilling t (handed dt s rest)).records k =
        if k = t then (s.records t).filter (fun y => y.seq ≠ f.seq) else s.records k :=
      (congrArg TrackIndex.records (index k)).trans (apply_ite _ _ _ _)
    have averager (k : Track) : (removeFilling t (handed dt s rest)).averager k =
        (averagerSweepRemoved t f.seq s).averager k := by
      rw [removeFilling_averager filling', averagerSweepRemoved_averager, averagerSweepRemoved_averager]
      rfl
    simp only [goIdle_eq, follow_reads, follow_frame, addReply_reads, addReply_frame, post_reads, post_frame,
      putTrack_reads, State.track_putTrack_same, records, averager, removeFilling_lane filling', unit, if_true,
      handed_track]
    refine ⟨trivial, trivial, trivial, trivial, rfl, rfl, rfl, rfl, ?_, trivial, fun k ne => ?_, ?_⟩
    · simp only [post, State.setNotices_notices, putTrack_frame, removeFilling_frame, handed_fields]
      rfl
    · simp only [State.track_putTrack, unit, averagerSweepRemoved_averager, ne, false_and, if_false]
      exact ⟨trivial, rfl, rfl, trivial⟩
    · simp

end Sys2Proof.Machine

/-!
PROOF. RESET_PART, block by block (R22, R40, R58, R80, R126, R137, R152, R165).
-/

namespace Sys2Proof.Machine

/-! ## An act on every track -/

theorem mem_allTracks (t : Track) : t ∈ allTracks := List.mem_finRange t

theorem nodup_allTracks : allTracks.Nodup := List.nodup_finRange 8

/-- When an act on a track changes what is read of that track and of no other, acts on different tracks do so together. -/
theorem foldl_tracks {α : Type} {read : State → Track → α} {f : Track → State → State} {g : α → α}
    (act : ∀ t s k, read (f t s) k = if k = t then g (read s t) else read s k) :
    ∀ {l : List Track}, l.Nodup → ∀ s k,
      read (l.foldl (fun s t => f t s) s) k = if k ∈ l then g (read s k) else read s k
  | [], _, s, k => by simp
  | t :: l, once, s, k => by
    obtain ⟨new, once⟩ := List.nodup_cons.mp once
    rw [List.foldl_cons, foldl_tracks act once, act]
    by_cases e : k = t
    · subst e
      simp [new]
    · simp [e]

theorem foldl_allTracks {α : Type} {read : State → Track → α} {f : Track → State → State} {g : α → α}
    (act : ∀ t s k, read (f t s) k = if k = t then g (read s t) else read s k) (s : State) (k : Track) :
    read (allTracks.foldl (fun s t => f t s) s) k = g (read s k) := by
  rw [foldl_tracks act nodup_allTracks, if_pos (mem_allTracks k)]

/-! ## One track and its lane (R40, R58) -/

/-- What RESET_PART changes of one track. -/
structure TrackPart where
  unit : TrackUnit
  lane : Lane
  index : TrackIndex
  averager : Averager

def State.partOf (s : State) (t : Track) : TrackPart :=
  { unit := s.track t, lane := s.lane t, index := s.indexOf t, averager := s.averager t }

/-- The FILLING sweep of an index. -/
def TrackIndex.filling (v : TrackIndex) : Option SweepRecord := v.records.find? (fun r => r.state = .filling)

theorem State.partOf_filling (s : State) (t : Track) : (s.partOf t).index.filling = fillingRecord s t := rfl

/-- A track and its lane after RESET_PART, the averager only as the removal of the FILLING sweep leaves it. -/
def TrackPart.resetPart (v : TrackPart) : TrackPart :=
  match v.index.filling with
  | none => { v with unit := v.unit.resetPart, lane := Lane.reset }
  | some f =>
    { unit := (v.unit.dropSweep f.seq).resetPart, lane := Lane.reset, index := v.index.remove f,
      averager :=
        if v.averager.current = some f.seq ∧ v.averager.region ≠ none then v.averager.restart else v.averager }

theorem removeFilling_partOf {t : Track} {s : State} {f : SweepRecord} (h : fillingRecord s t = some f) (k : Track) :
    (removeFilling t s).partOf k =
      if k = t then
        { unit := { (s.track t).dropSweep f.seq with schedule := none }, lane := Lane.reset,
          index := (s.indexOf t).remove f,
          averager :=
            if (s.averager t).current = some f.seq ∧ (s.averager t).region ≠ none then (s.averager t).restart
            else s.averager t }
      else s.partOf k := by
  unfold State.partOf
  rw [removeFilling_track h, removeFilling_lane h, removeFilling_index h, removeFilling_averager h,
    averagerSweepRemoved_averager]
  by_cases e : k = t
  · subst e
    simp
  · simp [e]

theorem resetPartTrack_partOf (t : Track) (s : State) (k : Track) :
    (resetPartTrack t s).partOf k = if k = t then (s.partOf t).resetPart else s.partOf k := by
  have last : (resetPartTrack t s).partOf k =
      if k = t then
        { (removeFilling t s).partOf t with unit := ((removeFilling t s).track t).resetPart, lane := Lane.reset }
      else (removeFilling t s).partOf k := by
    unfold resetPartTrack
    by_cases e : k = t
    · subst e
      simp only [State.partOf, State.lane_putLane, putLane_reads, State.track_putTrack, if_true]
      rfl
    · simp only [State.partOf, State.lane_putLane, putLane_reads, State.track_putTrack, e, if_false]
      rfl
  rw [last]
  cases filling : fillingRecord s t with
  | none =>
    rw [removeFilling_none filling]
    unfold TrackPart.resetPart
    rw [State.partOf_filling, filling]
    rfl
  | some f =>
    rw [removeFilling_partOf filling, removeFilling_partOf filling, removeFilling_track filling]
    unfold TrackPart.resetPart
    rw [State.partOf_filling, filling]
    by_cases e : k = t
    · simp only [e, if_true]
      rfl
    · simp only [e, if_false]

/-! ## The bursts in flight -/

/-- Whether a sweep stands DRAINING among records. -/
def drainsIn (records : List SweepRecord) (seq : Nat) : Bool :=
  records.any (fun y => y.seq = seq && y.state = .draining)

theorem drains_eq (s : State) (t : Track) (seq : Nat) : drains s t seq = drainsIn (s.records t) seq := rfl

/-- A granted burst after RESET_PART on the tracks, with the records of its track before (R58; log 12). -/
def Burst.resetPart (records : List SweepRecord) (b : Burst) : Burst :=
  if b.isRead then b
  else if (records.find? (fun r => r.state = .filling)).any (fun f => f.seq = b.seq) then b.disown
  else if drainsIn records b.seq then b
  else { b with attached := false }

theorem removeFilling_mem {t : Track} {s : State} {f : SweepRecord} (h : fillingRecord s t = some f) :
    (removeFilling t s).mem = s.mem.mapBursts (fun b => if !b.isRead && b.track = t && b.seq = f.seq then b.unheed else b) := by
  rw [removeFilling_some h]
  simp only [averagerSweepRemoved_frame, removeRecord_frame]
  rfl

/-- Without the records of one sweep only the other sweeps can stand DRAINING. -/
theorem drainsIn_filter (l : List SweepRecord) (q seq : Nat) :
    drainsIn (l.filter (fun x => x.seq ≠ q)) seq = (decide (seq ≠ q) && drainsIn l seq) := by
  unfold drainsIn
  rw [List.any_filter, Bool.eq_iff_iff]
  simp only [List.any_eq_true, Bool.and_eq_true, decide_eq_true_eq]
  constructor
  · rintro ⟨y, mem, ne, rfl, draining⟩
    exact ⟨ne, y, mem, rfl, draining⟩
  · rintro ⟨ne, y, mem, rfl, draining⟩
    exact ⟨y, mem, ne, rfl, draining⟩

theorem resetPartTrack_mem (t : Track) (s : State) :
    (resetPartTrack t s).mem =
      s.mem.mapBursts (fun b => if b.track = t then b.resetPart (s.records b.track) else b) := by
  have detached : (resetPartTrack t s).mem = (removeFilling t s).mem.mapBursts (fun b =>
      if !b.isRead && b.track = t && !drains (removeFilling t s) t b.seq then { b with attached := false } else b) := rfl
  rw [detached]
  cases filling : fillingRecord s t with
  | none =>
    rw [removeFilling_none filling]
    refine congrArg s.mem.mapBursts (funext fun b => ?_)
    by_cases track : b.track = t
    · subst track
      have nothing : (s.records b.track).find? (fun r => r.state = .filling) = none := filling
      unfold Burst.resetPart
      rw [nothing]
      cases b.isRead <;> cases draining : drainsIn (s.records b.track) b.seq <;> simp [drains_eq, draining]
    · simp [track]
  | some f =>
    have records : (removeFilling t s).records t = (s.records t).filter (fun x => x.seq ≠ f.seq) := by
      have index := removeFilling_index filling t
      rw [if_pos rfl] at index
      exact congrArg TrackIndex.records index
    rw [removeFilling_mem filling, MemControl.mapBursts_mapBursts]
    refine congrArg s.mem.mapBursts (funext fun b => ?_)
    by_cases track : b.track = t
    · subst track
      have found : (s.records b.track).find? (fun r => r.state = .filling) = some f := filling
      unfold Burst.resetPart
      rw [found]
      simp only [Function.comp_apply, drains_eq, records, drainsIn_filter, Option.any_some, if_true]
      by_cases read : b.isRead = true
      · simp [read]
      · by_cases seq : b.seq = f.seq
        · have unheeded : b.unheed.seq = f.seq := seq
          have track : b.unheed.track = b.track := rfl
          simp [read, seq, unheeded, track]
          rw [← seq]
          rfl
        · cases draining : drainsIn (s.records b.track) b.seq <;> simp [read, seq, Ne.symm seq, draining]
    · have track' : b.unheed.track ≠ t := track
      simp [track]

/-- The bursts in flight after RESET_PART on several tracks. -/
theorem foldl_resetPartTrack_mem : ∀ {l : List Track}, l.Nodup → ∀ s : State,
    (l.foldl (fun s t => resetPartTrack t s) s).mem =
      s.mem.mapBursts (fun b => if b.track ∈ l then b.resetPart (s.records b.track) else b)
  | [], _, s => by simp [MemControl.mapBursts]
  | t :: l, once, s => by
    obtain ⟨new, once⟩ := List.nodup_cons.mp once
    rw [List.foldl_cons, foldl_resetPartTrack_mem once, resetPartTrack_mem, MemControl.mapBursts_mapBursts]
    refine congrArg s.mem.mapBursts (funext fun b => ?_)
    have track : ∀ x, (b.resetPart x).track = b.track := by
      intro x
      unfold Burst.resetPart Burst.disown
      split_ifs <;> rfl
    by_cases e : b.track = t
    · simp [e, track, new]
    · have records : (resetPartTrack t s).records b.track = s.records b.track := by
        have part := resetPartTrack_partOf t s b.track
        rw [if_neg e] at part
        exact congrArg (fun v => v.index.records) part
      simp [e, records]

/-! ## The averager RAM (R165) -/

/-- The regions of a state, and the words outside them, are those of another. -/
def SameOutside (s x : State) : Prop :=
  (∀ k, (x.averager k).region = (s.averager k).region) ∧
  ∀ a, (∀ k g, (s.averager k).region = some g → a < g.base ∨ g.base + g.length ≤ a) → x.ramWord a = s.ramWord a

theorem resetAverager_averager (t : Track) (s : State) (k : Track) :
    (resetAverager t s).averager k = if k = t then (s.averager t).resetTrack else s.averager k := by
  rw [resetAverager_eq, ← State.averager_putAverager]
  rfl

theorem resetAverager_ramWord (t : Track) (s : State) (a : Nat) :
    (resetAverager t s).ramWord a =
      match (s.averager t).region with
      | none => s.ramWord a
      | some g => if g.base ≤ a ∧ a < g.base + g.length then 0 else s.ramWord a := by
  have ram : (resetAverager t s).ramWord a =
      (s.setAveragerRam ((s.averager t).clearSumsIn s.averagerRam)).ramWord a := by
    rw [resetAverager_eq]
    rfl
  rw [ram]
  cases region : (s.averager t).region with
  | none =>
    rw [Averager.clearSumsIn_none region]
    rfl
  | some g =>
    rw [Averager.clearSumsIn_some region]
    exact ramWord_clearSums g s a

theorem SameOutside.resetAverager {s x : State} (t : Track) (h : SameOutside s x) :
    SameOutside s (resetAverager t x) := by
  obtain ⟨regions, words⟩ := h
  refine ⟨fun k => ?_, fun a outside => ?_⟩
  · rw [resetAverager_averager, ← regions]
    split
    · next e => rw [e]; rfl
    · rfl
  · rw [resetAverager_ramWord, ← words a outside]
    split
    · rfl
    · next g region =>
      have := outside t g ((regions t).symm.trans region)
      exact if_neg (by omega)

theorem averagerSweepRemoved_ramWord (t : Track) (seq : Nat) (s : State) (a : Nat)
    (outside : ∀ g, (s.averager t).region = some g → a < g.base ∨ g.base + g.length ≤ a) :
    (averagerSweepRemoved t seq s).ramWord a = s.ramWord a := by
  unfold averagerSweepRemoved
  split
  · cases region : (s.averager t).region with
    | none => rw [restartBlock_of_disabled region]
    | some g =>
      have := outside g region
      rw [restartBlock_ramWord region, if_neg (by omega)]
  · rfl

theorem resetPartTrack_ramWord (t : Track) (s : State) (a : Nat)
    (outside : ∀ g, (s.averager t).region = some g → a < g.base ∨ g.base + g.length ≤ a) :
    (resetPartTrack t s).ramWord a = s.ramWord a := by
  have last : (resetPartTrack t s).ramWord a = (removeFilling t s).ramWord a := rfl
  rw [last]
  cases filling : fillingRecord s t with
  | none => rw [removeFilling_none filling]
  | some f =>
    rw [removeFilling_some filling, averagerSweepRemoved_ramWord]
    · simp [State.ramWord]
    · simpa [State.averager] using outside

theorem SameOutside.resetPartTrack {s x : State} (t : Track) (h : SameOutside s x) :
    SameOutside s (resetPartTrack t x) := by
  obtain ⟨regions, words⟩ := h
  refine ⟨fun k => ?_, fun a outside => ?_⟩
  · have part : ((Machine.resetPartTrack t x).averager k).region =
        (if k = t then (x.partOf t).resetPart else x.partOf k).averager.region :=
      congrArg (fun v => v.averager.region) (resetPartTrack_partOf t x k)
    rw [part, ← regions]
    split
    · next e =>
      rw [e]
      unfold TrackPart.resetPart
      split
      · rfl
      · simp only
        split <;> rfl
    · rfl
  · rw [resetPartTrack_ramWord _ _ _ fun g region => outside t g ((regions t).symm.trans region), words a outside]

/-- Every sum of every track that was reset is 0. -/
theorem foldl_resetAverager_ramWord {k : Track} {g : Region} {a : Nat} (low : g.base ≤ a) (high : a < g.base + g.length) :
    ∀ (l : List Track) (s : State), (s.averager k).region = some g → k ∈ l ∨ s.ramWord a = 0 →
      (l.foldl (fun s t => resetAverager t s) s).ramWord a = 0
  | [], s, _, h => h.resolve_left (by simp)
  | t :: l, s, region, h => by
    refine foldl_resetAverager_ramWord (k := k) low high l _ ?_ ?_
    · rw [resetAverager_averager]
      split
      · next e => rw [← e]; exact region
      · exact region
    · rw [resetAverager_ramWord]
      by_cases e : k = t
      · refine .inr ?_
        rw [← e, region]
        exact if_pos ⟨low, high⟩
      · refine (h.imp (fun m => (List.mem_cons.mp m).resolve_left e) fun zero => ?_)
        split
        · exact zero
        · split
          · rfl
          · exact zero

end Sys2Proof.Machine

/-!
PROOF. RESET_PART as a whole (R176).
-/

namespace Sys2Proof.Machine

/-! ## The stages of RESET_PART -/

/-- RESET_PART on every track unit and lane. -/
def resetTracks (s : State) : State := allTracks.foldl (fun s t => resetPartTrack t s) s

/-- RESET_PART on every averager. -/
def resetAveragers (s : State) : State := allTracks.foldl (fun s t => resetAverager t s) s

/-- RESET_PART on both marker units. -/
def resetMarkers (s : State) : State := (s.setMarkerA s.markerA.resetPart).setMarkerB s.markerB.resetPart

/-- RESET_PART on the check codes and the notices. -/
def resetNotices (s : State) : State :=
  let s := s.setCheck { s.check with inject := none }
  s.setNotices { s.notices with entries := [] }

theorem resetNotices_reads (s : State) (k : Track) : (resetNotices s).partOf k = s.partOf k ∧
    (resetNotices s).averager k = s.averager k := ⟨rfl, rfl⟩

theorem resetPart_stages (s : State) : resetPart s =
    resetNotices (resetAveragers (endReads (fun _ => true) .reset (resetTracks (resetMarkers s)))) := by
  unfold resetPart resetAveragers resetTracks resetMarkers resetNotices
  with_reducible rfl

/-- What neither a track's reset nor an averager's touches. -/
def State.around (s : State) :=
  (s.time, s.refreshElapsed, s.markerA, s.markerB, s.owners, s.writePos, s.dram, s.dramCheck, s.check, s.link,
    s.notices)

theorem resetPartTrack_around (t : Track) (s : State) : (resetPartTrack t s).around = s.around := by
  unfold resetPartTrack detachWrites State.around
  simp

theorem resetTracks_around (s : State) : (resetTracks s).around = s.around :=
  kept_foldl (p := fun x => x.around = s.around) _ (fun t k => (resetPartTrack_around t _).trans k) _ rfl

theorem resetTracks_partOf (s : State) (k : Track) : (resetTracks s).partOf k = (s.partOf k).resetPart :=
  foldl_allTracks (read := State.partOf) resetPartTrack_partOf s k

theorem resetTracks_mem (s : State) :
    (resetTracks s).mem = s.mem.mapBursts (fun b => b.resetPart (s.records b.track)) := by
  unfold resetTracks
  rw [foldl_resetPartTrack_mem nodup_allTracks]
  simp only [mem_allTracks, if_true]

theorem resetPartTrack_readout (t : Track) (s : State) : (resetPartTrack t s).readout = s.readout := by
  have last : (resetPartTrack t s).readout = (removeFilling t s).readout := rfl
  rw [last]
  cases filling : fillingRecord s t with
  | none => rw [removeFilling_none filling]
  | some f =>
    rw [removeFilling_some filling]
    simp

theorem resetTracks_readout (s : State) : (resetTracks s).readout = s.readout :=
  kept_foldl (p := fun x => x.readout = s.readout) _ (fun t k => (resetPartTrack_readout t _).trans k) _ rfl

theorem resetTracks_sameOutside (s : State) : SameOutside s (resetTracks s) :=
  kept_foldl _ (fun t k => SameOutside.resetPartTrack t k) _ ⟨fun _ => rfl, fun _ _ => rfl⟩

/-- What an averager's reset leaves alone once no read waits. -/
def State.resting (s : State) := (s.around, s.tracks, s.lanes, s.index, s.maps, s.readout, s.mem)

theorem resetAverager_resting {t : Track} {s : State} (h : s.readout.queue = []) :
    (resetAverager t s).resting = s.resting := by
  have mem : (resetAverager t s).mem = s.mem := by
    have still : Burst.leaveRead false = id := by
      funext b
      simp [Burst.leaveRead]
    rw [resetAverager_eq, State.setMem_mem, h]
    simp [MemControl.mapBursts, still]
  have readout : (resetAverager t s).readout = s.readout := by
    rw [resetAverager_eq]
    cases e : s.readout with
    | mk queue ended =>
      rw [e] at h
      simp [Readout.endReads, show queue = [] from h]
  unfold State.resting State.around
  rw [mem, readout]
  simp

theorem resetAveragers_resting {s : State} (h : s.readout.queue = []) : (resetAveragers s).resting = s.resting := by
  refine (kept_foldl (p := fun x => x.readout.queue = [] ∧ x.resting = s.resting) _ (fun t k => ?_) _ ⟨h, rfl⟩).2
  obtain ⟨empty, same⟩ := k
  have resting := resetAverager_resting (t := t) empty
  refine ⟨?_, resting.trans same⟩
  rw [show (resetAverager t _).readout = _ from congrArg (fun v => v.2.2.2.2.2.1) resting]
  exact empty

theorem resetAveragers_averager (s : State) (k : Track) : (resetAveragers s).averager k = (s.averager k).resetTrack :=
  foldl_allTracks (read := State.averager) resetAverager_averager s k

theorem endReads_all (status : EndStatus) (s : State) : ∃ x, endReads (fun _ => true) status s = x ∧
    x.readout.queue = [] ∧ x.readout.ended = s.readout.ended ++ s.readout.queue.map (Read.ending status) ∧
    x.mem = s.mem.mapBursts (Burst.leaveRead (!s.readout.queue.isEmpty)) ∧
    x.around = s.around ∧ (∀ k, x.partOf k = s.partOf k) ∧ ∀ a, x.ramWord a = s.ramWord a := by
  refine ⟨_, endReads_eq_mapBursts _ _ _, ?_, ?_, ?_, rfl, fun _ => rfl, fun _ => rfl⟩
  · simp [Readout.endReads]
  · simp [Readout.endReads]
  · rw [State.setMem_mem]
    cases s.readout.queue <;> rfl

/-! ## RESET_PART as a whole -/

theorem Averager.resetTrack_restart (a : Averager) : a.restart.resetTrack = a.resetTrack := rfl

theorem TrackPart.averager_resetPart (v : TrackPart) : v.resetPart.averager.resetTrack = v.averager.resetTrack := by
  unfold resetPart
  split
  · rfl
  · simp only
    split <;> rfl

section
variable (s : State)

/-- The state after the averagers' resets, and what the other stages made of it. -/
theorem resetAveragers_stage : ∃ x, resetPart s = resetNotices x ∧
    x.around = (resetMarkers s).around ∧ (∀ k, (x.partOf k).averager = (s.averager k).resetTrack) ∧
    (∀ k, x.track k = ((s.partOf k).resetPart).unit ∧ x.lane k = ((s.partOf k).resetPart).lane ∧
      x.indexOf k = ((s.partOf k).resetPart).index) ∧
    x.readout.queue = [] ∧ x.readout.ended = s.readout.ended ++ s.readout.queue.map (Read.ending .reset) ∧
    x.mem = s.mem.mapBursts
      (fun b => (b.resetPart (s.records b.track)).leaveRead (!s.readout.queue.isEmpty)) ∧
    SameOutside s x ∧
    ∀ k g a, (s.averager k).region = some g → g.base ≤ a → a < g.base + g.length → x.ramWord a = 0 := by
  obtain ⟨y, last, queue, ended, mem, around, part, words⟩ := endReads_all .reset (resetTracks (resetMarkers s))
  have resting := resetAveragers_resting queue
  simp only [State.resting, Prod.mk.injEq] at resting
  obtain ⟨around', tracks, lanes, index, maps, readout, mem'⟩ := resting
  have parts (k : Track) : y.partOf k = (s.partOf k).resetPart := (part k).trans (resetTracks_partOf _ k)
  have same : SameOutside s y := by
    obtain ⟨regions, outside⟩ := resetTracks_sameOutside (resetMarkers s)
    exact ⟨fun k => (congrArg (fun v => v.averager.region) (part k)).trans (regions k),
      fun a h => (words a).trans (outside a h)⟩
  refine ⟨resetAveragers y, last ▸ resetPart_stages s, around'.trans (around.trans (resetTracks_around _)), fun k => ?_,
    fun k => ⟨?_, ?_, ?_⟩, ?_, ?_, ?_, ?_, fun k g a region low high => ?_⟩
  · have averager : y.averager k = (s.partOf k).resetPart.averager := congrArg TrackPart.averager (parts k)
    exact (resetAveragers_averager y k).trans (averager ▸ TrackPart.averager_resetPart _)
  · rw [← parts k]
    simp only [State.track, State.partOf, tracks]
  · rw [← parts k]
    simp only [State.lane, State.partOf, lanes]
  · rw [← parts k]
    exact State.indexOf_of_eq k index maps
  · rw [readout, queue]
  · rw [readout, ended, resetTracks_readout]
    rfl
  · rw [mem', mem, resetTracks_readout, resetTracks_mem, MemControl.mapBursts_mapBursts]
    rfl
  · exact kept_foldl _ (fun t k => SameOutside.resetAverager t k) _ same
  · exact foldl_resetAverager_ramWord low high _ _ ((same.1 k).trans region) (.inl (mem_allTracks k))

end

/-- A granted burst after RESET_PART (R58, R147; log 12). -/
theorem Burst.leaveRead_resetPart (ended : Bool) (records : List SweepRecord) (b : Burst) :
    (b.resetPart records).leaveRead ended =
      if b.isRead then (if ended then b.unheed else b)
      else if (records.find? (fun r => r.state = .filling)).any (fun f => f.seq = b.seq) then b.disown
      else if drainsIn records b.seq then b
      else { b with attached := false } := by
  unfold leaveRead resetPart
  by_cases read : b.isRead = true
  · simp [read]
  · have writes : ∀ x : Burst, x = b.disown ∨ x = b ∨ x = { b with attached := false } →
        (if x.isRead && ended then x.unheed else x) = x := by
      rintro x (rfl | rfl | rfl) <;> refine if_neg fun h => read (Bool.and_eq_true_iff.mp h).1
    rw [if_neg read, if_neg read, writes]
    split_ifs <;> simp

theorem TrackPart.lane_resetPart (v : TrackPart) : v.resetPart.lane = Lane.reset := by
  unfold resetPart
  split <;> rfl

theorem TrackPart.resetPart_none {s : State} {k : Track} (h : fillingRecord s k = none) : (s.partOf k).resetPart =
    { s.partOf k with unit := (s.track k).resetPart, lane := Lane.reset } := by
  unfold resetPart
  rw [State.partOf_filling, h]
  rfl

theorem TrackPart.resetPart_some {s : State} {k : Track} {f : SweepRecord} (h : fillingRecord s k = some f) :
    (s.partOf k).resetPart =
      { unit := ((s.track k).dropSweep f.seq).resetPart, lane := Lane.reset, index := (s.indexOf k).remove f,
        averager := ((s.partOf k).resetPart).averager } := by
  unfold resetPart
  rw [State.partOf_filling, h]
  rfl

/-- Settles O14. -/
theorem resetPartActsOnEveryBlock : Obligations.ResetPartActsOnEveryBlock := by
  intro dt s r rest h
  obtain ⟨x, stages, around, averager, parts, queue, ended, mem, ⟨-, outside⟩, zero⟩ :=
    resetAveragers_stage (handed dt s rest)
  have served : serveResetPart r .resetPart (handed dt s rest) =
      some (follow (addReply true r .ok [] (resetNotices x))) := by
    rw [← stages]
    rfl
  refine ⟨_, exec_of_serves serveResetPart h rfl served, ?_⟩
  replace parts : ∀ k, x.track k = (s.partOf k).resetPart.unit ∧ x.lane k = (s.partOf k).resetPart.lane ∧
    x.indexOf k = (s.partOf k).resetPart.index := parts
  simp only [State.around, Prod.mk.injEq] at around
  obtain ⟨time, elapsed, markerA, markerB, owners, writePos, dram, dramCheck, check, link, notices⟩ := around
  obtain ⟨st, tm, after⟩ := follow_mem (addReply true r .ok [] (resetNotices x))
  have mem' : (addReply true r .ok [] (resetNotices x)).mem = _ := mem
  rw [mem'] at after
  refine ⟨fun u => ?_, fun k fifo cursor none some => ?_, fun k none => ?_, fun k f some => ?_, ?_, ?_, ?_, ?_, ?_, ?_,
    ?_, ?_, ?_, ?_, ?_, ?_, ?_, ?_, fun awake => ?_, ?_, ?_, ?_, fun k => ?_, fun k g a region low high => ?_,
    fun a out => ?_, ?_, ?_, ?_, ?_, ?_⟩
  · cases u
    · have kept : (follow (addReply true r .ok [] (resetNotices x))).markerA =
          (addReply true r .ok [] (resetNotices x)).markerA := by simp only [follow_frame]
      exact kept.trans markerA
    · have kept : (follow (addReply true r .ok [] (resetNotices x))).markerB =
          (addReply true r .ok [] (resetNotices x)).markerB := by simp only [follow_frame]
      exact kept.trans markerB
  · obtain ⟨unit, lane, -⟩ := parts k
    rw [(follow_reads _ k).1, (addReply_reads _ _ _ _ _ k).1, (follow_reads _ k).2.1, (addReply_reads _ _ _ _ _ k).2.1]
    refine ⟨unit.trans ?_, lane.trans (TrackPart.lane_resetPart _)⟩
    cases filling : fillingRecord s k with
    | none =>
      obtain ⟨rfl, rfl⟩ := none filling
      rw [TrackPart.resetPart_none filling]
      rfl
    | some f =>
      obtain ⟨rfl, rfl⟩ := some f filling
      rw [TrackPart.resetPart_some filling, TrackUnit.dropSweep_eq]
      rfl
  · obtain ⟨-, -, index⟩ := parts k
    rw [TrackPart.resetPart_none none] at index
    rw [(follow_reads _ k).2.2.1, (addReply_reads _ _ _ _ _ k).2.2.1, (follow_reads _ k).2.2.2.1,
      (addReply_reads _ _ _ _ _ k).2.2.2.1]
    exact ⟨congrArg TrackIndex.records index, congrArg TrackIndex.map index⟩
  · obtain ⟨-, -, index⟩ := parts k
    rw [TrackPart.resetPart_some some] at index
    rw [(follow_reads _ k).2.2.1, (addReply_reads _ _ _ _ _ k).2.2.1, (follow_reads _ k).2.2.2.1,
      (addReply_reads _ _ _ _ _ k).2.2.2.1]
    exact ⟨congrArg TrackIndex.records index, congrArg TrackIndex.map index⟩
  · simp only [follow_frame, addReply_frame]
    exact owners
  · simp only [follow_frame, addReply_frame]
    exact writePos
  · simp only [follow_frame, addReply_frame]
    exact dram
  · simp only [follow_frame, addReply_frame]
    exact dramCheck
  · rw [after]; rfl
  · rw [after]; rfl
  · rw [after]; rfl
  · rw [after]; rfl
  · rw [after]; rfl
  · rw [after]; rfl
  · rw [after]; rfl
  · rw [after]; rfl
  · rw [after]; rfl
  · rw [after]; rfl
  · rw [follow_awake (by rw [mem']; exact awake)]
    exact (congrArg MemControl.state mem' :)
  · rw [after]
    refine List.map_congr_left fun b _ => ?_
    refine (Burst.leaveRead_resetPart _ _ b).trans ?_
    have reading : (if (!s.readout.queue.isEmpty) = true then b.unheed else b) =
        if s.readout.queue = [] then b else b.unheed := by
      cases s.readout.queue <;> simp
    exact congrArg (fun y => if b.isRead then y else _) reading
  · simp only [follow_frame, addReply_frame]
    exact queue
  · simp only [follow_frame, addReply_frame]
    exact ended
  · simp only [follow_reads, addReply_reads]
    exact averager k
  · rw [follow_ramWord, addReply_ramWord]
    exact zero k g a region low high
  · rw [follow_ramWord, addReply_ramWord]
    exact outside a out
  · simp only [follow_frame, addReply_frame]
    exact congrArg (fun c => { c with inject := none }) check
  · simp only [follow_frame, addReply_frame]
    exact congrArg (fun n : NoticeUnit => { n with entries := [] }) notices
  · rw [follow_link, addReply_link]
    have link' : (resetNotices x).link = { s.link with queue := rest } := link
    rw [link']
    rfl
  · simp only [follow_frame, addReply_frame]
    exact time
  · simp only [follow_frame, addReply_frame]
    exact elapsed

end Sys2Proof.Machine

/-!
PROOF. The acquisition path in normal form: what a lost position, an accepted word and a strobe make of the records, the
lane, the track unit and the averager RAM (R29 to R38, R59, R60, R157).
-/

namespace Sys2Proof.Machine

/-! ## The baseline window (R36 to R38) -/

/-- Whether the baseline window of a track unit closes with the resolution of a position (R36). -/
def TrackUnit.closesAt (u : TrackUnit) (pos : Nat) : Bool :=
  u.active.offsetMode.usesBaseline && pos + 1 = u.active.placement + u.active.duration

/-- The accumulator of a lane after the resolution of a position (R36). -/
def Lane.closed (u : TrackUnit) (pos : Nat) (l : Lane) : Lane :=
  if u.closesAt pos then { l with baseSum := 0, baseCount := 0 } else l

/-- A track unit after the resolution of a position, with the accumulator of its lane (R36 to R38). -/
def TrackUnit.closed (l : Lane) (pos : Nat) (u : TrackUnit) : TrackUnit :=
  if u.closesAt pos ∧ l.baseCount ≠ 0 then u.windowMean (Int.tdiv l.baseSum l.baseCount) else u

theorem closeBaseline_eq (t : Track) (pos : Nat) (s : State) : closeBaseline t pos s =
    (s.putLane t ((s.lane t).closed (s.track t) pos)).putTrack t ((s.track t).closed (s.lane t) pos) := by
  unfold closeBaseline Lane.closed TrackUnit.closed
  simp only
  by_cases closes : (s.track t).closesAt pos = true
  · refine (if_pos closes).trans ?_
    rw [if_pos closes]
    by_cases empty : (s.lane t).baseCount = 0
    · rw [if_pos empty, if_neg fun h => h.2 empty]
      exact (putTrack_self (s.putLane t _) t).symm
    · rw [if_neg empty, if_pos ⟨closes, empty⟩]
      rfl
  · refine (if_neg closes).trans ?_
    rw [if_neg closes, if_neg fun h => closes h.1, putLane_self, putTrack_self]

/-- A window mean changes at most the offset in use, the interval count and the update request. -/
theorem TrackUnit.windowMean_only (mean : Int) (u : TrackUnit) : ∃ offset interval request,
    u.windowMean mean = { u with offsetInUse := offset, intervalCount := interval, updateRequest := request } := by
  unfold windowMean
  split
  · exact ⟨_, _, _, rfl⟩
  · exact ⟨_, _, _, rfl⟩
  · split <;> exact ⟨_, _, _, rfl⟩
  · split <;> exact ⟨_, _, _, rfl⟩

theorem TrackUnit.closed_writes (l : Lane) (pos : Nat) (u : TrackUnit) : ∃ offset interval request,
    u.closed l pos = { u with offsetInUse := offset, intervalCount := interval, updateRequest := request } := by
  unfold closed
  split
  · exact u.windowMean_only _
  · exact ⟨_, _, _, rfl⟩

theorem TrackUnit.closed_only (l : Lane) (pos : Nat) (u : TrackUnit) : u.closed l pos =
    { u with
      offsetInUse := (u.closed l pos).offsetInUse, intervalCount := (u.closed l pos).intervalCount,
      updateRequest := (u.closed l pos).updateRequest } := by
  obtain ⟨offset, interval, request, h⟩ := u.closed_writes l pos
  rw [h]

theorem OffsetMode.usesBaseline_iff (m : OffsetMode) : m.usesBaseline = true ↔ m = .auto ∨ m = .onRequest := by
  cases m <;> simp [usesBaseline]

/-- The accumulator, the offset in use, the interval count and the update request after a resolution (R36 to R38). -/
theorem baselineAfter_closed (u : TrackUnit) (pos : Nat) (l : Lane) :
    BaselineAfter u pos l.baseSum l.baseCount (l.closed u pos).baseSum (l.closed u pos).baseCount
      (u.closed l pos).offsetInUse (u.closed l pos).intervalCount (u.closed l pos).updateRequest := by
  by_cases uses : u.active.offsetMode.usesBaseline = true
  · by_cases last : pos + 1 = u.active.placement + u.active.duration
    · have closes : u.closesAt pos = true := by simp [TrackUnit.closesAt, uses, last]
      unfold Lane.closed TrackUnit.closed
      rw [if_pos closes]
      by_cases empty : l.baseCount = 0
      · rw [if_neg fun h => h.2 empty, empty]
        exact .empty ((OffsetMode.usesBaseline_iff _).mp uses) last rfl
      · rw [if_pos ⟨closes, empty⟩]
        rcases (OffsetMode.usesBaseline_iff _).mp uses with auto | onRequest
        · simp only [TrackUnit.windowMean, auto]
          split
          · next due => exact .updated auto last empty due
          · next early => exact .counted auto last empty (by omega)
        · simp only [TrackUnit.windowMean, onRequest]
          cases request : u.updateRequest
          · simp only [Bool.false_eq_true, if_false]
            rw [request]
            exact .notRequested onRequest last empty request
          · exact .requested onRequest last empty request
    · have open' : ¬ u.closesAt pos = true := by simp [TrackUnit.closesAt, last]
      unfold Lane.closed TrackUnit.closed
      rw [if_neg open', if_neg fun h => open' h.1]
      exact .goesOn last
  · have open' : ¬ u.closesAt pos = true := by simp [TrackUnit.closesAt, uses]
    unfold Lane.closed TrackUnit.closed
    rw [if_neg open', if_neg fun h => open' h.1]
    refine .noWindow ?_
    cases mode : u.active.offsetMode <;> simp_all [OffsetMode.usesBaseline]

/-! ## A lost position (R60) -/

/-- Records of which the FILLING ones have lost a position. -/
def loseIn (pos : Nat) (rs : List SweepRecord) : List SweepRecord :=
  rs.map (fun r => if r.state = .filling then r.lose pos else r)

theorem losePosition_eq (t : Track) (pos : Nat) (s : State) : losePosition t pos s =
    ((s.putRecords t (loseIn pos (s.records t))).putLane t ((s.lane t).closed (s.track t) pos)).putTrack t
      ((s.track t).closed (s.lane t) pos) := by
  unfold losePosition
  rw [closeBaseline_eq]
  rfl

/-! ## An accepted word (R34, R36, R59, R157) -/

/-- The accumulator of a lane with an accepted value added (R36). -/
def Lane.added (u : TrackUnit) (pos : Nat) (v : Int) (l : Lane) : Lane :=
  if u.active.offsetMode.usesBaseline ∧ u.active.placement ≤ pos ∧ pos < u.active.placement + u.active.duration then
    { l with baseSum := l.baseSum + v, baseCount := l.baseCount + 1 }
  else l

/-- Records of which the one with a sequence is marked CLIPPED, where the stored value was saturated (R34). -/
def clipIn (seq : Nat) (z v : Int) (rs : List SweepRecord) : List SweepRecord :=
  if v = z then rs else rs.map (fun r => if r.seq = seq then r.setClipped else r)

/-- Records after a value has been staged or, at a full FIFO, lost (R59, R60). -/
def stagedIn (u : TrackUnit) (pos : Nat) (rs : List SweepRecord) : List SweepRecord :=
  if u.fifo.length < 256 then rs else loseIn pos rs

/-- A track unit after a value has been staged or lost (R59, R60). -/
def TrackUnit.staging (seq pos : Nat) (v : Int) (u : TrackUnit) : TrackUnit :=
  { u with fifo := if u.fifo.length < 256 then u.fifo ++ [{ seq := seq, pos := pos, value := v }] else u.fifo }

theorem stageValue_eq (t : Track) (seq pos : Nat) (v : Int) (s : State) : stageValue t seq pos v s =
    (s.putRecords t (stagedIn (s.track t) pos (s.records t))).putTrack t ((s.track t).staging seq pos v) := by
  unfold stageValue stagedIn TrackUnit.staging
  by_cases room : (s.track t).fifo.length < 256
  · refine (if_pos room).trans ?_
    rw [if_pos room, if_pos room, putRecords_self]
  · refine (if_neg room).trans ?_
    rw [if_neg room, if_neg room]
    exact (putTrack_self (s.putRecords t _) t).symm

theorem addBaseline_added (t : Track) (pos : Nat) (v : Int) (s : State) :
    addBaseline t pos v s = s.putLane t ((s.lane t).added (s.track t) pos v) := by
  rw [addBaseline_eq]
  unfold Lane.added
  split
  · rfl
  · rw [putLane_self]

theorem setClipped_claim (t : Track) (seq : Nat) (z v : Int) (s : State) :
    (if v = z then s else claim t seq SweepRecord.setClipped s) = s.putRecords t (clipIn seq z v (s.records t)) := by
  unfold clipIn
  split
  · rw [putRecords_self]
  · rfl

/-- Adding to the sums looks only at the averagers and their RAM. -/
theorem averagerAdd_ram {s x : State} (t : Track) (pos : Nat) (v : Int) (averagers : x.averagers = s.averagers)
    (ram : x.averagerRam = s.averagerRam) (epoch : x.epoch = s.epoch) :
    (averagerAdd t pos v x).averagerRam = (averagerAdd t pos v s).averagerRam := by
  unfold averagerAdd State.averager State.ramWord
  rw [averagers, ram, epoch]
  simp only
  split <;> simp [ram]

section
variable (s : State) (t : Track) (ram : Table (BitVec 32))

theorem setAveragerRam_putRecords (rs : List SweepRecord) :
    (s.setAveragerRam ram).putRecords t rs = (s.putRecords t rs).setAveragerRam ram := rfl

theorem setAveragerRam_putLane (l : Lane) :
    (s.setAveragerRam ram).putLane t l = (s.putLane t l).setAveragerRam ram := rfl

theorem setAveragerRam_putTrack (u : TrackUnit) :
    (s.setAveragerRam ram).putTrack t u = (s.putTrack t u).setAveragerRam ram := rfl

end

theorem acceptWord_eq (t : Track) (r : SweepRecord) (pos : Nat) (raw z v : Int) (s : State)
    (hz : scaled raw (s.track t).active.gain r.offsetUsed = z) (hv : saturate z = v) :
    acceptWord t r pos raw s =
      (((s.putRecords t (stagedIn (s.track t) pos (clipIn r.seq z v (s.records t)))).putLane t
        (((s.lane t).added (s.track t) pos v).closed (s.track t) pos)).putTrack t
          (((s.track t).staging r.seq pos v).closed ((s.lane t).added (s.track t) pos v) pos)).setAveragerRam
            (averagerAdd t pos v s).averagerRam := by
  unfold acceptWord
  simp only [hz, hv, setClipped_claim, addBaseline_added]
  rw [averagerAdd_eq, stageValue_eq, closeBaseline_eq, averagerAdd_ram (s := s) _ _ _ (by simp) (by simp) (by simp)]
  simp only [setAveragerRam_reads, putLane_reads, putRecords_reads, putTrack_reads, State.lane_putLane_same,
    State.track_putTrack_same, State.records_putRecords_same]
  simp only [setAveragerRam_putRecords, setAveragerRam_putLane, setAveragerRam_putTrack,
    putTrack_putLane, putLane_putRecords, putRecords_putRecords, putLane_putLane, putTrack_putTrack]
  rfl

end Sys2Proof.Machine

/-!
PROOF. Strobes and lane words, and what they make of a track (R29 to R38, R59, R60, R157).
-/

namespace Sys2Proof.Machine

/-! ## Strobes (R29 to R31) -/

theorem TrackUnit.windowMean_schedule (mean : Int) (u : TrackUnit) (sch : Option Schedule) :
    ({ u with schedule := sch } : TrackUnit).windowMean mean = { u.windowMean mean with schedule := sch } := by
  unfold windowMean
  simp only
  cases u.active.offsetMode with
  | manual => rfl
  | hold => rfl
  | auto =>
    simp only
    split <;> rfl
  | onRequest =>
    simp only
    split <;> rfl

theorem TrackUnit.closed_schedule (l : Lane) (pos : Nat) (u : TrackUnit) (sch : Option Schedule) :
    ({ u with schedule := sch } : TrackUnit).closed l pos = { u.closed l pos with schedule := sch } := by
  unfold closed
  by_cases h : u.closesAt pos = true ∧ l.baseCount ≠ 0
  · rw [if_pos h]
    exact (if_pos h).trans (windowMean_schedule _ _ _)
  · rw [if_neg h]
    exact if_neg h

theorem Lane.closed_flag (u : TrackUnit) (pos : Nat) (l : Lane) (flag : Option Nat) :
    ({ l with flag := flag } : Lane).closed u pos = { l.closed u pos with flag := flag } := by
  unfold closed
  split <;> rfl

/-- A strobe flag set or cleared. -/
def putFlag (t : Track) (flag : Option Nat) (s : State) : State := s.putLane t { s.lane t with flag := flag }

section
variable (t : Track) (s : State)

/-- What a strobe is issued on does not matter to a loss. -/
theorem losePosition_putSchedule (pos : Nat) (sch : Option Schedule) :
    losePosition t pos (putSchedule t sch s) = putSchedule t sch (losePosition t pos s) := by
  rw [losePosition_eq, losePosition_eq]
  unfold putSchedule
  simp only [putTrack_reads, State.track_putTrack_same, putTrack_putTrack, putTrack_putLane, putTrack_putRecords,
    TrackUnit.closed_schedule]
  rfl

theorem losePosition_putFlag (pos : Nat) (flag : Option Nat) :
    losePosition t pos (putFlag t flag s) = putFlag t flag (losePosition t pos s) := by
  rw [losePosition_eq, losePosition_eq]
  unfold putFlag
  simp only [putTrack_reads, putLane_reads, State.lane_putLane_same, putTrack_putLane, putLane_putLane,
    putLane_putRecords, Lane.closed_flag]
  rfl

theorem putFlag_putFlag (a b : Option Nat) : putFlag t a (putFlag t b s) = putFlag t a s := by
  unfold putFlag
  rw [State.lane_putLane_same, putLane_putLane]

theorem losePositions_putFlag (ps : List Nat) (flag : Option Nat) :
    losePositions t ps (putFlag t flag s) = putFlag t flag (losePositions t ps s) := by
  unfold losePositions
  induction ps generalizing s with
  | nil => rfl
  | cons p ps ih => rw [List.foldl_cons, List.foldl_cons, losePosition_putFlag, ih]

theorem losePosition_flag (pos : Nat) : ((losePosition t pos s).lane t).flag = (s.lane t).flag := by
  rw [losePosition_eq, (putTrack_reads _ _ _ _).1, State.lane_putLane_same]
  unfold Lane.closed
  split <;> rfl

theorem losePositions_flag (ps : List Nat) : ((losePositions t ps s).lane t).flag = (s.lane t).flag := by
  unfold losePositions
  induction ps generalizing s with
  | nil => rfl
  | cons p ps ih => rw [List.foldl_cons, ih, losePosition_flag]

theorem putSchedule_putFlag (sch : Option Schedule) (flag : Option Nat) :
    putSchedule t sch (putFlag t flag s) = putFlag t flag (putSchedule t sch s) := rfl

theorem issueStrobe_flagged {old : Nat} (pos : Nat) (h : (s.lane t).flag = some old) :
    issueStrobe t pos s = putFlag t (some pos) (losePosition t old s) := by
  simp only [issueStrobe, h]
  rfl

theorem issueStrobe_free (pos : Nat) (h : (s.lane t).flag = none) : issueStrobe t pos s = putFlag t (some pos) s := by
  simp only [issueStrobe, h]
  rfl

/-- A regular strobe loses the position the flag stands for, then each position of the catch-up run that was never
issued (R30, R31). -/
theorem issueRegular_eq (sch : Schedule) (pos : Nat) : issueRegular t sch pos s =
    putFlag t (some pos) (putSchedule t (some { sch with next := pos + 1 })
      (losePositions t ((s.lane t).flag.toList ++ (List.range (sch.pastDue - sch.next)).map (fun j => sch.next + j)) s)) := by
  unfold issueRegular
  by_cases run : sch.next < sch.pastDue
  · cases flag : (s.lane t).flag with
    | none =>
      have lost : endCatchUp t sch s =
          losePositions t ((List.range (sch.pastDue - sch.next)).map (fun j => sch.next + j)) s := by
        simp only [endCatchUp, if_pos run, flag]
      rw [lost, issueStrobe_free]
      · rfl
      · exact (losePositions_flag _ _ _).trans flag
    | some old =>
      have lost : endCatchUp t sch s = putFlag t none
          (losePositions t (old :: (List.range (sch.pastDue - sch.next)).map (fun j => sch.next + j)) s) := by
        simp only [endCatchUp, if_pos run, flag]
        exact losePositions_putFlag _ _ _ _
      rw [lost, putSchedule_putFlag, issueStrobe_free, putFlag_putFlag]
      · rfl
      · exact congrArg Lane.flag (State.lane_putLane_same _ _ _)
  · have still : endCatchUp t sch s = s := if_neg run
    have nothing : sch.pastDue - sch.next = 0 := by omega
    rw [still, nothing]
    cases flag : (s.lane t).flag with
    | none =>
      exact issueStrobe_free t (putSchedule t _ s) pos flag
    | some old =>
      exact (issueStrobe_flagged t (putSchedule t _ s) pos flag).trans (congrArg _ (losePosition_putSchedule _ _ _ _))

/-- The records of a track after several positions are lost. -/
theorem losePositions_records (ps : List Nat) : (losePositions t ps s).records t =
    (s.records t).map (fun r => if r.state = .filling then ps.foldl (fun r p => r.lose p) r else r) := by
  unfold losePositions
  induction ps generalizing s with
  | nil => simp
  | cons p ps ih =>
    have first : (losePosition t p s).records t = loseIn p (s.records t) := by
      rw [losePosition_eq]
      simp
    rw [List.foldl_cons, ih, first]
    unfold loseIn
    rw [List.map_map]
    refine List.map_congr_left fun r _ => ?_
    by_cases filling : r.state = .filling
    · have still : (r.lose p).state = .filling := by
        unfold SweepRecord.lose
        split <;> exact filling
      simp [filling, still]
    · simp [filling]

/-! ## Lane words (R30, R32) -/

theorem takeWord_eq {pos : Nat} {f : SweepRecord} (word : BitVec 16) (parity : Bool) (flag : (s.lane t).flag = some pos)
    (filling : fillingRecord s t = some f) : takeWord t word parity s = afterResolution t pos
      (if parityGood word parity then acceptWord t f pos word.toInt (putFlag t none s)
       else losePosition t pos (putFlag t none s)) := by
  have filling' : fillingRecord (putFlag t none s) t = some f := filling
  simp only [takeWord, flag, resolveWord]
  rw [show s.putLane t { s.lane t with flag := none } = putFlag t none s from rfl]
  simp only [filling']

theorem afterResolution_next {pos : Nat} (more : pos + 1 ≠ (s.track t).active.length) :
    afterResolution t pos s = issueCatchUp t s := if_neg more

/-- The catch-up run has no strobe left. -/
theorem issueCatchUp_done (h : ∀ sch, (s.track t).schedule = some sch → sch.pastDue ≤ sch.next) :
    issueCatchUp t s = s := by
  unfold issueCatchUp
  split
  · rfl
  · next sch schedule => exact if_neg (by have := h sch schedule; omega)

theorem issueCatchUp_next {sch : Schedule} (schedule : (s.track t).schedule = some sch)
    (run : sch.next < sch.pastDue) (free : (s.lane t).flag = none) :
    issueCatchUp t s = putFlag t (some sch.next) (putSchedule t (some { sch with next := sch.next + 1 }) s) := by
  simp only [issueCatchUp, schedule]
  rw [if_pos run, issueStrobe_free]
  exact free

theorem losePosition_schedule (pos : Nat) : ((losePosition t pos s).track t).schedule = (s.track t).schedule := by
  rw [losePosition_eq, State.track_putTrack_same, TrackUnit.closed_only]

theorem losePosition_active (pos : Nat) : ((losePosition t pos s).track t).active = (s.track t).active := by
  rw [losePosition_eq, State.track_putTrack_same, TrackUnit.closed_only]

end

theorem parityGood_iff (word : BitVec 16) (parity : Bool) : parityGood word parity = true ↔
    (((List.range 16).filter (fun i => word.getLsbD i)).length + parity.toNat) % 2 = 1 := by
  simp [parityGood]

theorem strobe_undue {t : Track} {s : State} {sch : Schedule} (schedule : (s.track t).schedule = some sch)
    (h : (s.track t).active.length ≤ max sch.next sch.pastDue ∨ elapsed sch.t0 s.time <
      strobeOffset (s.track t).active sch.estimate (max sch.next sch.pastDue)) : strobe t s = s := by
  have undue : dueStrobe s t = none := by
    simp only [dueStrobe, schedule]
    refine if_neg ?_
    rw [Bool.and_eq_true, decide_eq_true_eq, decide_eq_true_eq]
    unfold Schedule.nextRegular
    omega
  simp only [strobe, undue]

theorem strobe_due {t : Track} {s : State} {sch : Schedule} (schedule : (s.track t).schedule = some sch)
    (more : max sch.next sch.pastDue < (s.track t).active.length)
    (come : strobeOffset (s.track t).active sch.estimate (max sch.next sch.pastDue) ≤ elapsed sch.t0 s.time) :
    strobe t s = issueRegular t sch (max sch.next sch.pastDue) s := by
  have due : dueStrobe s t = some (sch, max sch.next sch.pastDue) := by
    simp only [dueStrobe, schedule]
    refine if_pos ?_
    rw [Bool.and_eq_true, decide_eq_true_eq, decide_eq_true_eq]
    exact ⟨more, come⟩
  simp only [strobe, due]

theorem exec_laneWord {dt : Nat} {t : Track} {word : BitVec 16} {parity : Bool} {s : State}
    (free : s.resetHeld = false) : exec (.laneWord dt t word parity) s =
      .next (follow (takeWord t word parity (elapse dt s))) :=
  exec_of_live (f := fun s => follow (takeWord t word parity s)) free rfl

/-- Settles O24. -/
theorem strobesAreIssuedAndWordsLost : Obligations.StrobesAreIssuedAndWordsLost := by
  refine ⟨fun dt t s free => ⟨fun none => ?_, fun sch i offset schedule hi ho => ⟨fun undue => ?_,
    fun lost y more come hl hy => ⟨?_, ?_⟩⟩⟩, fun dt t word parity s free => ⟨fun idle => ?_,
      fun pos f y flag filling more bad hy => ⟨fun done => ?_, fun sch schedule run => ?_⟩⟩⟩
  · have idle : strobe t (elapse dt s) = elapse dt s := by
      simp only [strobe, dueStrobe, elapse_track, none]
    exact (exec_of_live free rfl).trans (congrArg Host.Outcome.next idle)
  · subst hi ho
    exact (exec_of_live free rfl).trans (congrArg Host.Outcome.next (strobe_undue (s := elapse dt s) schedule undue))
  · subst hi ho hl hy
    rw [exec_of_live (f := strobe t) free rfl, strobe_due (s := elapse dt s) schedule more come, issueRegular_eq]
    rfl
  · subst hl hy
    exact losePositions_records t (elapse dt s) _
  · have kept : takeWord t word parity (elapse dt s) = elapse dt s := by
      simp only [takeWord, elapse_lane, idle]
    rw [exec_laneWord free, kept]
  all_goals
    have lost : takeWord t word parity (elapse dt s) = afterResolution t pos (putFlag t none y) := by
      rw [takeWord_eq t (elapse dt s) word parity flag filling, if_neg, losePosition_putFlag, hy]
      rw [parityGood_iff]
      omega
    have more' : pos + 1 ≠ ((putFlag t none y).track t).active.length := by
      have active : ((putFlag t none y).track t).active = (s.track t).active := by
        rw [hy]
        exact losePosition_active _ _ _
      rw [active]
      omega
    have schedule' : ((putFlag t none y).track t).schedule = (s.track t).schedule := by
      rw [hy]
      exact losePosition_schedule _ _ _
    rw [exec_laneWord free, lost, afterResolution_next _ _ more']
  · rw [issueCatchUp_done _ _ (by rwa [schedule'])]
    rfl
  · rw [issueCatchUp_next _ _ (schedule'.trans schedule) run (congrArg Lane.flag (State.lane_putLane_same _ _ _)),
      putSchedule_putFlag, putFlag_putFlag]
    rfl

end Sys2Proof.Machine

/-!
PROOF. Accepted lane words: conversion, staging, the sums and the baseline window (R34 to R38, R59, R157).
-/

namespace Sys2Proof.Machine

/-! ## What an accepted word leaves -/

theorem scaled_of_converts {raw : Int} {gain : Nat} {offset z v : Int} (h : Converts raw gain offset z v) :
    scaled raw gain offset = z ∧ saturate z = v := by
  obtain ⟨near, tie, range⟩ := h
  refine ⟨?_, range.symm⟩
  unfold scaled
  rw [roundNearest_of_nearest near tie]
  omega

theorem clipIn_eq {seq : Nat} {z v : Int} {clip : SweepRecord → SweepRecord}
    (h : ∀ rec, clip rec = if v ≠ z ∧ rec.seq = seq then { rec with clipped := true } else rec) (rs : List SweepRecord) :
    clipIn seq z v rs = rs.map clip := by
  unfold clipIn
  split
  · next same =>
    rw [show clip = id from funext fun rec => (h rec).trans (if_neg fun e => e.1 same), List.map_id]
  · next differ =>
    refine List.map_congr_left fun rec _ => ?_
    rw [h]
    by_cases e : rec.seq = seq
    · rw [if_pos e, if_pos ⟨differ, e⟩]
      rfl
    · rw [if_neg e, if_neg fun c => e c.2]

/-- A catch-up strobe writes the flag and the schedule at most (R30). -/
theorem issueCatchUp_writes (t : Track) (s : State) (free : (s.lane t).flag = none) : ∃ flag sched,
    issueCatchUp t s = putFlag t flag (putSchedule t sched s) ∧
    ((∀ sch, (s.track t).schedule = some sch → sch.pastDue ≤ sch.next) →
      flag = none ∧ sched = (s.track t).schedule) ∧
    (∀ sch, (s.track t).schedule = some sch → sch.next < sch.pastDue →
      flag = some sch.next ∧ sched = some { sch with next := sch.next + 1 }) := by
  by_cases done : ∀ sch, (s.track t).schedule = some sch → sch.pastDue ≤ sch.next
  · refine ⟨none, (s.track t).schedule, ?_, fun _ => ⟨rfl, rfl⟩, fun sch schedule run => ?_⟩
    · rw [issueCatchUp_done _ _ done]
      unfold putFlag putSchedule
      rw [putTrack_self, ← free, putLane_self]
    · exact absurd (done sch schedule) (by omega)
  · obtain ⟨sch, h⟩ := not_forall.mp done
    obtain ⟨schedule, run⟩ := Classical.not_imp.mp h
    refine ⟨some sch.next, some { sch with next := sch.next + 1 },
      issueCatchUp_next _ _ schedule (by omega) free, fun h => absurd (h sch schedule) run, fun other e _ => ?_⟩
    cases schedule.symm.trans e
    exact ⟨rfl, rfl⟩

section
variable (t k : Track) (s : State) (flag : Option Nat) (sched : Option Schedule)

theorem putFlag_reads : (putFlag t flag s).track k = s.track k ∧ (putFlag t flag s).records k = s.records k ∧
    (putFlag t flag s).averager k = s.averager k ∧ (putFlag t flag s).map k = s.map k := ⟨rfl, rfl, rfl, rfl⟩

theorem putSchedule_reads : (putSchedule t sched s).lane k = s.lane k ∧
    (putSchedule t sched s).records k = s.records k ∧ (putSchedule t sched s).averager k = s.averager k ∧
    (putSchedule t sched s).map k = s.map k := ⟨rfl, rfl, rfl, rfl⟩

theorem putFlag_lane : (putFlag t flag s).lane k = if k = t then { s.lane t with flag := flag } else s.lane k :=
  State.lane_putLane _ _ _ _

theorem putSchedule_track : (putSchedule t sched s).track k =
    if k = t then { s.track t with schedule := sched } else s.track k :=
  State.track_putTrack _ _ _ _

end

/-- The state after an accepted word, before what follows its resolution. -/
def acceptedWord (t : Track) (seq pos : Nat) (z v : Int) (s : State) : State :=
  (((s.putRecords t (stagedIn (s.track t) pos (clipIn seq z v (s.records t)))).putLane t
    { ((s.lane t).added (s.track t) pos v).closed (s.track t) pos with flag := none }).putTrack t
      (((s.track t).staging seq pos v).closed ((s.lane t).added (s.track t) pos v) pos)).setAveragerRam
        (averagerAdd t pos v s).averagerRam

theorem acceptWord_flagless (t : Track) (f : SweepRecord) (pos : Nat) (raw z v : Int) (s : State)
    (h : Converts raw (s.track t).active.gain f.offsetUsed z v) :
    acceptWord t f pos raw (putFlag t none s) = acceptedWord t f.seq pos z v s := by
  obtain ⟨hz, hv⟩ := scaled_of_converts h
  have added : ({ s.lane t with flag := none } : Lane).added (s.track t) pos v =
      { (s.lane t).added (s.track t) pos v with flag := none } := by
    unfold Lane.added
    split <;> rfl
  rw [acceptWord_eq t f pos raw z v (putFlag t none s) hz hv, averagerAdd_ram (s := s) (x := putFlag t none s) t pos v rfl rfl rfl]
  unfold acceptedWord putFlag
  simp only [putLane_reads, State.lane_putLane_same, putLane_putLane, putLane_putRecords, added, Lane.closed_flag]
  rfl

/-- An accepted value is added to the sum of its position (R157). -/
theorem averagerAdd_ramWord {t : Track} {s : State} {g : Region} (pos : Nat) (v : Int)
    (region : (s.averager t).region = some g) (current : (s.averager t).current ≠ none) (a : Nat) :
    (averagerAdd t pos v s).ramWord a =
      if a = g.base + pos then s.ramWord (g.base + pos) + BitVec.ofInt 32 v else s.ramWord a := by
  obtain ⟨seq, hc⟩ := Option.ne_none_iff_exists'.mp current
  have added : averagerAdd t pos v s = s.setAveragerRam
      (tput s.averagerRam (g.base + pos) (s.ramWord (g.base + pos) + BitVec.ofInt 32 v)) := by
    simp only [averagerAdd, region, hc]
  rw [added]
  unfold State.ramWord
  rw [State.setAveragerRam_averagerRam, tget_tput]
  split <;> rfl

theorem averagerAdd_idle {t : Track} {s : State} (pos : Nat) (v : Int)
    (h : (s.averager t).region = none ∨ (s.averager t).current = none) : averagerAdd t pos v s = s := by
  unfold averagerAdd
  simp only
  split
  · next region current => rcases h with h | h <;> simp_all
  · rfl

section
variable (t k : Track) (seq pos : Nat) (z v : Int) (s : State)

theorem acceptedWord_track : (acceptedWord t seq pos z v s).track k =
    if k = t then ((s.track t).staging seq pos v).closed ((s.lane t).added (s.track t) pos v) pos else s.track k :=
  State.track_putTrack _ _ _ _

theorem acceptedWord_lane : (acceptedWord t seq pos z v s).lane k =
    if k = t then { ((s.lane t).added (s.track t) pos v).closed (s.track t) pos with flag := none } else s.lane k :=
  State.lane_putLane _ _ _ _

theorem State.records_putRecords (rs : List SweepRecord) :
    (s.putRecords t rs).records k = if k = t then rs else s.records k := by
  by_cases e : k = t
  · subst e; simp
  · rw [State.records_putRecords_other _ _ (Ne.symm e), if_neg e]

theorem acceptedWord_records : (acceptedWord t seq pos z v s).records k =
    if k = t then stagedIn (s.track t) pos (clipIn seq z v (s.records t)) else s.records k :=
  State.records_putRecords _ _ _ _

theorem acceptedWord_frame : (acceptedWord t seq pos z v s).markerA = s.markerA ∧
    (acceptedWord t seq pos z v s).markerB = s.markerB ∧ (acceptedWord t seq pos z v s).maps = s.maps ∧
    (acceptedWord t seq pos z v s).owners = s.owners ∧ (acceptedWord t seq pos z v s).writePos = s.writePos ∧
    (acceptedWord t seq pos z v s).dram = s.dram ∧ (acceptedWord t seq pos z v s).dramCheck = s.dramCheck ∧
    (acceptedWord t seq pos z v s).check = s.check ∧ (acceptedWord t seq pos z v s).readout = s.readout ∧
    (acceptedWord t seq pos z v s).averagers = s.averagers ∧ (acceptedWord t seq pos z v s).link = s.link ∧
    (acceptedWord t seq pos z v s).notices = s.notices :=
  ⟨rfl, rfl, rfl, rfl, rfl, rfl, rfl, rfl, rfl, rfl, rfl, rfl⟩

theorem acceptedWord_averagerRam :
    (acceptedWord t seq pos z v s).averagerRam = (averagerAdd t pos v s).averagerRam := rfl

theorem acceptedWord_ramWord (a : Nat) :
    (acceptedWord t seq pos z v s).ramWord a = (averagerAdd t pos v s).ramWord a := by
  rw [averagerAdd_eq]
  rfl

end

/-- A lane word with good parity (R32). -/
theorem exec_laneWord_good {dt : Nat} {t : Track} {word : BitVec 16} {parity : Bool} {s : State} {pos : Nat}
    {f : SweepRecord} {z v : Int} (free : s.resetHeld = false) (flag : (s.lane t).flag = some pos)
    (filling : fillingRecord s t = some f)
    (good : (((List.range 16).filter (fun i => word.getLsbD i)).length + parity.toNat) % 2 = 1)
    (converts : Converts word.toInt (s.track t).active.gain f.offsetUsed z v) :
    exec (.laneWord dt t word parity) s =
      .next (follow (afterResolution t pos (acceptedWord t f.seq pos z v (elapse dt s)))) := by
  rw [exec_laneWord free, takeWord_eq t (elapse dt s) word parity flag filling,
    if_pos ((parityGood_iff word parity).mpr good), acceptWord_flagless (s := elapse dt s) (h := converts)]

theorem acceptedWord_active (t : Track) (seq pos : Nat) (z v : Int) (s : State) :
    ((acceptedWord t seq pos z v s).track t).active = (s.track t).active := by
  rw [acceptedWord_track, if_pos rfl, TrackUnit.closed_only]
  rfl

theorem acceptedWord_schedule (t : Track) (seq pos : Nat) (z v : Int) (s : State) :
    ((acceptedWord t seq pos z v s).track t).schedule = (s.track t).schedule := by
  rw [acceptedWord_track, if_pos rfl, TrackUnit.closed_only]
  rfl

/-- Settles O25. -/
theorem acceptedWordIsConvertedAndStaged : Obligations.AcceptedWordIsConvertedAndStaged := by
  intro dt t word parity s pos f z v clip free flag filling more good converts hclip
  have run := exec_laneWord_good (dt := dt) free flag filling good converts
  have unit := acceptedWord_track t t f.seq pos z v (elapse dt s)
  have records := acceptedWord_records t t f.seq pos z v (elapse dt s)
  rw [if_pos rfl] at unit records
  rw [elapse_records, clipIn_eq hclip] at records
  rw [afterResolution_next _ _ (by rw [acceptedWord_active]; exact Nat.ne_of_lt more)] at run
  obtain ⟨flag', sched, writes, done, next⟩ := issueCatchUp_writes t (acceptedWord t f.seq pos z v (elapse dt s))
    (by rw [acceptedWord_lane, if_pos rfl])
  rw [acceptedWord_schedule] at done next
  rw [writes] at run
  refine ⟨_, run, ?_⟩
  simp only [follow_reads, follow_frame, follow_ramWord]
  have frame := acceptedWord_frame t f.seq pos z v (elapse dt s)
  simp only [elapse_markerA, elapse_markerB, elapse_maps, elapse_owners, elapse_writePos, elapse_dram,
    elapse_dramCheck, elapse_check, elapse_readout, elapse_averagers, elapse_link, elapse_notices] at frame
  refine ⟨fun h => ?_, fun sch schedule late => ?_, fun room => ⟨?_, ?_⟩, fun full => ⟨?_, ?_⟩,
    fun g region current a => ?_, fun idle => ?_, ?_, fun k ne => ⟨?_, ?_, ?_⟩, frame⟩
  · obtain ⟨rfl, rfl⟩ := done h
    rw [putFlag_lane, if_pos rfl, (putFlag_reads _ _ _ _).1, putSchedule_track, if_pos rfl]
    exact ⟨rfl, rfl⟩
  · obtain ⟨rfl, rfl⟩ := next sch schedule late
    rw [putFlag_lane, if_pos rfl, (putFlag_reads _ _ _ _).1, putSchedule_track, if_pos rfl]
    exact ⟨rfl, rfl⟩
  · rw [(putFlag_reads _ _ _ _).1, putSchedule_track, if_pos rfl, unit, TrackUnit.closed_only]
    exact if_pos room
  · rw [(putFlag_reads _ _ _ _).2.1, (putSchedule_reads _ _ _ _).2.1, records]
    exact if_pos room
  · rw [(putFlag_reads _ _ _ _).1, putSchedule_track, if_pos rfl, unit, TrackUnit.closed_only]
    exact if_neg (by simpa using full)
  · rw [(putFlag_reads _ _ _ _).2.1, (putSchedule_reads _ _ _ _).2.1, records]
    exact if_neg (by simpa using full)
  · have added := averagerAdd_ramWord (s := elapse dt s) pos v region current a
    rw [← acceptedWord_ramWord t f.seq pos z v] at added
    exact added
  · have same : averagerAdd t pos v (elapse dt s) = elapse dt s := averagerAdd_idle pos v idle
    have ram := acceptedWord_averagerRam t f.seq pos z v (elapse dt s)
    rw [same] at ram
    exact ram
  · rw [(putFlag_reads _ _ _ _).1, putSchedule_track, if_pos rfl, unit]
    obtain ⟨offset, interval, request, only⟩ :=
      (((elapse dt s).track t).staging f.seq pos v).closed_writes (((elapse dt s).lane t).added ((elapse dt s).track t) pos v) pos
    rw [only]
    rfl
  · rw [(putFlag_reads _ _ _ _).2.1, (putSchedule_reads _ _ _ _).2.1, acceptedWord_records, if_neg ne]
    rfl
  · rw [(putFlag_reads _ _ _ _).1, putSchedule_track, if_neg ne, acceptedWord_track, if_neg ne]
    rfl
  · rw [putFlag_lane, if_neg ne, (putSchedule_reads _ _ _ _).1, acceptedWord_lane, if_neg ne]
    rfl

end Sys2Proof.Machine

/-!
PROOF. The end of a capture: the record drains, the averager is told, and the run goes on or ends (R51 to R54, R158).
-/

namespace Sys2Proof.Machine

/-! ## The end of the current sweep of an averager (R158 to R160) -/

section
variable {t : Track} {q : Nat} {s : State}

theorem averagerSweepEnd_other (spoiled : Bool) (h : (s.averager t).current ≠ some q) :
    averagerSweepEnd t q spoiled s = s :=
  if_neg h

theorem averagerSweepEnd_spoiled (h : (s.averager t).current = some q) :
    averagerSweepEnd t q true s = restartBlock t s := by
  refine (if_pos h).trans ?_
  rfl

/-- A block with one more sweep. -/
def countSweep (t : Track) (q : Nat) (s : State) : State :=
  claim t q SweepRecord.setAveraged (s.putAverager t
    { s.averager t with current := none, blockCount := (s.averager t).blockCount + 1, blockLast := some q })

theorem averagerSweepEnd_clean (h : (s.averager t).current = some q) : averagerSweepEnd t q false s =
    if (s.averager t).blockCount + 1 = (s.averager t).k then beginPublication t q (countSweep t q s)
    else countSweep t q s := by
  refine (if_pos h).trans ?_
  rfl

theorem overtakeActiveMean_only (t : Track) (s : State) :
    overtakeActiveMean t s = s.setReadout (overtakeActiveMean t s).readout := by
  unfold overtakeActiveMean
  split
  · rfl
  · split <;> rfl

theorem overtakeActiveMean_readout {s x : State} (t : Track) (h : x.readout = s.readout) :
    (overtakeActiveMean t x).readout = (overtakeActiveMean t s).readout := by
  unfold overtakeActiveMean
  rw [h]
  split
  · exact h
  · split
    · rfl
    · exact h

theorem beginPublication_only (t : Track) (q : Nat) (s : State) : beginPublication t q s =
    (s.putAverager t { s.averager t with
      blockCount := 0, publication := some { next := 0, last := q }, published := false }).setReadout
        (overtakeActiveMean t s).readout := by
  unfold beginPublication
  rw [overtakeActiveMean_only]
  refine congrArg _ (overtakeActiveMean_readout t ?_)
  rfl

/-- The records, when the averager has been told of the end of a sweep. -/
theorem averagerSweepEnd_records (t k : Track) (q : Nat) (spoiled : Bool) (s : State) :
    (averagerSweepEnd t q spoiled s).records k =
      if k = t ∧ (s.averager t).current = some q ∧ spoiled = false then
        (s.records t).map (fun r => if r.seq = q then r.setAveraged else r)
      else s.records k := by
  by_cases current : (s.averager t).current = some q
  · cases spoiled
    · have counted : (countSweep t q s).records k =
          if k = t then (s.records t).map (fun r => if r.seq = q then r.setAveraged else r) else s.records k :=
        State.records_putRecords _ _ _ _
      rw [averagerSweepEnd_clean current]
      split
      · rw [beginPublication_only]
        simp only [current, and_true]
        exact counted
      · simp only [current, and_true]
        exact counted
    · rw [averagerSweepEnd_spoiled current, if_neg (by simp)]
      simp only [State.records, restartBlock_frame]
  · rw [averagerSweepEnd_other _ current, if_neg (by tauto)]

/-- The averager and the reads afterwards depend on those before alone. -/
theorem averagerSweepEnd_congr {s x : State} (t : Track) (q : Nat) (spoiled : Bool)
    (averagers : x.averagers = s.averagers) (readout : x.readout = s.readout) :
    (averagerSweepEnd t q spoiled x).averagers = (averagerSweepEnd t q spoiled s).averagers ∧
      (averagerSweepEnd t q spoiled x).readout = (averagerSweepEnd t q spoiled s).readout := by
  have averager : x.averager t = s.averager t := by
    unfold State.averager
    rw [averagers]
  have put (a : Averager) : (x.putAverager t a).averagers = (s.putAverager t a).averagers := by
    unfold State.putAverager
    rw [averagers]
    rfl
  by_cases current : (s.averager t).current = some q
  · have current' : (x.averager t).current = some q := averager ▸ current
    cases spoiled
    · have counted : (countSweep t q x).averagers = (countSweep t q s).averagers := by
        unfold countSweep
        rw [averager]
        exact put _
      rw [averagerSweepEnd_clean current, averagerSweepEnd_clean current', averager]
      split
      · rw [beginPublication_only, beginPublication_only]
        refine ⟨?_, overtakeActiveMean_readout t readout⟩
        have same : (countSweep t q x).averager t = (countSweep t q s).averager t :=
          congrArg (fun l : Vector Averager 8 => l[t]) counted
        rw [same]
        exact congrArg (fun l : Vector Averager 8 => l.set t _) counted
      · exact ⟨counted, readout⟩
    · rw [averagerSweepEnd_spoiled current, averagerSweepEnd_spoiled current']
      refine ⟨?_, by simp only [restartBlock_frame, readout]⟩
      cases region : (s.averager t).region with
      | none => rw [restartBlock_of_disabled region, restartBlock_of_disabled (averager ▸ region), averagers]
      | some g =>
        rw [restartBlock_only region, restartBlock_only (s := x) (g := g) (averager ▸ region), averager]
        exact put _
  · rw [averagerSweepEnd_other _ current, averagerSweepEnd_other _ (by rw [averager]; exact current)]
    exact ⟨averagers, readout⟩

theorem averagerSweepEnd_averager_other {k : Track} (spoiled : Bool) (ne : k ≠ t) :
    (averagerSweepEnd t q spoiled s).averager k = s.averager k := by
  by_cases current : (s.averager t).current = some q
  · cases spoiled
    · have counted : (countSweep t q s).averager k = s.averager k :=
        State.averager_putAverager_other _ _ ne.symm
      rw [averagerSweepEnd_clean current]
      split
      · rw [beginPublication_only]
        exact (State.averager_putAverager_other _ _ ne.symm).trans counted
      · exact counted
    · rw [averagerSweepEnd_spoiled current]
      cases region : (s.averager t).region with
      | none => rw [restartBlock_of_disabled region]
      | some g =>
        rw [restartBlock_only region]
        exact State.averager_putAverager_other _ _ ne.symm
  · rw [averagerSweepEnd_other _ current]

/-- The sums are cleared when the block restarts (R159). -/
theorem averagerSweepEnd_ramWord {g : Region} (spoiled : Bool) (region : (s.averager t).region = some g)
    (current : (s.averager t).current = some q) (publication : (s.averager t).publication = none) (a : Nat) :
    (averagerSweepEnd t q spoiled s).ramWord a =
      if spoiled = true ∧ g.base ≤ a ∧ a < g.base + g.length then 0 else s.ramWord a := by
  cases spoiled
  · refine Eq.trans ?_ (if_neg fun h => Bool.false_ne_true h.1).symm
    rw [averagerSweepEnd_clean current]
    split
    · rw [beginPublication_only]
      rfl
    · rfl
  · rw [averagerSweepEnd_spoiled current, restartBlock_ramWord region]
    simp only [publication, true_and]

end

theorem averagerSweepEnd_averagerRam_other {t : Track} {q : Nat} {s : State} (spoiled : Bool)
    (h : (s.averager t).current ≠ some q) : (averagerSweepEnd t q spoiled s).averagerRam = s.averagerRam := by
  rw [averagerSweepEnd_other _ h]

/-! ## The FILLING sweep drains (R51, R52) -/

/-- The state of a track whose FILLING sweep drains, before the averager is told (R51). -/
def drained (t : Track) (q : Nat) (short : Bool) (s : State) : State :=
  ((s.putRecords t ((s.records t).map (fun r => if r.seq = q then r.drain short else r))).putLane t Lane.reset).putTrack t
    { s.track t with schedule := none, sweepsDone := min 65535 ((s.track t).sweepsDone + 1) }

theorem reachDraining_eq (t : Track) (r : SweepRecord) (short : Bool) (s : State) :
    reachDraining t r short s = averagerSweepEnd t r.seq (r.gap || r.short || short) (drained t r.seq short s) := by
  unfold reachDraining stopLane putSchedule claim drained
  simp only [putLane_reads, putTrack_reads, State.track_putTrack_same, putTrack_putRecords,
    putTrack_putTrack, putLane_putRecords]

section
variable (t k : Track) (r : SweepRecord) (short : Bool) (s : State)

theorem reachDraining_track : (reachDraining t r short s).track k =
    if k = t then { s.track t with schedule := none, sweepsDone := min 65535 ((s.track t).sweepsDone + 1) }
    else s.track k := by
  rw [reachDraining_eq]
  have kept : (averagerSweepEnd t r.seq (r.gap || r.short || short) (drained t r.seq short s)).track k =
      (drained t r.seq short s).track k := by
    simp only [State.track, averagerSweepEnd_frame]
  rw [kept]
  exact State.track_putTrack _ _ _ _

theorem reachDraining_lane : (reachDraining t r short s).lane k = if k = t then Lane.reset else s.lane k := by
  rw [reachDraining_eq]
  have kept : (averagerSweepEnd t r.seq (r.gap || r.short || short) (drained t r.seq short s)).lane k =
      (drained t r.seq short s).lane k := by
    simp only [State.lane, averagerSweepEnd_frame]
  rw [kept]
  exact State.lane_putLane _ _ _ _

theorem drained_records : (drained t r.seq short s).records k =
    if k = t then (s.records t).map (fun x => if x.seq = r.seq then x.drain short else x) else s.records k :=
  State.records_putRecords _ _ _ _

end

/-! ## What follows the end of a capture (R51, R53, R54) -/

theorem afterCapture_complete {t : Track} {s : State} (h : (s.track t).armCount ≠ 0)
    (all : (s.track t).sweepsDone = (s.track t).armCount) : afterCapture t s = goIdle t .countDone s :=
  if_pos (by simp [TrackUnit.runComplete, h, all])

theorem afterCapture_goesOn {t : Track} {s : State}
    (h : (s.track t).armCount = 0 ∨ (s.track t).sweepsDone ≠ (s.track t).armCount) : afterCapture t s =
      match (s.track t).state with
      | .sweeping => setTrackState t .awaiting s
      | .stopping => goIdle t .stopped s
      | .idle => s
      | .armed => s
      | .awaiting => s
      | .halted _ => s := by
  refine (if_neg ?_).trans ?_
  · rcases h with h | h <;> simp [TrackUnit.runComplete, h]
  · rfl

/-- Beside the notices the state and the selected unit of the track alone change. -/
theorem afterCapture_track (t k : Track) (s : State) : ∃ state selected,
    (afterCapture t s).track k =
      if k = t then { s.track t with state := state, selected := selected } else s.track k := by
  have still : s.track k = if k = t then s.track t else s.track k := by
    split
    · next e => rw [e]
    · rfl
  unfold afterCapture
  split
  · rw [goIdle_eq]
    exact ⟨_, _, State.track_putTrack _ _ _ _⟩
  · split
    · exact ⟨_, _, State.track_putTrack _ _ _ _⟩
    · rw [goIdle_eq]
      exact ⟨_, _, State.track_putTrack _ _ _ _⟩
    all_goals exact ⟨_, _, still⟩

end Sys2Proof.Machine

/-!
PROOF. The baseline window, and the lane word of the last position (R36 to R38, R51 to R54, R158).
-/

namespace Sys2Proof.Machine

/-! ## The baseline window -/

theorem TrackUnit.closed_fifo (l : Lane) (pos : Nat) (u : TrackUnit) (fifo : List FifoEntry) :
    ({ u with fifo := fifo } : TrackUnit).closed l pos = { u.closed l pos with fifo := fifo } := by
  have mean (m : Int) : ({ u with fifo := fifo } : TrackUnit).windowMean m = { u.windowMean m with fifo := fifo } := by
    unfold windowMean
    simp only
    cases u.active.offsetMode with
    | manual => rfl
    | hold => rfl
    | auto =>
      simp only
      split <;> rfl
    | onRequest =>
      simp only
      split <;> rfl
  unfold closed
  by_cases h : u.closesAt pos = true ∧ l.baseCount ≠ 0
  · rw [if_pos h]
    exact (if_pos h).trans (mean _)
  · rw [if_neg h]
    exact if_neg h

theorem TrackUnit.closed_staging (l : Lane) (seq p : Nat) (v : Int) (pos : Nat) (u : TrackUnit) :
    (u.staging seq p v).closed l pos = { u.closed l pos with fifo := (u.staging seq p v).fifo } :=
  u.closed_fifo l pos _

/-- The accumulator of a lane with a value added, where its position lies in the window and the mode uses one. -/
theorem Lane.added_sums {u : TrackUnit} {pos : Nat} {v : Int} {l : Lane} {sum : Int} {count : Nat}
    (inside : u.active.offsetMode = .auto ∨ u.active.offsetMode = .onRequest → u.active.placement ≤ pos →
      pos < u.active.placement + u.active.duration → sum = l.baseSum + v ∧ count = l.baseCount + 1)
    (outside : u.active.offsetMode = .manual ∨ u.active.offsetMode = .hold ∨ pos < u.active.placement ∨
      u.active.placement + u.active.duration ≤ pos → sum = l.baseSum ∧ count = l.baseCount) :
    (l.added u pos v).baseSum = sum ∧ (l.added u pos v).baseCount = count := by
  unfold added
  by_cases h : u.active.offsetMode.usesBaseline ∧ u.active.placement ≤ pos ∧
      pos < u.active.placement + u.active.duration
  · rw [if_pos h]
    obtain ⟨uses, low, high⟩ := h
    obtain ⟨rfl, rfl⟩ := inside ((OffsetMode.usesBaseline_iff _).mp uses) low high
    exact ⟨rfl, rfl⟩
  · rw [if_neg h]
    have out : u.active.offsetMode = .manual ∨ u.active.offsetMode = .hold ∨ pos < u.active.placement ∨
        u.active.placement + u.active.duration ≤ pos := by
      rw [OffsetMode.usesBaseline_iff] at h
      cases mode : u.active.offsetMode <;> simp only [mode] at h ⊢ <;> simp at h ⊢ <;> omega
    obtain ⟨rfl, rfl⟩ := outside out
    exact ⟨rfl, rfl⟩

/-- The end of a capture leaves what the baseline window steers. -/
theorem endCapture_steering (t : Track) (s : State) :
    ((endCapture t s).track t).offsetInUse = (s.track t).offsetInUse ∧
    ((endCapture t s).track t).intervalCount = (s.track t).intervalCount ∧
    ((endCapture t s).track t).updateRequest = (s.track t).updateRequest := by
  unfold endCapture
  split
  · exact ⟨rfl, rfl, rfl⟩
  · next r _ =>
    obtain ⟨state, selected, unit⟩ := afterCapture_track t t (reachDraining t r false s)
    rw [unit, if_pos rfl, reachDraining_track, if_pos rfl]
    exact ⟨rfl, rfl, rfl⟩

/-- What a resolution leaves of the steering, and, before the last position, of the accumulator. -/
theorem afterResolution_steering (t : Track) (pos : Nat) (s : State) (free : (s.lane t).flag = none) :
    ((afterResolution t pos s).track t).offsetInUse = (s.track t).offsetInUse ∧
    ((afterResolution t pos s).track t).intervalCount = (s.track t).intervalCount ∧
    ((afterResolution t pos s).track t).updateRequest = (s.track t).updateRequest ∧
    (pos + 1 ≠ (s.track t).active.length →
      ((afterResolution t pos s).lane t).baseSum = (s.lane t).baseSum ∧
      ((afterResolution t pos s).lane t).baseCount = (s.lane t).baseCount) := by
  by_cases last : pos + 1 = (s.track t).active.length
  · have ended : afterResolution t pos s = endCapture t s := if_pos last
    rw [ended]
    obtain ⟨offset, interval, request⟩ := endCapture_steering t s
    exact ⟨offset, interval, request, fun more => absurd last more⟩
  · obtain ⟨flag, sched, writes, -, -⟩ := issueCatchUp_writes t s free
    rw [afterResolution_next _ _ last, writes, (putFlag_reads _ _ _ _).1, putSchedule_track, if_pos rfl, putFlag_lane,
      if_pos rfl]
    exact ⟨rfl, rfl, rfl, fun _ => ⟨rfl, rfl⟩⟩

/-- Settles O26. -/
theorem baselineWindowSteersOffset : Obligations.BaselineWindowSteersOffset := by
  refine ⟨fun t pos s => ?_, fun dt t word parity s pos f z v sum0 count0 free flag filling good converts inside outside => ?_⟩
  · refine ⟨_, _, _, _, _, baselineAfter_closed (s.track t) pos (s.lane t), ?_⟩
    rw [losePosition_eq, ← TrackUnit.closed_only]
    have lane : (s.lane t).closed (s.track t) pos =
        { s.lane t with
          baseSum := ((s.lane t).closed (s.track t) pos).baseSum,
          baseCount := ((s.lane t).closed (s.track t) pos).baseCount } := by
      unfold Lane.closed
      split <;> rfl
    rw [← lane]
    rfl
  · obtain ⟨sums, counts⟩ := Lane.added_sums inside outside
    have run := exec_laneWord_good (dt := dt) free flag filling good converts
    have unit := acceptedWord_track t t f.seq pos z v (elapse dt s)
    have lane := acceptedWord_lane t t f.seq pos z v (elapse dt s)
    rw [if_pos rfl] at unit lane
    rw [TrackUnit.closed_staging] at unit
    obtain ⟨offset, interval, request, accumulator⟩ :=
      afterResolution_steering t pos (acceptedWord t f.seq pos z v (elapse dt s)) (by rw [lane])
    have after := baselineAfter_closed (s.track t) pos ((s.lane t).added (s.track t) pos v)
    rw [sums, counts] at after
    refine ⟨_, _, _, _, _, _, after, run, ?_, ?_, ?_, fun more => ?_⟩
    · rw [(follow_reads _ t).1, offset, unit]
      rfl
    · rw [(follow_reads _ t).1, interval, unit]
      rfl
    · rw [(follow_reads _ t).1, request, unit]
      rfl
    · obtain ⟨sum, count⟩ := accumulator (by rw [acceptedWord_active]; exact more)
      rw [(follow_reads _ t).2.1, sum, count, lane]
      exact ⟨rfl, rfl⟩

end Sys2Proof.Machine

/-!
PROOF. The lane word of the last position drains the record and ends the capture (R51 to R54, R158).
-/

namespace Sys2Proof.Machine

/-! ## The FILLING record of an index in order -/

/-- In an index in order the FILLING record is the one with its sequence. -/
theorem only_filling {s : State} {t : Track} {f : SweepRecord} (h : IndexInOrder s)
    (filling : fillingRecord s t = some f) :
    f ∈ s.records t ∧ f.state = .filling ∧
      ∀ y ∈ s.records t, (y.seq = f.seq → y = f) ∧ (y.state = .filling → y = f) := by
  obtain ⟨rising, -, -, -, -, -, -, one, -⟩ := h t
  have mem := List.mem_of_find?_eq_some filling
  have state : f.state = .filling := by simpa using List.find?_some filling
  refine ⟨mem, state, fun y hy => ⟨fun seq => ?_, fun also => ?_⟩⟩
  · have once : ((s.records t).map SweepRecord.seq).Nodup := (List.pairwise_map.mpr rising).imp Nat.ne_of_lt
    exact List.inj_on_of_nodup_map once hy mem seq
  · have hf : f ∈ (s.records t).filter (fun y => y.state = .filling) := List.mem_filter.mpr ⟨mem, by simpa using state⟩
    have hy' : y ∈ (s.records t).filter (fun y => y.state = .filling) := List.mem_filter.mpr ⟨hy, by simpa using also⟩
    obtain ⟨z, single⟩ := List.length_eq_one_iff.mp (Nat.le_antisymm one (List.length_pos_of_mem hf))
    rw [single, List.mem_singleton] at hf hy'
    rw [hf, hy']

/-- Records with the one of a sequence replaced. -/
def replaceRecord (q : Nat) (g : SweepRecord) (rs : List SweepRecord) : List SweepRecord :=
  rs.map (fun y => if y.seq = q then g else y)

section
variable {s : State} {t : Track} {f : SweepRecord} (order : IndexInOrder s) (filling : fillingRecord s t = some f)
include order filling

theorem clipIn_replace (z v : Int) : clipIn f.seq z v (s.records t) =
    replaceRecord f.seq { f with clipped := f.clipped || decide (v ≠ z) } (s.records t) := by
  obtain ⟨-, -, only⟩ := only_filling order filling
  unfold clipIn replaceRecord
  split
  · next same =>
    refine (List.map_id _).symm.trans (List.map_congr_left fun y hy => ?_)
    split
    · next seq =>
      rw [(only y hy).1 seq]
      simp [same]
    · rfl
  · next differ =>
    refine List.map_congr_left fun y hy => ?_
    split
    · next seq =>
      rw [(only y hy).1 seq]
      simp [SweepRecord.setClipped, differ]
    · rfl

theorem loseIn_replace (pos : Nat) {g : SweepRecord} (state : g.state = .filling) :
    loseIn pos (replaceRecord f.seq g (s.records t)) = replaceRecord f.seq (g.lose pos) (s.records t) := by
  obtain ⟨-, -, only⟩ := only_filling order filling
  unfold loseIn replaceRecord
  rw [List.map_map]
  refine List.map_congr_left fun y hy => ?_
  by_cases seq : y.seq = f.seq
  · simp [seq, state]
  · have other : y.state ≠ .filling := fun e => seq (congrArg SweepRecord.seq ((only y hy).2 e))
    simp [seq, other]

theorem replaceRecord_self : replaceRecord f.seq f (s.records t) = s.records t := by
  obtain ⟨-, -, only⟩ := only_filling order filling
  refine (List.map_congr_left fun y hy => ?_).trans (List.map_id _)
  split
  · next seq => exact ((only y hy).1 seq).symm
  · rfl

theorem fillingRecord_replace {x : State} {g : SweepRecord} (state : g.state = .filling)
    (records : x.records t = replaceRecord f.seq g (s.records t)) : fillingRecord x t = some g := by
  obtain ⟨-, found, only⟩ := only_filling order filling
  unfold fillingRecord
  rw [records]
  unfold replaceRecord
  have same : (s.records t).find? ((fun r => decide (r.state = RecordState.filling)) ∘
      fun y => if y.seq = f.seq then g else y) = fillingRecord s t := by
    refine List.find?_congr fun y hy => ?_
    by_cases seq : y.seq = f.seq
    · have e := (only y hy).1 seq
      simp [state, e, found]
    · simp [seq]
  rw [List.find?_map, same, filling]
  simp

end

/-! ## The last position resolved -/

/-- What the resolution of a position makes of a state, before what follows it. -/
structure Resolved (t : Track) (f g : SweepRecord) (fifo : List FifoEntry) (pos : Nat) (good : Bool) (v : Int)
    (s x : State) : Prop where
  records : x.records t = replaceRecord f.seq g (s.records t)
  unit : ∃ offset interval request, x.track t =
    { s.track t with fifo := fifo, offsetInUse := offset, intervalCount := interval, updateRequest := request }
  others : ∀ k, k ≠ t → x.records k = s.records k ∧ x.track k = s.track k ∧ x.lane k = s.lane k
  averagers : x.averagers = s.averagers
  readout : x.readout = s.readout
  ram : (s.averager t).current = none → x.averagerRam = s.averagerRam
  words : ∀ r, (s.averager t).region = some r → (s.averager t).current ≠ none → ∀ a,
    x.ramWord a = if good = true ∧ a = r.base + pos then s.ramWord a + BitVec.ofInt 32 v else s.ramWord a
  rest : x.markerA = s.markerA ∧ x.markerB = s.markerB ∧ x.maps = s.maps ∧ x.owners = s.owners ∧
    x.writePos = s.writePos ∧ x.dram = s.dram ∧ x.dramCheck = s.dramCheck ∧ x.check = s.check ∧ x.link = s.link ∧
    x.notices = s.notices

theorem resolved_good {t : Track} {s : State} {f g : SweepRecord} {fifo : List FifoEntry} {pos : Nat} {z v : Int}
    (order : IndexInOrder s) (filling : fillingRecord s t = some f)
    (room : (s.track t).fifo.length < 256 → g = { f with clipped := f.clipped || decide (v ≠ z) } ∧
      fifo = (s.track t).fifo ++ [{ seq := f.seq, pos := pos, value := v }])
    (full : 256 ≤ (s.track t).fifo.length →
      g = SweepRecord.lose pos { f with clipped := f.clipped || decide (v ≠ z) } ∧ fifo = (s.track t).fifo) :
    Resolved t f g fifo pos true v s (acceptedWord t f.seq pos z v s) := by
  obtain ⟨-, state, -⟩ := only_filling order filling
  have staged : stagedIn (s.track t) pos (clipIn f.seq z v (s.records t)) = replaceRecord f.seq g (s.records t) ∧
      ((s.track t).staging f.seq pos v).fifo = fifo := by
    unfold stagedIn TrackUnit.staging
    rw [clipIn_replace order filling]
    by_cases h : (s.track t).fifo.length < 256
    · obtain ⟨rfl, rfl⟩ := room h
      rw [if_pos h]
      exact ⟨rfl, if_pos h⟩
    · obtain ⟨rfl, rfl⟩ := full (by omega)
      rw [if_neg h, loseIn_replace order filling]
      · exact ⟨rfl, if_neg h⟩
      · exact state
  obtain ⟨records, staging⟩ := staged
  obtain ⟨markerA, markerB, maps, owners, writePos, dram, dramCheck, check, readout, averagers, link, notices⟩ :=
    acceptedWord_frame t f.seq pos z v s
  refine ⟨?_, ?_, fun k ne => ?_, averagers, readout, fun idle => ?_, fun r region current a => ?_,
    markerA, markerB, maps, owners, writePos, dram, dramCheck, check, link, notices⟩
  · rw [acceptedWord_records, if_pos rfl, records]
  · obtain ⟨offset, interval, request, only⟩ := (s.track t).closed_writes ((s.lane t).added (s.track t) pos v) pos
    refine ⟨offset, interval, request, ?_⟩
    rw [acceptedWord_track, if_pos rfl, TrackUnit.closed_staging, staging, only]
  · rw [acceptedWord_records, if_neg ne, acceptedWord_track, if_neg ne, acceptedWord_lane, if_neg ne]
    exact ⟨rfl, rfl, rfl⟩
  · rw [acceptedWord_averagerRam, averagerAdd_idle pos v (.inr idle)]
  · rw [acceptedWord_ramWord, averagerAdd_ramWord pos v region current]
    by_cases e : a = r.base + pos <;> simp [e]

theorem resolved_bad {t : Track} {s : State} {f : SweepRecord} {pos : Nat} (v : Int)
    (order : IndexInOrder s) (filling : fillingRecord s t = some f) :
    Resolved t f (f.lose pos) (s.track t).fifo pos false v s (losePosition t pos (putFlag t none s)) := by
  obtain ⟨-, state, -⟩ := only_filling order filling
  have lost := losePosition_eq t pos (putFlag t none s)
  rw [lost]
  refine ⟨?_, ?_, fun k ne => ?_, rfl, rfl, fun _ => rfl, fun r _ _ a => ?_, rfl, rfl, rfl, rfl, rfl, rfl, rfl, rfl, rfl,
    rfl⟩
  · refine (State.records_putRecords _ _ _ _).trans ((if_pos rfl).trans ?_)
    rw [← loseIn_replace order filling pos state, replaceRecord_self order filling]
    rfl
  · obtain ⟨offset, interval, request, only⟩ := (s.track t).closed_writes ((putFlag t none s).lane t) pos
    refine ⟨offset, interval, request, ?_⟩
    rw [State.track_putTrack_same]
    exact only
  · refine ⟨(State.records_putRecords _ _ _ _).trans (if_neg ne), (State.track_putTrack _ _ _ _).trans (if_neg ne), ?_⟩
    refine (State.lane_putLane _ _ _ _).trans ((if_neg ne).trans ?_)
    exact (putFlag_lane _ _ _ _).trans (if_neg ne)
  · rw [if_neg (by simp)]
    rfl

/-! ## The end of the capture -/

section
variable {t : Track} {f g : SweepRecord} {fifo : List FifoEntry} {pos : Nat} {good : Bool} {v : Int} {s x : State}
  (h : Resolved t f g fifo pos good v s x)
include h

theorem Resolved.averager (k : Track) : x.averager k = s.averager k :=
  congrArg (fun l : Vector Averager 8 => l[k]) h.averagers

/-- The records after the FILLING sweep has drained and the averager been told. -/
theorem Resolved.drained_records (seq : g.seq = f.seq) (state : g.state = .filling) (k : Track) :
    (reachDraining t g false x).records k =
      if k = t then replaceRecord f.seq
        { g with
          state := .draining,
          averaged := g.averaged || (decide ((s.averager t).current = some f.seq) && g.losses.isNone && !g.short) }
        (s.records t)
      else s.records k := by
  have told := averagerSweepEnd_records t k g.seq (g.gap || g.short || false) (drained t g.seq false x)
  rw [← reachDraining_eq, Machine.drained_records, Machine.drained_records, if_pos rfl] at told
  rw [told]
  have current : (drained t g.seq false x).averager t = s.averager t := h.averager t
  rw [current, seq, h.records]
  by_cases e : k = t
  · have drain : g.drain false = { g with state := .draining } := by
      unfold SweepRecord.drain
      rw [if_pos state, Bool.or_false]
    subst e
    simp only [if_true, true_and, replaceRecord, List.map_map]
    split
    · next told =>
      obtain ⟨now, clean⟩ := told
      refine List.map_congr_left fun y _ => ?_
      by_cases own : y.seq = f.seq
      · simp only [Function.comp_apply, own, if_true, seq, drain, now, SweepRecord.setAveraged]
        have clean' : (g.losses.isNone && !g.short) = true := by
          simp only [SweepRecord.gap, Bool.or_false, Bool.or_eq_false_iff] at clean
          simp [Option.isSome_eq_false_iff.mp clean.1, clean.2]
        simp [clean']
      · simp [own]
    · next untold =>
      refine List.map_congr_left fun y _ => ?_
      by_cases own : y.seq = f.seq
      · simp only [Function.comp_apply, own, if_true, seq, drain]
        have not : (decide ((s.averager k).current = some f.seq) && g.losses.isNone && !g.short) = false := by
          by_contra all
          simp only [Bool.not_eq_false, Bool.and_eq_true, decide_eq_true_eq, Bool.not_eq_true'] at all
          refine untold ⟨all.1.1, ?_⟩
          simp [SweepRecord.gap, all.2, Option.isNone_iff_eq_none.mp all.1.2]
        simp [not]
      · simp [own]
  · simp only [e, false_and, if_false]
    exact (h.others k e).1

theorem Resolved.drained_averager (seq : g.seq = f.seq) (k : Track) : (reachDraining t g false x).averager k =
    (averagerSweepEnd t f.seq (g.losses.isSome || g.short) s).averager k ∧
    (reachDraining t g false x).readout = (averagerSweepEnd t f.seq (g.losses.isSome || g.short) s).readout := by
  have told := averagerSweepEnd_congr (s := s) (x := drained t g.seq false x) t g.seq (g.gap || g.short || false)
    h.averagers h.readout
  rw [← reachDraining_eq, Bool.or_false, seq] at told
  exact ⟨congrArg (fun l : Vector Averager 8 => l[k]) told.1, told.2⟩

theorem Resolved.drained_ram (idle : (s.averager t).current = none) :
    (reachDraining t g false x).averagerRam = s.averagerRam := by
  have current : (drained t g.seq false x).averager t = s.averager t := h.averager t
  rw [reachDraining_eq, averagerSweepEnd_averagerRam_other _ (by rw [current, idle]; exact nofun)]
  exact h.ram idle

theorem Resolved.drained_words (seq : g.seq = f.seq) {r : Region} (region : (s.averager t).region = some r)
    (current : (s.averager t).current = some f.seq) (publication : (s.averager t).publication = none) (a : Nat) :
    (reachDraining t g false x).ramWord a =
      if (g.losses.isSome || g.short) = true ∧ r.base ≤ a ∧ a < r.base + r.length then 0
      else if good = true ∧ a = r.base + pos then s.ramWord a + BitVec.ofInt 32 v else s.ramWord a := by
  have same : (drained t g.seq false x).averager t = s.averager t := h.averager t
  have told := averagerSweepEnd_ramWord (s := drained t g.seq false x) (q := f.seq) (g.gap || g.short || false)
    (by rw [same]; exact region) (by rw [same]; exact current) (by rw [same]; exact publication) a
  have word : (drained t g.seq false x).ramWord a = x.ramWord a := rfl
  rw [word, h.words r region (by rw [current]; exact nofun), Bool.or_false, seq] at told
  rw [reachDraining_eq, Bool.or_false, seq]
  exact told

end

/-- What the end of a capture leaves alone after the record has drained. -/
theorem follow_afterCapture_reads (t k : Track) (s : State) :
    (follow (afterCapture t s)).records k = s.records k ∧ (follow (afterCapture t s)).lane k = s.lane k ∧
    (follow (afterCapture t s)).averager k = s.averager k := by
  simp only [follow_reads]
  simp only [State.records, State.lane, State.averager, afterCapture_frame, and_self]

theorem follow_afterCapture_ramWord (t : Track) (s : State) (a : Nat) :
    (follow (afterCapture t s)).ramWord a = s.ramWord a := by
  rw [follow_ramWord]
  simp only [State.ramWord, afterCapture_frame]

/-- The averager's part reads the averagers and the reads alone, not the time. -/
theorem averagerSweepEnd_elapse (t k : Track) (q : Nat) (spoiled : Bool) (dt : Nat) (s : State) :
    (averagerSweepEnd t q spoiled (elapse dt s)).averager k = (averagerSweepEnd t q spoiled s).averager k ∧
    (averagerSweepEnd t q spoiled (elapse dt s)).readout = (averagerSweepEnd t q spoiled s).readout := by
  obtain ⟨averagers, readout⟩ := averagerSweepEnd_congr (s := s) (x := elapse dt s) t q spoiled rfl rfl
  exact ⟨congrArg (fun l : Vector Averager 8 => l[k]) averagers, readout⟩

/-- Settles O27. -/
theorem lastPositionEndsCapture : Obligations.LastPositionEndsCapture := by
  intro dt t word parity s pos done f g z v fifo good free order flag filling last hdone hgood converts bad room full
  obtain ⟨-, state, -⟩ := only_filling order filling
  have order' : IndexInOrder (elapse dt s) := order
  have filling' : fillingRecord (elapse dt s) t = some f := filling
  have lose : ∀ y : SweepRecord, (y.lose pos).state = y.state ∧ (y.lose pos).seq = y.seq := by
    intro y
    unfold SweepRecord.lose
    split <;> exact ⟨rfl, rfl⟩
  have resolved : ∃ x, Resolved t f g fifo pos good v (elapse dt s) x ∧ g.state = .filling ∧ g.seq = f.seq ∧
      exec (.laneWord dt t word parity) s = .next (follow (afterResolution t pos x)) := by
    cases parityIs : good with
    | true =>
      have odd := of_decide_eq_true (hgood.symm.trans parityIs)
      refine ⟨_, resolved_good order' filling' (room parityIs) (full parityIs), ?_, ?_,
        exec_laneWord_good free flag filling odd converts⟩ <;>
        by_cases h : (s.track t).fifo.length < 256
      · rw [(room parityIs h).1]; exact state
      · rw [(full parityIs (by omega)).1, (lose _).1]; exact state
      · rw [(room parityIs h).1]
      · rw [(full parityIs (by omega)).1, (lose _).2]
    | false =>
      have even := of_decide_eq_false (hgood.symm.trans parityIs)
      obtain ⟨rfl, rfl⟩ := bad parityIs
      refine ⟨_, resolved_bad v order' filling', (lose f).1.trans state, (lose f).2, ?_⟩
      rw [exec_laneWord free, takeWord_eq t (elapse dt s) word parity flag filling,
        if_neg fun h => even ((parityGood_iff word parity).mp h)]
  obtain ⟨x, h, filling'', seq, run⟩ := resolved
  obtain ⟨offset, interval, request, unit⟩ := h.unit
  have ended : afterResolution t pos x = afterCapture t (reachDraining t g false x) := by
    have found : fillingRecord x t = some g := fillingRecord_replace order' filling' filling'' h.records
    refine (if_pos (by rw [unit]; exact last)).trans ?_
    simp only [endCapture, found]
  rw [ended] at run
  have track (k : Track) := reachDraining_track t k g false x
  have own := track t
  rw [if_pos rfl, unit] at own
  obtain ⟨st, sel, after⟩ := afterCapture_track t t (reachDraining t g false x)
  rw [if_pos rfl, own] at after
  obtain ⟨markerA, markerB, maps, owners, writePos, dram, dramCheck, check, link, notices⟩ := h.rest
  have hdone' : done = min 65535 (((elapse dt s).track t).sweepsDone + 1) := hdone
  have stopped (reason : StopReason) :
      ((follow (goIdle t reason (reachDraining t g false x))).track t).state = .idle ∧
      ((follow (goIdle t reason (reachDraining t g false x))).track t).selected = none ∧
      (follow (goIdle t reason (reachDraining t g false x))).notices = s.notices.post (Source.trackStopped t)
        (.trackStopped reason (min 65535 ((s.track t).sweepsDone + 1)) (s.track t).seqCounter) := by
    rw [(follow_reads _ t).1, goIdle_eq, (post_reads _ _ _ _).2.1, State.track_putTrack_same, own]
    refine ⟨rfl, rfl, ?_⟩
    simp only [follow_frame, post, State.setNotices_notices, putTrack_frame, reachDraining_frame, notices]
    rfl
  refine ⟨_, run, ?_, ?_, ?_, ?_, ?_, ?_, ?_, fun idle => ?_, fun r region current publication a => ?_,
    fun counted all => ?_, fun goesOn => ⟨fun sweeping => ?_, fun stopping => ?_⟩, ?_, fun k ne => ⟨?_, ?_, ?_, ?_⟩, ?_⟩
  · rw [(follow_afterCapture_reads t t _).1, h.drained_records seq filling'' t, if_pos rfl]
    rfl
  · rw [(follow_reads _ t).1, after]
  · rw [(follow_afterCapture_reads t t _).2.1, reachDraining_lane, if_pos rfl]
    rfl
  · rw [(follow_reads _ t).1, after]
  · rw [(follow_reads _ t).1, after, hdone]
    rfl
  · rw [(follow_afterCapture_reads t t _).2.2, (h.drained_averager seq t).1]
    exact (averagerSweepEnd_elapse _ _ _ _ _ _).1
  · simp only [follow_frame, afterCapture_frame]
    rw [(h.drained_averager seq t).2]
    exact (averagerSweepEnd_elapse _ t _ _ _ _).2
  · simp only [follow_frame, afterCapture_frame]
    exact h.drained_ram idle
  · rw [follow_afterCapture_ramWord, h.drained_words seq region current publication]
    rfl
  · have complete : afterCapture t (reachDraining t g false x) = goIdle t .countDone (reachDraining t g false x) :=
      afterCapture_complete (by rw [own]; exact counted) (by rw [own]; exact hdone.symm.trans all)
    rw [complete, hdone]
    exact stopped .countDone
  · have awaits : afterCapture t (reachDraining t g false x) = setTrackState t .awaiting (reachDraining t g false x) := by
      rw [afterCapture_goesOn (by rw [own, ← hdone']; exact goesOn), own]
      simp only [elapse_track, sweeping]
    rw [awaits, (follow_reads _ t).1]
    unfold setTrackState
    rw [State.track_putTrack_same, own]
    refine ⟨rfl, rfl, ?_⟩
    simp only [follow_frame, putTrack_frame, reachDraining_frame]
    exact notices
  · have stops : afterCapture t (reachDraining t g false x) = goIdle t .stopped (reachDraining t g false x) := by
      rw [afterCapture_goesOn (by rw [own, ← hdone']; exact goesOn), own]
      simp only [elapse_track, stopping]
    rw [stops, hdone]
    exact stopped .stopped
  · rw [(follow_reads _ t).1, after, hdone]
    rfl
  · rw [(follow_afterCapture_reads t k _).1, h.drained_records seq filling'' k, if_neg ne]
    rfl
  · obtain ⟨_, _, other⟩ := afterCapture_track t k (reachDraining t g false x)
    rw [(follow_reads _ k).1, other, if_neg ne, track, if_neg ne, (h.others k ne).2.1]
    rfl
  · rw [(follow_afterCapture_reads t k _).2.1, reachDraining_lane, if_neg ne, (h.others k ne).2.2]
    rfl
  · rw [(follow_afterCapture_reads t k _).2.2, (h.drained_averager seq k).1, averagerSweepEnd_averager_other _ ne]
    rfl
  · simp only [follow_frame, afterCapture_frame, reachDraining_frame]
    exact ⟨markerA, markerB, maps, owners, writePos, dram, dramCheck, check, link⟩

end Sys2Proof.Machine

/-!
PROOF. The placement scan walks the window (R90 to R92).
-/

namespace Sys2Proof.Machine

/-! ## Ranges of pages -/

theorem mem_pageRange {c n p : Nat} : p ∈ pageRange c n ↔ c ≤ p ∧ p < c + n := by
  unfold pageRange
  rw [List.mem_map]
  constructor
  · rintro ⟨i, hi, rfl⟩
    have := List.mem_range.mp hi
    omega
  · rintro ⟨low, high⟩
    exact ⟨p - c, List.mem_range.mpr (by omega), by omega⟩

theorem pairwise_pageRange (c n : Nat) : (pageRange c n).Pairwise (· < ·) :=
  List.pairwise_map.mpr (List.pairwise_lt_range.imp fun h => by omega)

/-- A search from the end of a range finds its highest page. -/
theorem find_reverse_pageRange {f : Nat → Bool} {c n p : Nat} (h : (pageRange c n).reverse.find? f = some p) :
    f p = true ∧ c ≤ p ∧ p < c + n ∧ ∀ q, p < q → q < c + n → f q = false := by
  obtain ⟨hit, as, bs, split, miss⟩ := List.find?_eq_some_iff_append.mp h
  obtain ⟨low, high⟩ := mem_pageRange.mp (List.mem_reverse.mp (List.mem_of_find?_eq_some h))
  refine ⟨hit, low, high, fun q above inside => ?_⟩
  have mem : q ∈ as ++ p :: bs := split ▸ List.mem_reverse.mpr (mem_pageRange.mpr ⟨by omega, inside⟩)
  have falling : (as ++ p :: bs).Pairwise (fun a b => b < a) :=
    split ▸ List.pairwise_reverse.mpr (pairwise_pageRange c n)
  rcases List.mem_append.mp mem with before | after
  · simpa using miss q before
  · obtain rfl | after := List.mem_cons.mp after
    · omega
    · have below := (List.pairwise_cons.mp (List.pairwise_append.mp falling).2.1).1 q after
      omega

/-! ## The scan is the walk -/

section
variable {s : State} {t : Track} {hole bar : Nat → Prop} (hhole : ∀ p, hole p ↔ tget (s.map t) p = none)
  (hbar : ∀ p, bar p ↔ barred s t p = true)
include hhole hbar

/-- With enough fuel the scan is the walk; each move goes up a page or is the one wrap. -/
theorem scanFrom_walk {base w n start : Nat} : ∀ (fuel c : Nat) (wrapped : Bool), c ≤ base + w →
    (base + w - c) + (if wrapped then 0 else w + 1) < fuel →
    ScanWalk hole bar base w n start c wrapped (scanFrom s t base w n start fuel c wrapped)
  | 0, c, wrapped, _, enough => by omega
  | fuel + 1, c, wrapped, low, enough => by
    unfold scanFrom
    split
    · next ended =>
      obtain ⟨rfl, past⟩ : wrapped = true ∧ start ≤ c := by simpa using ended
      exact .exhausted c past
    · next goesOn =>
      have before : wrapped = true → c < start := by
        rintro rfl
        simpa using goesOn
      split
      · next holed =>
        obtain ⟨p, mem, none⟩ := List.any_eq_true.mp holed
        obtain ⟨cp, pn⟩ := mem_pageRange.mp mem
        exact .hole c wrapped p before cp pn ((hhole p).mpr (by simpa using none))
      · next whole =>
        have noHole : ∀ q, c ≤ q → q < c + n → ¬ hole q := fun q cq qn h =>
          whole (List.any_eq_true.mpr ⟨q, mem_pageRange.mpr ⟨cq, qn⟩, by simpa using (hhole q).mp h⟩)
        split
        · next clear =>
          refine .found c wrapped before fun q cq qn => ⟨noHole q cq qn, fun h => ?_⟩
          exact List.find?_eq_none.mp clear q (List.mem_reverse.mpr (mem_pageRange.mpr ⟨cq, qn⟩)) ((hbar q).mp h)
        · next p highest =>
          obtain ⟨hit, cp, pn, above⟩ := find_reverse_pageRange highest
          have free : ∀ q, p < q → q < c + n → ¬ bar q := fun q pq qn h => by
            rw [hbar, above q pq qn] at h
            cases h
          split
          · next fits =>
            exact .move c wrapped p _ before noHole cp pn ((hbar p).mpr hit) free fits
              (scanFrom_walk fuel (p + 1) wrapped (by omega) (by omega))
          · next passes =>
            cases wrapped with
            | true => exact .passed c p (before rfl) noHole cp pn ((hbar p).mpr hit) free (by omega)
            | false =>
              refine .wrap c p _ noHole cp pn ((hbar p).mpr hit) free (by omega)
                (scanFrom_walk fuel base true (by omega) ?_)
              simp only [Bool.false_eq_true, if_false] at enough
              simp only [if_true]
              omega

end

/-- A walk that ends with NO_ROOM has met a barred page in every range of the window. -/
theorem ScanWalk.noRoom_covers {hole bar : Nat → Prop} {base w n start c : Nat} {wrapped : Bool} {r : ScanEnd}
    (walk : ScanWalk hole bar base w n start c wrapped r) (noRoom : r = .noRoom)
    (first : wrapped = false → ∀ x, start ≤ x → x < c → ∃ p, x ≤ p ∧ p < x + n ∧ bar p)
    (second : wrapped = true → (∀ x, base ≤ x → x < c → ∃ p, x ≤ p ∧ p < x + n ∧ bar p) ∧
      ∀ x, start ≤ x → x + n ≤ base + w → ∃ p, x ≤ p ∧ p < x + n ∧ bar p) :
    ∀ x, base ≤ x → x + n ≤ base + w → ∃ p, x ≤ p ∧ p < x + n ∧ bar p := by
  induction walk with
  | exhausted c past =>
    obtain ⟨low, high⟩ := second rfl
    intro x hx fits
    by_cases below : x < c
    · exact low x hx below
    · exact high x (by omega) fits
  | hole => cases noRoom
  | found => cases noRoom
  | move c wrapped p r before _ cp pn hit _ fits _ ih =>
    have here : ∀ x, c ≤ x → x < p + 1 → ∃ q, x ≤ q ∧ q < x + n ∧ bar q := fun x cx xp => ⟨p, by omega, by omega, hit⟩
    refine ih noRoom (fun e x sx xp => ?_) fun e => ⟨fun x bx xp => ?_, (second e).2⟩
    · by_cases below : x < c
      · exact first e x sx below
      · exact here x (by omega) xp
    · by_cases below : x < c
      · exact (second e).1 x bx below
      · exact here x (by omega) xp
  | wrap c p r _ cp pn hit _ passes _ ih =>
    refine ih noRoom nofun fun _ => ⟨fun x bx xb => by omega, fun x sx fits => ?_⟩
    by_cases below : x < c
    · exact first rfl x sx below
    · exact ⟨p, by omega, by omega, hit⟩
  | passed c p before _ cp pn hit _ passes =>
    intro x bx fits
    by_cases below : x < c
    · exact (second rfl).1 x bx below
    · exact ⟨p, by omega, by omega, hit⟩

end Sys2Proof.Machine

/-!
PROOF. A placement retires what is in its way (R93, R95).
-/

namespace Sys2Proof.Machine

/-! ## Several complete records retired -/

/-- Whether a read is of one of several sweeps of a track. -/
def Read.ofAny (t : Track) (rs : List SweepRecord) (q : Read) : Bool := rs.any (fun y => q.ofSweep t y.seq)

/-- The retirement of a record that is complete and not kept: the index and the reads (R95). -/
theorem retire_complete {t : Track} {r : SweepRecord} {s : State} (kept : r.kept = false) (state : r.state = .complete) :
    retire t r s = ((s.putRecords t ((s.records t).filter (fun x => x.seq ≠ r.seq))).setReadout
      (s.readout.endReads (Read.ofSweep t r.seq) .overtaken)).setMem
        (s.mem.mapBursts (Burst.leaveRead (s.readout.queue.head?.any (Read.ofSweep t r.seq)))) := by
  rw [retire_eq t r s kept]
  simp only [state, reduceCtorEq, if_false, decide_false, Bool.and_false, Bool.false_and, Bool.or_false]
  rw [← (putRecords_reads s t t ((s.records t).filter (fun x => x.seq ≠ r.seq))).2.1, putTrack_self]
  rfl

section
variable {t : Track}

/-- What the retirement of complete records leaves alone. -/
theorem retireAll_rest {rs : List SweepRecord} (h : ∀ r ∈ rs, r.kept = false ∧ r.state = .complete) (s : State) :
    (retireAll t rs s).tracks = s.tracks ∧ (retireAll t rs s).maps = s.maps ∧
    (retireAll t rs s).writePos = s.writePos := by
  unfold retireAll
  induction rs generalizing s with
  | nil => exact ⟨rfl, rfl, rfl⟩
  | cons r rs ih =>
    obtain ⟨kept, state⟩ := h r (List.mem_cons_self ..)
    obtain ⟨tracks, maps, writePos⟩ := ih (fun x hx => h x (List.mem_cons_of_mem _ hx)) (retire t r s)
    rw [List.foldl_cons, tracks, maps, writePos, retire_complete kept state]
    exact ⟨rfl, rfl, rfl⟩

theorem retireAll_records {rs : List SweepRecord} (h : ∀ r ∈ rs, r.kept = false ∧ r.state = .complete) (s : State)
    (k : Track) : (retireAll t rs s).records k =
      if k = t then (s.records t).filter (fun y => !rs.any (fun r => r.seq = y.seq)) else s.records k := by
  unfold retireAll
  induction rs generalizing s with
  | nil =>
    split
    · next e => simp [e]
    · rfl
  | cons r rs ih =>
    obtain ⟨kept, state⟩ := h r (List.mem_cons_self ..)
    have first (k : Track) : (retire t r s).records k =
        if k = t then (s.records t).filter (fun x => x.seq ≠ r.seq) else s.records k := by
      rw [retire_complete kept state]
      exact State.records_putRecords _ _ _ _
    rw [List.foldl_cons, ih (fun x hx => h x (List.mem_cons_of_mem _ hx)), first, first, if_pos rfl]
    split
    · rw [List.filter_filter]
      refine List.filter_congr fun y _ => ?_
      by_cases e : y.seq = r.seq
      · simp [e]
      · simp [e, Ne.symm e]
    · rfl

theorem Read.ofSweep_inj {q : Read} {a b : Nat} (ha : q.ofSweep t a = true) (hb : q.ofSweep t b = true) : a = b := by
  unfold ofSweep at ha hb
  split at ha
  · next e =>
    rw [e] at hb
    simp only [Bool.and_eq_true, decide_eq_true_eq] at ha hb
    exact ha.2.symm.trans hb.2
  · cases ha

/-- The final frame of an overtaken READ_SWEEP (R147). -/
def Read.sweepOvertaken (q : Read) : EndFrame :=
  { tag := q.tag, mean := false, position := q.firstPos + q.delivered, status := .overtaken, delivered := q.delivered }

theorem Read.ending_of_ofSweep {q : Read} {a : Nat} (h : q.ofSweep t a = true) :
    q.ending .overtaken = q.sweepOvertaken := by
  unfold ofSweep at h
  unfold ending sweepOvertaken
  split at h
  · next e =>
    rw [e]
    rfl
  · cases h

theorem Burst.leaveRead_leaveRead (a b : Bool) :
    Burst.leaveRead b ∘ Burst.leaveRead a = Burst.leaveRead (a || b) := by
  funext x
  unfold leaveRead
  by_cases read : x.isRead = true
  · cases a <;> cases b <;> simp [read, Burst.unheed]
  · simp [read]

theorem retireAll_readout {rs : List SweepRecord} (h : ∀ r ∈ rs, r.kept = false ∧ r.state = .complete)
    (once : rs.Pairwise (fun a b => a.seq ≠ b.seq)) (s : State) :
    (retireAll t rs s).readout.queue = s.readout.queue.filter (fun q => !q.ofAny t rs) ∧
    (retireAll t rs s).readout.ended = s.readout.ended ++
      rs.flatMap (fun y => (s.readout.queue.filter (fun q => q.ofSweep t y.seq)).map Read.sweepOvertaken) ∧
    (retireAll t rs s).mem = s.mem.mapBursts (Burst.leaveRead (s.readout.queue.head?.any (Read.ofAny t rs))) := by
  unfold retireAll
  induction rs generalizing s with
  | nil =>
    have none (q : Read) : q.ofAny t [] = false := rfl
    have still : Burst.leaveRead (s.readout.queue.head?.any (Read.ofAny t [])) = id := by
      funext b
      cases s.readout.queue <;> simp [Burst.leaveRead, none]
    refine ⟨?_, ?_, ?_⟩
    · simp [none]
    · simp
    · rw [still]
      simp [MemControl.mapBursts]
  | cons r rs ih =>
    obtain ⟨kept, state⟩ := h r (List.mem_cons_self ..)
    obtain ⟨new, once⟩ := List.pairwise_cons.mp once
    obtain ⟨queue, ended, mem⟩ := ih (fun x hx => h x (List.mem_cons_of_mem _ hx)) once (retire t r s)
    have readout : (retire t r s).readout = s.readout.endReads (Read.ofSweep t r.seq) .overtaken := by
      rw [retire_complete kept state]
      rfl
    have bursts : (retire t r s).mem =
        s.mem.mapBursts (Burst.leaveRead (s.readout.queue.head?.any (Read.ofSweep t r.seq))) := by
      rw [retire_complete kept state]
      rfl
    have both (q : Read) : q.ofAny t (r :: rs) = (q.ofSweep t r.seq || q.ofAny t rs) := rfl
    rw [List.foldl_cons, queue, ended, mem, readout, bursts]
    unfold Readout.endReads
    refine ⟨?_, ?_, ?_⟩
    · rw [List.filter_filter]
      refine List.filter_congr fun q _ => ?_
      rw [both, Bool.not_or, Bool.and_comm]
    · have own : (s.readout.queue.filter (fun q => q.ofSweep t r.seq)).map (Read.ending .overtaken) =
          (s.readout.queue.filter (fun q => q.ofSweep t r.seq)).map Read.sweepOvertaken :=
        List.map_congr_left fun q hq => Read.ending_of_ofSweep (List.of_mem_filter hq)
      have others : rs.flatMap (fun y => ((s.readout.queue.filter (fun q => !q.ofSweep t r.seq)).filter
            (fun q => q.ofSweep t y.seq)).map Read.sweepOvertaken) =
          rs.flatMap (fun y => (s.readout.queue.filter (fun q => q.ofSweep t y.seq)).map Read.sweepOvertaken) := by
        refine List.flatMap_congr fun y hy => congrArg _ ?_
        rw [List.filter_filter]
        refine List.filter_congr fun q _ => ?_
        cases of : q.ofSweep t y.seq
        · rfl
        · have notThis : q.ofSweep t r.seq = false :=
            Bool.eq_false_iff.mpr fun e => new y hy (Read.ofSweep_inj e of)
          rw [notThis]
          rfl
      rw [others, List.flatMap_cons, ← own, List.append_assoc]
    · rw [MemControl.mapBursts_mapBursts]
      refine congrArg s.mem.mapBursts ((Burst.leaveRead_leaveRead _ _).trans (congrArg Burst.leaveRead ?_))
      cases s.readout.queue with
      | nil => rfl
      | cons q qs =>
        simp only [List.head?_cons, Option.any_some, both]
        cases of : q.ofSweep t r.seq
        · simp [of]
        · simp

end

/-! ## A placement -/

/-- Whether a record has a page among the n from c on (R86). -/
def SweepRecord.meets (c n : Nat) (r : SweepRecord) : Bool := (pageRange c n).any (fun p => r.occupies p)

theorem SweepRecord.meets_iff (c n : Nat) (r : SweepRecord) :
    r.meets c n = true ↔ ∃ p, c ≤ p ∧ p < c + n ∧ r.occupies p = true := by
  unfold meets
  simp only [List.any_eq_true, mem_pageRange, and_assoc]

/-- The records that a placement on n pages from c on retires (R93, steps 1 and 2). -/
def retiredAt (c n : Nat) (rs : List SweepRecord) : List SweepRecord :=
  rs.filter (SweepRecord.meets c n) ++
    if 256 ≤ (rs.filter (fun r => !r.meets c n)).length then
      ((rs.filter (fun r => !r.meets c n)).find? (fun r => r.state = .complete && !r.kept)).toList
    else []

/-- A placement without its write position: the occupants retire, then the oldest record if the index is full. -/
theorem placeAt_stages (t : Track) (c : Nat) (s : State) : ∃ x,
    x = retireAll t ((s.records t).filter (SweepRecord.meets c (pageCount (s.track t).active.length))) s ∧
    placeAt t c s = (if 256 ≤ (x.records t).length then
        match (x.records t).find? (fun r => r.state = .complete && !r.kept) with
        | some r => retire t r x
        | none => x
      else x).putWritePosition t (c + pageCount (s.track t).active.length) :=
  ⟨_, rfl, rfl⟩

/-- A placement whose occupants are complete and not kept. -/
theorem placeAt_eq {t : Track} {c n : Nat} {s : State} (hn : n = pageCount (s.track t).active.length)
    (once : ((s.records t).map SweepRecord.seq).Nodup)
    (occupants : ∀ r ∈ s.records t, r.meets c n = true → r.kept = false ∧ r.state = .complete) :
    placeAt t c s = (retireAll t (retiredAt c n (s.records t)) s).putWritePosition t (c + n) := by
  subst hn
  obtain ⟨x, hx, placed⟩ := placeAt_stages t c s
  have complete : ∀ r ∈ (s.records t).filter (SweepRecord.meets c (pageCount (s.track t).active.length)),
      r.kept = false ∧ r.state = .complete := fun r hr =>
    occupants r (List.mem_of_mem_filter hr) (List.of_mem_filter hr)
  have left : x.records t =
      (s.records t).filter (fun r => !r.meets c (pageCount (s.track t).active.length)) := by
    rw [hx, retireAll_records complete, if_pos rfl]
    refine List.filter_congr fun y hy => congrArg _ (Bool.eq_iff_iff.mpr ?_)
    rw [List.any_eq_true]
    constructor
    · rintro ⟨r, hr, seq⟩
      rw [← List.inj_on_of_nodup_map once (List.mem_of_mem_filter hr) hy (by simpa using seq)]
      exact List.of_mem_filter hr
    · exact fun own => ⟨y, List.mem_filter.mpr ⟨hy, own⟩, by simp⟩
  rw [placed, left]
  refine congrArg (State.putWritePosition · t _) ?_
  unfold retiredAt
  by_cases full : 256 ≤ ((s.records t).filter
      (fun r => !r.meets c (pageCount (s.track t).active.length))).length
  · rw [if_pos full, if_pos full]
    cases ((s.records t).filter (fun r => !r.meets c (pageCount (s.track t).active.length))).find?
        (fun r => r.state = .complete && !r.kept) with
    | none => exact hx.trans (congrArg (fun l => retireAll t l s) (List.append_nil _).symm)
    | some r =>
      simp only [hx, Option.toList_some]
      exact (List.foldl_append (f := fun s r => retire t r s) (l' := [r])).symm
  · rw [if_neg full, if_neg full]
    exact hx.trans (congrArg (fun l => retireAll t l s) (List.append_nil _).symm)

theorem mem_retiredAt {c n : Nat} {rs : List SweepRecord} {r : SweepRecord} (h : r ∈ retiredAt c n rs) :
    r ∈ rs ∧ (r.meets c n = true ∨ r.kept = false ∧ r.state = .complete) := by
  unfold retiredAt at h
  rcases List.mem_append.mp h with occupant | oldest
  · exact ⟨List.mem_of_mem_filter occupant, .inl (List.of_mem_filter occupant)⟩
  · split at oldest
    · have found := Option.mem_toList.mp oldest
      refine ⟨List.mem_of_mem_filter (List.mem_of_find?_eq_some found), .inr ?_⟩
      have fits := List.find?_some found
      rw [Bool.and_eq_true, decide_eq_true_eq] at fits
      exact ⟨by simpa using fits.2, fits.1⟩
    · cases oldest

theorem pairwise_retiredAt {c n : Nat} {rs : List SweepRecord} (once : (rs.map SweepRecord.seq).Nodup) :
    (retiredAt c n rs).Pairwise (fun a b => a.seq ≠ b.seq) := by
  have apart : rs.Pairwise (fun a b => a.seq ≠ b.seq) := List.pairwise_map.mp once
  unfold retiredAt
  refine List.pairwise_append.mpr ⟨apart.filter _, ?_, fun a ha b hb => ?_⟩
  · split
    · cases (rs.filter (fun r => !r.meets c n)).find? (fun r => r.state = .complete && !r.kept) <;> simp
    · exact .nil
  · split at hb
    · have mem := List.mem_of_find?_eq_some (Option.mem_toList.mp hb)
      intro seq
      have same := List.inj_on_of_nodup_map once (List.mem_of_mem_filter ha) (List.mem_of_mem_filter mem) seq
      have inside := List.of_mem_filter ha
      have outside := List.of_mem_filter mem
      rw [← same, inside] at outside
      cases outside
    · cases hb

theorem barred_iff (s : State) (t : Track) (p : Nat) : barred s t p = true ↔
    (∃ e, tget (s.map t) p = some e ∧ (e.hostProtect = true ∨ e.keep = true)) ∨
    ∃ y ∈ s.records t, y.state ≠ .complete ∧ y.occupies p = true := by
  unfold barred SweepRecord.incomplete
  rw [Bool.or_eq_true, List.any_eq_true]
  refine or_congr ?_ (by simp)
  cases tget (s.map t) p <;> simp

/-- The window of a track in order holds the range at the start of a scan (R91). -/
theorem scanStart_fits {s : State} (sets : SetsInOrder s) (t : Track) :
    (s.track t).active.base ≤ scanStart s t ∧ scanStart s t + pageCount (s.track t).active.length ≤
      (s.track t).active.base + (s.track t).active.windowSize := by
  obtain ⟨-, -, ⟨-, pages, -⟩, -, -, -, low, -⟩ := sets t
  have room : pageCount (s.track t).active.length ≤ (s.track t).active.windowSize := by unfold pageCount; omega
  unfold scanStart
  simp only
  split <;> omega

/-- The sweeps on a range that a scan finds are complete and not kept. -/
theorem meets_found {s : State} {t : Track} {c : Nat} (keeps : KeepMarksInOrder s)
    (free : ∀ p, c ≤ p → p < c + pageCount (s.track t).active.length →
      (tget (s.map t) p).isSome ∧ barred s t p = false) :
    ∀ r ∈ s.records t, r.meets c (pageCount (s.track t).active.length) = true → r.kept = false ∧ r.state = .complete := by
  intro r mem meets
  obtain ⟨p, low, high, page⟩ := (SweepRecord.meets_iff _ _ _).mp meets
  obtain ⟨mapped, notBarred⟩ := free p low high
  obtain ⟨e, entry⟩ := Option.isSome_iff_exists.mp mapped
  obtain ⟨-, -, -, marks⟩ := keeps t
  have notBarred' := mt (barred_iff s t p).mpr (by rw [notBarred]; exact Bool.false_ne_true)
  constructor
  · by_contra kept
    exact notBarred' (.inl ⟨e, entry, .inr ((marks p e entry).mpr ⟨r, mem, by simpa using kept, page⟩)⟩)
  · by_contra incomplete
    exact notBarred' (.inr ⟨r, mem, incomplete, page⟩)

/-- Settles O28. -/
theorem placementScanWalksTheWindow : Obligations.PlacementScanWalksTheWindow := by
  rintro s t a n start hole bar sets index keeps rfl rfl rfl hhole hbar
  have hbar' : ∀ p, bar p ↔ barred s t p = true := by
    intro p
    rw [hbar, barred_iff]
    simp only [SweepRecord.occupies_iff]
    rfl
  obtain ⟨low, high⟩ := scanStart_fits sets t
  have walk : ScanWalk hole bar (s.track t).active.base (s.track t).active.windowSize
      (pageCount (s.track t).active.length) (scanStart s t) (scanStart s t) false (placementScan s t) := by
    refine scanFrom_walk hhole hbar' _ _ _ (by omega) ?_
    simp only [Bool.false_eq_true, if_false]
    omega
  refine ⟨walk, fun noRoom => walk.noRoom_covers noRoom (fun _ x sx xs => by omega) nofun, fun c found => ?_⟩
  obtain ⟨-, -, ⟨-, pages, -⟩, -, -, -, write, -⟩ := sets t
  obtain ⟨rising, -⟩ := index t
  have once : ((s.records t).map SweepRecord.seq).Nodup := (List.pairwise_map.mpr rising).imp Nat.ne_of_lt
  obtain ⟨above, below, free⟩ := placementScan_found (by unfold pageCount; omega) write found
  have occupants := meets_found keeps free
  refine ⟨above, below, fun inside retired hinside few full => ?_⟩
  have same : inside = SweepRecord.meets c (pageCount (s.track t).active.length) := by
    funext y
    rw [Bool.eq_iff_iff, hinside, SweepRecord.meets_iff]
    simp only [SweepRecord.occupies_iff]
    rfl
  have retires : retired = retiredAt c (pageCount (s.track t).active.length) (s.records t) := by
    subst same
    unfold retiredAt
    split
    · next h => exact full h
    · next h => exact (few (by omega)).trans (List.append_nil _).symm
  clear few full hinside
  subst retires
  have complete : ∀ r ∈ retiredAt c (pageCount (s.track t).active.length) (s.records t),
      r.kept = false ∧ r.state = .complete := by
    intro r hr
    obtain ⟨mem, meets | fits⟩ := mem_retiredAt hr
    · exact occupants r mem meets
    · exact fits
  have placed := placeAt_eq rfl once occupants
  obtain ⟨tracks, maps, writePos⟩ := retireAll_rest (t := t) complete s
  obtain ⟨-, -, -, -, -, -, lanes, owners, dram, -, -, averagers, ram, link, notices, -⟩ := placeAt_frame t c s
  obtain ⟨queue, ended, mem⟩ := retireAll_readout (t := t) complete (pairwise_retiredAt once) s
  refine ⟨?_, ?_, ?_, ?_, fun k ne => ⟨?_, ?_⟩, ?_, ?_, lanes, owners, averagers, ram,
    notices, dram, link, ?_⟩
  · rw [placed, (putWritePosition_reads _ _ _ _).2.2.2.1, retireAll_records complete, if_pos rfl]
    refine List.filter_congr fun y hy => congrArg _ (Bool.eq_iff_iff.mpr ?_)
    rw [List.any_eq_true, List.contains_iff_mem]
    constructor
    · rintro ⟨r, hr, seq⟩
      rwa [← List.inj_on_of_nodup_map once (mem_retiredAt hr).1 hy (by simpa using seq)]
    · exact fun own => ⟨y, own, by simp⟩
  · rw [placed, State.writePosition_putWritePosition_same]
    rfl
  · rw [placed]
    exact queue
  · rw [placed]
    exact ended
  · rw [placed, (putWritePosition_reads _ _ _ _).2.2.2.1, retireAll_records complete, if_neg ne]
  · rw [placed, State.writePosition_putWritePosition_other _ _ ne.symm]
    simp only [State.writePosition, writePos]
  · rw [placed]
    exact tracks
  · rw [placed]
    exact maps
  · rw [placed]
    exact mem

end Sys2Proof.Machine

/-!
PROOF. A sweep start up to the placement: the pending set, the sweep offset, and what a placement depends on (R48, R93).
-/

namespace Sys2Proof.Machine

/-! ## The strobes past due (R29, R30) -/

/-- When each number below one that fits fits too, as many fit as the first that does not says. -/
theorem length_filter_range {f : Nat → Bool} (falling : ∀ i j, i ≤ j → f j = true → f i = true) :
    ∀ n : Nat, ((List.range n).filter f).length ≤ n ∧
      ∀ i, i < n → (i < ((List.range n).filter f).length ↔ f i = true)
  | 0 => ⟨Nat.le_refl _, fun i h => absurd h (Nat.not_lt_zero i)⟩
  | n + 1 => by
    obtain ⟨most, below⟩ := length_filter_range falling n
    rw [List.range_succ, List.filter_append, List.length_append]
    by_cases fits : f n = true
    · have all : ((List.range n).filter f).length = n := by
        rw [List.filter_eq_self.mpr fun i hi => falling i n (Nat.le_of_lt (List.mem_range.mp hi)) fits, List.length_range]
      simp only [List.filter_cons, fits, if_true, List.filter_nil, List.length_singleton, all]
      exact ⟨Nat.le_refl _, fun i hi => ⟨fun _ => falling i n (by omega) fits, fun _ => hi⟩⟩
    · simp only [List.filter_cons, fits, if_false, List.filter_nil, List.length_nil, Nat.add_zero, Bool.false_eq_true]
      refine ⟨by omega, fun i hi => ?_⟩
      by_cases e : i = n
      · subst e
        exact ⟨fun h => by omega, fun h => absurd h fits⟩
      · exact below i (by omega)

theorem pastDueCount_spec (a : ParamSet) (estimate since : Nat) : pastDueCount a estimate since ≤ a.length ∧
    ∀ i, i < a.length → (i < pastDueCount a estimate since ↔ strobeOffset a estimate i ≤ since) := by
  have falling : ∀ i j, i ≤ j → decide (strobeOffset a estimate j ≤ since) = true →
      decide (strobeOffset a estimate i ≤ since) = true := by
    intro i j le due
    rw [decide_eq_true_eq] at due ⊢
    refine Nat.le_trans (Nat.div_le_div_right (Nat.mul_le_mul_right _ ?_)) due
    omega
  obtain ⟨most, below⟩ := length_filter_range falling a.length
  refine ⟨most, fun i hi => (below i hi).trans ?_⟩
  rw [decide_eq_true_eq]

/-! ## The state a placement starts from -/

/-- A sweep start after step 1: the pending set is active and the sweep offset taken (R48). -/
def startPoint (t : Track) (s : State) : State := takeOffset t (activatePending t s)

theorem offsetUnder_eq (a : ParamSet) (old : Int) :
    offsetUnder a old = if a.offsetMode = .manual then a.manualOffset else old := by
  unfold offsetUnder
  cases a.offsetMode <;> rfl

section
variable {t : Track} {s : State}

theorem activatePending_none (h : (s.track t).pendingSet = none) : activatePending t s = s := by
  simp only [activatePending, h]

theorem activatePending_some {p : ParamSet} (h : (s.track t).pendingSet = some p) :
    activatePending t s = activateSet t p s := by
  simp only [activatePending, h]

/-- The offset of a set just activated is taken already. -/
theorem takeOffset_activateSet (p : ParamSet) : takeOffset t (activateSet t p s) = activateSet t p s := by
  have unit : (activateSet t p s).track t = (s.track t).activate p := (activateSet_track t p s t).trans (if_pos rfl)
  have taken : ({ (s.track t).activate p with
      offsetInUse := offsetUnder ((s.track t).activate p).active ((s.track t).activate p).offsetInUse } : TrackUnit) =
      (s.track t).activate p := by
    unfold TrackUnit.activate offsetUnder
    cases p.offsetMode <;> rfl
  unfold takeOffset
  rw [unit, taken, ← unit, putTrack_self]

theorem startPoint_none (h : (s.track t).pendingSet = none) : startPoint t s = s.putTrack t
    { s.track t with offsetInUse :=
      if (s.track t).active.offsetMode = .manual then (s.track t).active.manualOffset else (s.track t).offsetInUse } := by
  unfold startPoint
  rw [activatePending_none h]
  unfold takeOffset
  rw [offsetUnder_eq]

theorem startPoint_some {p : ParamSet} (h : (s.track t).pendingSet = some p) : startPoint t s = activateSet t p s := by
  unfold startPoint
  rw [activatePending_some h, takeOffset_activateSet]

/-- What the start of a sweep leaves alone before the placement. -/
theorem startPoint_rest (t k : Track) (s : State) : (startPoint t s).index = s.index ∧ (startPoint t s).maps = s.maps ∧
    (startPoint t s).lanes = s.lanes ∧ (startPoint t s).writePos = s.writePos ∧
    (startPoint t s).notices = s.notices ∧ (startPoint t s).time = s.time ∧
    (startPoint t s).mem.banks = s.mem.banks ∧ (startPoint t s).mem.balance = s.mem.balance ∧
    (k ≠ t → (startPoint t s).track k = s.track k ∧ (startPoint t s).averager k = s.averager k) := by
  cases pending : (s.track t).pendingSet with
  | none =>
    rw [startPoint_none pending]
    exact ⟨rfl, rfl, rfl, rfl, rfl, rfl, rfl, rfl, fun ne => ⟨State.track_putTrack_other _ _ ne.symm, rfl⟩⟩
  | some p =>
    have mem : (activateSet t p s).mem.banks = s.mem.banks ∧ (activateSet t p s).mem.balance = s.mem.balance := by
      by_cases disabled : (s.averager t).region = none
      · rw [activateSet_of_disabled disabled]
        exact ⟨rfl, rfl⟩
      · by_cases length : p.length = (s.track t).active.length
        · rw [activateSet_of_sameLength length]
          simp
        · rw [activateSet_of_newLength disabled length]
          exact ⟨rfl, rfl⟩
    rw [startPoint_some pending]
    simp only [activateSet_frame, mem]
    refine ⟨trivial, trivial, trivial, trivial, trivial, trivial, trivial, trivial, fun ne => ?_⟩
    exact ⟨(activateSet_track t p s k).trans (if_neg ne), activateSet_averager_other ne⟩

end

end Sys2Proof.Machine

/-!
PROOF. What a placement reads and changes, and the opening of a sweep (R48, R50, R93, R156).
-/

namespace Sys2Proof.Machine

/-! ## What a placement reads -/

/-- Two states in which the indexes, the maps, the track units, the write positions and the reads are the same. -/
def SamePlaces (s x : State) : Prop :=
  x.index = s.index ∧ x.maps = s.maps ∧ x.tracks = s.tracks ∧ x.writePos = s.writePos ∧ x.readout = s.readout

section
variable {s x : State} {t : Track}

theorem SamePlaces.records (h : SamePlaces s x) (k : Track) : x.records k = s.records k := by
  unfold State.records
  rw [h.1]

theorem SamePlaces.map (h : SamePlaces s x) (k : Track) : x.map k = s.map k := by
  unfold State.map
  rw [h.2.1]

theorem SamePlaces.track (h : SamePlaces s x) (k : Track) : x.track k = s.track k := by
  unfold State.track
  rw [h.2.2.1]

theorem SamePlaces.writePosition (h : SamePlaces s x) (k : Track) : x.writePosition k = s.writePosition k := by
  unfold State.writePosition
  rw [h.2.2.2.1]

theorem SamePlaces.putRecords (h : SamePlaces s x) (rs : List SweepRecord) :
    SamePlaces (s.putRecords t rs) (x.putRecords t rs) :=
  ⟨congrArg (fun l : Vector (List SweepRecord) 8 => l.set t rs) h.1, h.2⟩

theorem SamePlaces.removeRecord (h : SamePlaces s x) (r : SweepRecord) :
    SamePlaces (removeRecord t r s) (removeRecord t r x) := by
  unfold Machine.removeRecord claimKeep
  rw [h.records]
  simp only
  split
  · obtain ⟨index, maps, rest⟩ := h.putRecords (t := t) ((s.records t).filter (fun y => y.seq ≠ r.seq))
    refine ⟨index, ?_, rest⟩
    rw [(putRecords_reads _ _ _ _).2.2.1, (putRecords_reads _ _ _ _).2.2.1, h.map]
    exact congrArg (fun l : Vector (Table MapEntry) 8 => l.set t _) maps
  · exact h.putRecords _

theorem SamePlaces.dropStaged (h : SamePlaces s x) (q : Nat) : SamePlaces (dropStaged t q s) (dropStaged t q x) := by
  unfold Machine.dropStaged unheedWrites
  rw [h.track]
  obtain ⟨index, maps, tracks, rest⟩ := h
  exact ⟨index, maps, congrArg (fun l : Vector TrackUnit 8 => l.set t _) tracks, rest⟩

theorem SamePlaces.retire (h : SamePlaces s x) (r : SweepRecord) : SamePlaces (retire t r s) (retire t r x) := by
  have ends {y z : State} (k : SamePlaces y z) :
      SamePlaces (overtakeSweep t r.seq y) (overtakeSweep t r.seq z) := by
    unfold overtakeSweep
    rw [endReads_eq_mapBursts, endReads_eq_mapBursts]
    obtain ⟨index, maps, tracks, writePos, readout⟩ := k
    exact ⟨index, maps, tracks, writePos, congrArg (fun q => Readout.endReads _ _ q) readout⟩
  unfold Machine.retire
  simp only
  split
  · exact ends ((h.removeRecord r).dropStaged r.seq)
  · exact ends (h.removeRecord r)

theorem SamePlaces.placeAt (h : SamePlaces s x) (c : Nat) : SamePlaces (placeAt t c s) (placeAt t c x) := by
  have all (rs : List SweepRecord) : SamePlaces (retireAll t rs s) (retireAll t rs x) := by
    unfold retireAll
    induction rs generalizing s x with
    | nil => exact h
    | cons r rs ih => exact ih (h.retire r)
  obtain ⟨y, hy, placed⟩ := placeAt_stages t c s
  obtain ⟨z, hz, placed'⟩ := placeAt_stages t c x
  rw [h.records, h.track] at hz
  have same : SamePlaces y z := by
    rw [hy, hz]
    exact all _
  rw [placed, placed', same.records, h.track]
  have room : SamePlaces
      (if 256 ≤ (y.records t).length then
        match (y.records t).find? (fun r => r.state = .complete && !r.kept) with
        | some r => Machine.retire t r y
        | none => y
      else y)
      (if 256 ≤ (y.records t).length then
        match (y.records t).find? (fun r => r.state = .complete && !r.kept) with
        | some r => Machine.retire t r z
        | none => z
      else z) := by
    split
    · split
      · exact same.retire _
      · exact same
    · exact same
  obtain ⟨index, maps, tracks, writePos, readout⟩ := room
  exact ⟨index, maps, tracks, congrArg (fun l : Vector Nat 8 => l.set t _) writePos, readout⟩

/-- The scan reads the map, the records, the active set and the write position of its track. -/
theorem placementScan_congr (map : x.map t = s.map t) (records : x.records t = s.records t)
    (active : (x.track t).active = (s.track t).active) (writePosition : x.writePosition t = s.writePosition t) :
    placementScan x t = placementScan s t := by
  have start : scanStart x t = scanStart s t := by
    unfold scanStart
    rw [active, writePosition]
  have barred' (p : Nat) : barred x t p = barred s t p := by
    unfold barred
    rw [map, records]
  have scan (base w n start : Nat) : ∀ (fuel c : Nat) (wrapped : Bool),
      scanFrom x t base w n start fuel c wrapped = scanFrom s t base w n start fuel c wrapped := by
    intro fuel
    induction fuel with
    | zero => exact fun _ _ => rfl
    | succ fuel ih =>
      intro c wrapped
      unfold scanFrom
      rw [map, ih]
      simp only [barred', ih]
  unfold placementScan
  rw [active, start]
  exact scan _ _ _ _ _ _ _

end

/-! ## What a placement changes -/

/-- A property that retirement and the new write position keep holds after a placement. -/
theorem placeAt_kept {p : State → Prop} {t : Track} {c : Nat} {s : State} (retires : ∀ {x} r, p x → p (retire t r x))
    (position : ∀ {x} v, p x → p (x.putWritePosition t v)) (k : p s) : p (placeAt t c s) := by
  obtain ⟨y, hy, placed⟩ := placeAt_stages t c s
  have all : p y := by
    rw [hy]
    exact kept_foldl (fun s r => retire t r s) (fun r => retires r) _ k
  rw [placed]
  refine position _ ?_
  split
  · split
    · exact retires _ all
    · exact all
  · exact all

/-- A retired record's track unit loses at most its staging. -/
theorem retire_track (t k : Track) (r : SweepRecord) (s : State) : (retire t r s).track k =
    if k = t ∧ r.state = .draining then (s.track t).dropSweep r.seq else s.track k := by
  have last (x : State) : (overtakeSweep t r.seq x).track k = x.track k := by
    unfold overtakeSweep
    rw [endReads_eq]
    rfl
  unfold retire
  simp only
  rw [last]
  split
  · next draining =>
    have drop : (dropStaged t r.seq (removeRecord t r s)).track k =
        if k = t then (((removeRecord t r s).track t).dropSweep r.seq) else (removeRecord t r s).track k :=
      State.track_putTrack _ _ _ _
    rw [drop]
    simp only [State.track, removeRecord_frame, draining, and_true]
  · next still =>
    rw [if_neg fun h => still h.2]
    simp only [State.track, removeRecord_frame]

theorem retire_mem (t : Track) (r : SweepRecord) (s : State) :
    (retire t r s).mem.banks = s.mem.banks ∧ (retire t r s).mem.balance = s.mem.balance := by
  have last (x : State) : (overtakeSweep t r.seq x).mem.banks = x.mem.banks ∧
      (overtakeSweep t r.seq x).mem.balance = x.mem.balance := by
    unfold overtakeSweep
    rw [endReads_eq]
    exact ⟨rfl, rfl⟩
  unfold retire
  simp only
  rw [(last _).1, (last _).2]
  split
  · have drop : (dropStaged t r.seq (removeRecord t r s)).mem.banks = (removeRecord t r s).mem.banks ∧
        (dropStaged t r.seq (removeRecord t r s)).mem.balance = (removeRecord t r s).mem.balance := ⟨rfl, rfl⟩
    rw [drop.1, drop.2]
    simp
  · simp

/-- The track units after a placement: the staging of retired sweeps is dropped, and nothing else changes. -/
theorem placeAt_track (t k : Track) (c : Nat) (s : State) : ∃ fifo cursor,
    (placeAt t c s).track k = if k = t then { s.track t with fifo := fifo, cursor := cursor } else s.track k := by
  refine placeAt_kept (p := fun x => ∃ fifo cursor,
    x.track k = if k = t then { s.track t with fifo := fifo, cursor := cursor } else s.track k)
    (fun r ⟨fifo, cursor, h⟩ => ?_) (fun _ h => h) ⟨(s.track t).fifo, (s.track t).cursor, ?_⟩
  · rw [retire_track]
    by_cases e : k = t
    · subst e
      rw [if_pos rfl] at h
      simp only [true_and, if_true]
      split
      · rw [h, TrackUnit.dropSweep_eq]
        exact ⟨_, _, rfl⟩
      · rw [h]
        exact ⟨_, _, rfl⟩
    · simp only [e, false_and, if_false] at h ⊢
      exact ⟨[], none, h⟩
  · split
    · next e => rw [e]
    · rfl

theorem placeAt_mem (t : Track) (c : Nat) (s : State) :
    (placeAt t c s).mem.banks = s.mem.banks ∧ (placeAt t c s).mem.balance = s.mem.balance :=
  placeAt_kept (p := fun x => x.mem.banks = s.mem.banks ∧ x.mem.balance = s.mem.balance)
    (fun r h => by rw [(retire_mem t r _).1, (retire_mem t r _).2]; exact h) (fun _ h => h) ⟨rfl, rfl⟩

theorem placeAt_writePosition_other {t k : Track} (c : Nat) (s : State) (ne : k ≠ t) :
    (placeAt t c s).writePosition k = s.writePosition k :=
  placeAt_kept (p := fun x => x.writePosition k = s.writePosition k)
    (fun r h => by
      have kept (x : State) : (retire t r x).writePosition k = x.writePosition k := by
        simp only [State.writePosition, retire_frame]
      exact (kept _).trans h)
    (fun v h => (State.writePosition_putWritePosition_other _ _ ne.symm).trans h) rfl

end Sys2Proof.Machine

/-!
PROOF. A sweep start opens a FILLING record and its schedule, or halts (R48 to R50).
-/

namespace Sys2Proof.Machine

/-! ## The new sweep -/

/-- The schedule of a new sweep with its catch-up run begun (R29, R30). -/
def newSchedule (t0 : Time) (estimate late : Nat) : Schedule :=
  { t0 := t0, estimate := estimate, pastDue := late, next := min 1 late }

theorem makeSchedule_eq (t : Track) (t0 : Time) (estimate : Nat) (s : State) (late : Nat)
    (free : (s.lane t).flag = none)
    (hlate : late = pastDueCount (s.track t).active estimate (elapsed t0 s.time)) :
    makeSchedule t t0 estimate s =
      putFlag t (if late = 0 then none else some 0) (putSchedule t (some (newSchedule t0 estimate late)) s) := by
  have scheduled : ((putSchedule t (some { t0 := t0, estimate := estimate, pastDue := late, next := 0 }) s).track t).schedule =
      some { t0 := t0, estimate := estimate, pastDue := late, next := 0 } := by
    rw [putSchedule_track, if_pos rfl]
  have begun : makeSchedule t t0 estimate s = issueCatchUp t
      (putSchedule t (some { t0 := t0, estimate := estimate, pastDue := late, next := 0 }) s) := by
    rw [hlate]
    rfl
  rw [begun]
  by_cases none : late = 0
  · subst none
    rw [issueCatchUp_done _ _ (fun sch e => by rw [scheduled] at e; cases e; exact Nat.le_refl _), if_pos rfl]
    unfold putFlag
    rw [← free]
    exact (putLane_self _ _).symm
  · rw [issueCatchUp_next _ _ scheduled (by show 0 < late; omega) free, if_neg none]
    have next : min 1 late = 0 + 1 := by omega
    unfold putSchedule newSchedule
    rw [State.track_putTrack_same, putTrack_putTrack, next]

section
variable (t k : Track) (ev : MarkerEvent) (c : Nat) (s : State)

/-- The state with the new record, before its schedule (R50, R156). -/
def openedSweep (t : Track) (ev : MarkerEvent) (c : Nat) (s : State) : State :=
  (averagerSweepStart t (s.track t).seqCounter ev.synthetic (openRecord t ev c s)).putLane t Lane.reset

theorem openSweep_eq : openSweep t ev c s = makeSchedule t ev.time ev.estimate (openedSweep t ev c s) := rfl

theorem openedSweep_track : (openedSweep t ev c s).track k =
    if k = t then { (s.track t).takeSequence with state := .sweeping } else s.track k := by
  rw [← State.track_putTrack]
  rfl

theorem openedSweep_records : (openedSweep t ev c s).records k =
    if k = t then s.records t ++ [newRecord (s.track t) ev c] else s.records k :=
  State.records_putRecords _ _ _ _

theorem openedSweep_averager : (openedSweep t ev c s).averager k =
    if k = t then
      { s.averager t with
        current :=
          if (s.averager t).region ≠ none ∧ (s.averager t).publication = none ∧
            (ev.synthetic = false ∨ (s.averager t).includeCoasted = true) then some (s.track t).seqCounter else none }
    else s.averager k := by
  have started := State.averager_putAverager (openRecord t ev c s) t k
    { s.averager t with
      current :=
        if (s.averager t).region.isSome && (s.averager t).publication.isNone &&
          (!ev.synthetic || (s.averager t).includeCoasted) then some (s.track t).seqCounter else none }
  refine Eq.trans started ?_
  have qualifies : ((s.averager t).region.isSome && (s.averager t).publication.isNone &&
      (!ev.synthetic || (s.averager t).includeCoasted)) = true ↔
      (s.averager t).region ≠ none ∧ (s.averager t).publication = none ∧
        (ev.synthetic = false ∨ (s.averager t).includeCoasted = true) := by
    rw [Bool.and_eq_true, Bool.and_eq_true, Bool.or_eq_true, Option.isSome_iff_ne_none, Option.isNone_iff_eq_none,
      and_assoc, Bool.not_eq_true']
  simp only [qualifies]
  rfl

/-- The new sweep and its schedule, with as many strobes past due as `late` says. -/
theorem openSweep_spec {late : Nat}
    (hlate : late = pastDueCount (s.track t).active ev.estimate (elapsed ev.time s.time)) :
    openSweep t ev c s = putFlag t (if late = 0 then none else some 0)
      (putSchedule t (some (newSchedule ev.time ev.estimate late)) (openedSweep t ev c s)) := by
  rw [openSweep_eq]
  refine makeSchedule_eq t ev.time ev.estimate _ late (congrArg Lane.flag (State.lane_putLane_same _ _ _)) ?_
  rw [openedSweep_track, if_pos rfl, hlate]
  have active : ({ (s.track t).takeSequence with state := .sweeping } : TrackUnit).active = (s.track t).active :=
    TrackUnit.active_takeSequence _
  have time : (openedSweep t ev c s).time = s.time := by
    unfold openedSweep openRecord
    simp
  rw [active, time]

end

theorem haltTrack_eq (t : Track) (reason : HaltReason) (s : State) : haltTrack t reason s =
    post (Source.trackStopped t) (.trackStopped (.halted reason) (s.track t).sweepsDone (s.track t).seqCounter)
      (s.putTrack t { s.track t with state := .halted reason, selected := none }) := by
  unfold haltTrack postStopped unbind
  rw [State.track_putTrack_same]

end Sys2Proof.Machine

/-!
PROOF. A sweep start as a whole: the state after its first step, its halts and its new record (R48 to R50).
-/

namespace Sys2Proof.Machine

section
variable (t k : Track) (ev : MarkerEvent) (s : State)

/-- A sweep start after its first step. -/
theorem continueStart_from : continueStart t ev s =
    if ((startPoint t s).track t).spent then haltTrack t .sequenceExhausted (startPoint t s)
    else
      match placementScan (startPoint t s) t with
      | .mapHole => haltTrack t .mapHole (startPoint t s)
      | .noRoom => haltTrack t .noRoom (startPoint t s)
      | .found c => openSweep t ev c (placeAt t c (startPoint t s)) := rfl

/-- A sweep start halts, or opens a sweep on the pages found. -/
theorem continueStart_cases : (∃ reason, continueStart t ev s = haltTrack t reason (startPoint t s)) ∨
    ∃ c, continueStart t ev s = openSweep t ev c (placeAt t c (startPoint t s)) := by
  rw [continueStart_from]
  split
  · exact .inl ⟨_, rfl⟩
  · split
    · exact .inl ⟨_, rfl⟩
    · exact .inl ⟨_, rfl⟩
    · exact .inr ⟨_, rfl⟩

/-- A sweep start leaves the other tracks alone. -/
theorem continueStart_other (ne : k ≠ t) :
    (continueStart t ev s).records k = s.records k ∧ (continueStart t ev s).track k = s.track k ∧
    (continueStart t ev s).lane k = s.lane k ∧ (continueStart t ev s).map k = s.map k ∧
    (continueStart t ev s).writePosition k = s.writePosition k ∧
    (continueStart t ev s).averager k = s.averager k := by
  obtain ⟨index, maps, lanes, writePos, -, -, -, -, others⟩ := startPoint_rest t k s
  obtain ⟨track, averager⟩ := others ne
  rcases continueStart_cases t ev s with ⟨reason, halted⟩ | ⟨c, opened⟩
  · rw [halted, haltTrack_eq]
    refine ⟨?_, (State.track_putTrack_other _ _ ne.symm).trans track, ?_, ?_, ?_, averager⟩
    · exact congrArg (fun l : Vector (List SweepRecord) 8 => l[k]) index
    · exact congrArg (fun l : Vector Lane 8 => l[k]) lanes
    · exact congrArg (fun l : Vector (Table MapEntry) 8 => l[k]) maps
    · exact congrArg (fun l : Vector Nat 8 => l[k]) writePos
  · have placed := placeAt_index (t := t) (k := k) (s := startPoint t s) c
    rw [if_neg ne] at placed
    obtain ⟨fifo, cursor, unit⟩ := placeAt_track t k c (startPoint t s)
    rw [if_neg ne] at unit
    rw [opened]
    refine ⟨?_, ?_, ?_, ?_, ?_, ?_⟩
    · rw [openSweep_spec t ev c _ rfl, (putFlag_reads _ _ _ _).2.1, (putSchedule_reads _ _ _ _).2.1, openedSweep_records,
        if_neg ne]
      exact (congrArg TrackIndex.records placed).trans (congrArg (fun l : Vector (List SweepRecord) 8 => l[k]) index)
    · rw [openSweep_spec t ev c _ rfl, (putFlag_reads _ _ _ _).1, putSchedule_track, if_neg ne, openedSweep_track,
        if_neg ne, unit, track]
    · rw [openSweep_spec t ev c _ rfl, putFlag_lane, if_neg ne, (putSchedule_reads _ _ _ _).1]
      refine (State.lane_putLane_other _ _ ne.symm).trans ?_
      have started (x : State) : (averagerSweepStart t ((placeAt t c (startPoint t s)).track t).seqCounter ev.synthetic
          (openRecord t ev c x)).lanes = x.lanes := by simp only [averagerSweepStart_frame]; rfl
      exact congrArg (fun l : Vector Lane 8 => l[k])
        ((started _).trans ((show (placeAt t c (startPoint t s)).lanes = _ by simp only [placeAt_frame]).trans lanes))
    · have maps' : (openSweep t ev c (placeAt t c (startPoint t s))).map k = (placeAt t c (startPoint t s)).map k := by
        simp only [State.map, openSweep_frame]
      rw [maps']
      exact (congrArg TrackIndex.map placed).trans (congrArg (fun l : Vector (Table MapEntry) 8 => l[k]) maps)
    · have kept : (openSweep t ev c (placeAt t c (startPoint t s))).writePosition k =
          (placeAt t c (startPoint t s)).writePosition k := by
        simp only [State.writePosition, openSweep_frame]
      rw [kept, placeAt_writePosition_other c _ ne]
      exact congrArg (fun l : Vector Nat 8 => l[k]) writePos
    · rw [openSweep_spec t ev c _ rfl, (putFlag_reads _ _ _ _).2.2.1, (putSchedule_reads _ _ _ _).2.2.1,
        openedSweep_averager, if_neg ne, ← averager]
      simp only [State.averager, placeAt_frame]

theorem continueStart_mem : (continueStart t ev s).mem.banks = s.mem.banks ∧
    (continueStart t ev s).mem.balance = s.mem.balance := by
  obtain ⟨-, -, -, -, -, -, banks, balance, -⟩ := startPoint_rest t t s
  rcases continueStart_cases t ev s with ⟨reason, halted⟩ | ⟨c, opened⟩
  · simp only [halted, haltTrack_frame, banks, balance, and_self]
  · simp only [opened, openSweep_frame, placeAt_mem, banks, balance, and_self]

theorem continueStart_averagerRam : (continueStart t ev s).averagerRam = (startPoint t s).averagerRam := by
  rcases continueStart_cases t ev s with ⟨reason, halted⟩ | ⟨c, opened⟩
  · simp only [halted, haltTrack_frame]
  · simp only [opened, openSweep_frame, placeAt_frame]

end

/-! ## The first step of a sweep start (R48) -/

section
variable {t : Track} {s : State} {u' : TrackUnit} {a' : Averager} {reads : Readout}

/-- A sweep start's first step, with the track unit, the averager and the reads it ends with. -/
def StartsAs (t : Track) (s : State) (u' : TrackUnit) (a' : Averager) (reads : Readout) : Prop :=
  (startPoint t s).track t = u' ∧ (startPoint t s).averager t = a' ∧ (startPoint t s).readout = reads

theorem startsAs_none (h : (s.track t).pendingSet = none)
    (unit : u' = { s.track t with
      offsetInUse :=
        if (s.track t).active.offsetMode = .manual then (s.track t).active.manualOffset else (s.track t).offsetInUse }) :
    StartsAs t s u' (s.averager t) s.readout := by
  unfold StartsAs
  rw [startPoint_none h, unit]
  exact ⟨State.track_putTrack_same _ _ _, rfl, rfl⟩

theorem startsAs_disabled {p : ParamSet} (h : (s.track t).pendingSet = some p) (disabled : (s.averager t).region = none) :
    StartsAs t s ((s.track t).activate p) (s.averager t) s.readout := by
  unfold StartsAs
  rw [startPoint_some h, activateSet_of_disabled disabled]
  exact ⟨State.track_putTrack_same _ _ _, rfl, rfl⟩

theorem startsAs_sameLength {p : ParamSet} (h : (s.track t).pendingSet = some p) (enabled : (s.averager t).region ≠ none)
    (length : p.length = (s.track t).active.length) :
    StartsAs t s ((s.track t).activate p) (s.averager t).restart s.readout := by
  obtain ⟨g, region⟩ := Option.ne_none_iff_exists'.mp enabled
  unfold StartsAs
  rw [startPoint_some h, activateSet_track, if_pos rfl, activateSet_readout (Or.inr length), activateSet_of_sameLength length,
    restartBlock_only (s := s.putTrack t _) (g := g) region]
  exact ⟨rfl, State.averager_putAverager_same _ _ _, rfl⟩

theorem startsAs_newLength {p : ParamSet} (h : (s.track t).pendingSet = some p) (enabled : (s.averager t).region ≠ none)
    (length : p.length ≠ (s.track t).active.length) :
    StartsAs t s ((s.track t).activate p) ((s.averager t).disable .length)
      { queue := s.readout.queue.filter (fun y => !(y.ofMean t)),
        ended := s.readout.ended ++ (s.readout.queue.filter (fun y => y.ofMean t)).map Read.meanOvertaken } := by
  unfold StartsAs
  rw [startPoint_some h, activateSet_track, if_pos rfl, activateSet_of_newLength enabled length]
  exact ⟨rfl, replaceAverager_averager_same _ _ _, congrArg (Readout.mk _) (replaceAverager_ended t ((s.averager t).disable .length) s)⟩

/-- What the first step leaves alone in the track unit. -/
theorem StartsAs.kept (h : StartsAs t s u' a' reads) : u'.spent = (s.track t).spent ∧
    u'.seqCounter = (s.track t).seqCounter ∧ u'.sweepsDone = (s.track t).sweepsDone ∧
    u'.prevMarker = (s.track t).prevMarker := by
  obtain ⟨unit, -, -⟩ := h
  cases pending : (s.track t).pendingSet with
  | none =>
    rw [startPoint_none pending, State.track_putTrack_same] at unit
    rw [← unit]
    exact ⟨rfl, rfl, rfl, rfl⟩
  | some p =>
    rw [startPoint_some pending, activateSet_track, if_pos rfl] at unit
    rw [← unit, TrackUnit.activate_eq]
    exact ⟨rfl, rfl, rfl, rfl⟩

theorem StartsAs.tracks (h : StartsAs t s u' a' reads) : (startPoint t s).tracks = (s.putTrack t u').tracks := by
  refine Vector.ext fun i hi => ?_
  have each (k : Track) : (startPoint t s).track k = (s.putTrack t u').track k := by
    rw [State.track_putTrack]
    split
    · next e => rw [e, h.1]
    · next ne => exact ((startPoint_rest t k s).2.2.2.2.2.2.2.2 ne).1
  exact each ⟨i, hi⟩

theorem StartsAs.samePlaces (h : StartsAs t s u' a' reads) :
    SamePlaces (startPoint t s) ((s.putTrack t u').setReadout reads) := by
  obtain ⟨index, maps, -, writePos, -⟩ := startPoint_rest t t s
  exact ⟨index.symm, maps.symm, h.tracks.symm, writePos.symm, h.2.2.symm⟩

theorem StartsAs.scan (h : StartsAs t s u' a' reads) :
    placementScan (startPoint t s) t = placementScan (s.putTrack t u') t := by
  refine (placementScan_congr ?_ ?_ ?_ ?_).symm
  · exact (h.samePlaces.map t :)
  · exact (h.samePlaces.records t :)
  · exact congrArg TrackUnit.active (h.samePlaces.track t :)
  · exact (h.samePlaces.writePosition t :)

/-! ## Halts (R49) -/

theorem StartsAs.halts (h : StartsAs t s u' a' reads) (ev : MarkerEvent) {why : HaltReason}
    (cause : (s.track t).spent = true ∧ why = .sequenceExhausted ∨
      (s.track t).spent = false ∧
        (placementScan (s.putTrack t u') t = .mapHole ∧ why = .mapHole ∨
          placementScan (s.putTrack t u') t = .noRoom ∧ why = .noRoom)) :
    continueStart t ev s = haltTrack t why (startPoint t s) := by
  have spent : ((startPoint t s).track t).spent = (s.track t).spent := by rw [h.1, h.kept.1]
  rw [continueStart_from]
  rcases cause with ⟨exhausted, rfl⟩ | ⟨unspent, ⟨found, rfl⟩ | ⟨found, rfl⟩⟩
  · exact if_pos (spent.trans exhausted)
  · refine (if_neg (Bool.eq_false_iff.mp (spent.trans unspent))).trans ?_
    rw [h.scan.trans found]
  · refine (if_neg (Bool.eq_false_iff.mp (spent.trans unspent))).trans ?_
    rw [h.scan.trans found]

theorem StartsAs.opens (h : StartsAs t s u' a' reads) (ev : MarkerEvent) {c : Nat} (unspent : (s.track t).spent = false)
    (found : placementScan (s.putTrack t u') t = .found c) :
    continueStart t ev s = openSweep t ev c (placeAt t c (startPoint t s)) := by
  have spent : ((startPoint t s).track t).spent = (s.track t).spent := by rw [h.1, h.kept.1]
  rw [continueStart_from]
  refine (if_neg (Bool.eq_false_iff.mp (spent.trans unspent))).trans ?_
  rw [h.scan.trans found]

end

end Sys2Proof.Machine

/-!
PROOF. A sweep start opens a FILLING record and its schedule, or halts (R48 to R50, R93, R156).
-/

namespace Sys2Proof.Machine

theorem TrackUnit.takeSequence_eq (u : TrackUnit) (unspent : u.spent = false) : u.takeSequence =
    { u with
      seqCounter := if u.seqCounter < 4294967295 then u.seqCounter + 1 else u.seqCounter,
      spent := decide (4294967295 ≤ u.seqCounter) } := by
  unfold TrackUnit.takeSequence
  by_cases room : u.seqCounter < 4294967295
  · rw [if_pos (show u.seqCounter < 2 ^ 32 - 1 from room), if_pos room, decide_eq_false (Nat.not_le.mpr room), ← unspent]
  · rw [if_neg (show ¬ u.seqCounter < 2 ^ 32 - 1 from room), if_neg room, decide_eq_true (Nat.not_lt.mp room)]

section
variable {t : Track} {s : State} {u' : TrackUnit} {a' : Averager} {reads : Readout}

/-- The new sweep, read off the placed state y (R50). -/
theorem StartsAs.opened (h : StartsAs t s u' a' reads) (ev : MarkerEvent) {c late : Nat} {y : State}
    (unspent : (s.track t).spent = false) (found : placementScan (s.putTrack t u') t = .found c)
    (placed : y = placeAt t c ((s.putTrack t u').setReadout reads))
    (hlate : late = pastDueCount u'.active ev.estimate (elapsed ev.time s.time)) :
    (continueStart t ev s).records t = y.records t ++ [newRecord u' ev c] ∧
    (continueStart t ev s).track t =
      { y.track t with
        state := .sweeping,
        seqCounter := if u'.seqCounter < 4294967295 then u'.seqCounter + 1 else u'.seqCounter,
        spent := decide (4294967295 ≤ u'.seqCounter),
        schedule := some (newSchedule ev.time ev.estimate late) } ∧
    (continueStart t ev s).lane t =
      { flag := if late = 0 then none else some 0, baseSum := 0, baseCount := 0 } ∧
    (continueStart t ev s).averager t =
      { a' with
        current :=
          if a'.region ≠ none ∧ a'.publication = none ∧ (ev.synthetic = false ∨ a'.includeCoasted = true) then
            some u'.seqCounter
          else none } ∧
    (continueStart t ev s).readout = y.readout ∧ (continueStart t ev s).map t = y.map t ∧
    (continueStart t ev s).writePosition t = y.writePosition t ∧ (continueStart t ev s).notices = s.notices := by
  obtain ⟨-, -, -, -, notices, time, -⟩ := startPoint_rest t t s
  have same : SamePlaces y (placeAt t c (startPoint t s)) := by
    have converse : SamePlaces ((s.putTrack t u').setReadout reads) (startPoint t s) := by
      obtain ⟨index, maps, tracks, writePos, readout⟩ := h.samePlaces
      exact ⟨index.symm, maps.symm, tracks.symm, writePos.symm, readout.symm⟩
    rw [placed]
    exact converse.placeAt c
  rw [h.opens ev unspent found]
  obtain ⟨fifo, cursor, unit⟩ := placeAt_track t t c (startPoint t s)
  rw [if_pos rfl, h.1] at unit
  have averager : (placeAt t c (startPoint t s)).averager t = a' := by
    simp only [State.averager, placeAt_frame]
    exact h.2.1
  have due : late = pastDueCount ((placeAt t c (startPoint t s)).track t).active ev.estimate
      (elapsed ev.time (placeAt t c (startPoint t s)).time) := by
    rw [unit, (placeAt_frame t c _).1, time]
    exact hlate
  have fields : (placeAt t c (startPoint t s)).track t = y.track t := same.track t
  have record : newRecord ((placeAt t c (startPoint t s)).track t) ev c = newRecord u' ev c := by rw [unit]; rfl
  have counter : ((placeAt t c (startPoint t s)).track t).seqCounter = u'.seqCounter := by rw [unit]
  have fresh : ((placeAt t c (startPoint t s)).track t).spent = false := by
    rw [unit]
    exact h.kept.1.trans unspent
  refine ⟨?_, ?_, ?_, ?_, ?_, ?_, ?_, ?_⟩
  · rw [openSweep_spec t ev c _ due, (putFlag_reads _ _ _ _).2.1, (putSchedule_reads _ _ _ _).2.1, openedSweep_records,
      if_pos rfl, record, same.records t]
  · rw [openSweep_spec t ev c _ due, (putFlag_reads _ _ _ _).1, putSchedule_track, if_pos rfl, openedSweep_track,
      if_pos rfl, TrackUnit.takeSequence_eq _ fresh, counter, fields]
  · rw [openSweep_spec t ev c _ due, putFlag_lane, if_pos rfl, (putSchedule_reads _ _ _ _).1]
    exact congrArg (fun l : Lane => { l with flag := if late = 0 then none else some 0 }) (State.lane_putLane_same _ _ _)
  · rw [openSweep_spec t ev c _ due, (putFlag_reads _ _ _ _).2.2.1, (putSchedule_reads _ _ _ _).2.2.1,
      openedSweep_averager, if_pos rfl, averager, counter]
  · simp only [openSweep_frame, same.2.2.2.2]
  · refine Eq.trans ?_ (same.map t)
    simp only [State.map, openSweep_frame]
  · refine Eq.trans ?_ (same.writePosition t)
    simp only [State.writePosition, openSweep_frame]
  · simp only [openSweep_frame, placeAt_frame, notices]

/-- A sweep start that halts (R49). -/
theorem StartsAs.halted (h : StartsAs t s u' a' reads) (ev : MarkerEvent) {why : HaltReason}
    (cause : (s.track t).spent = true ∧ why = .sequenceExhausted ∨
      (s.track t).spent = false ∧
        (placementScan (s.putTrack t u') t = .mapHole ∧ why = .mapHole ∨
          placementScan (s.putTrack t u') t = .noRoom ∧ why = .noRoom)) :
    (continueStart t ev s).track t = { u' with state := .halted why, selected := none } ∧
    (continueStart t ev s).averager t = a' ∧ (continueStart t ev s).readout = reads ∧
    (continueStart t ev s).notices = s.notices.post (Source.trackStopped t)
      (.trackStopped (.halted why) (s.track t).sweepsDone (s.track t).seqCounter) ∧
    (continueStart t ev s).index = s.index ∧ (continueStart t ev s).lanes = s.lanes ∧
    (continueStart t ev s).maps = s.maps ∧ (continueStart t ev s).writePos = s.writePos := by
  obtain ⟨index, maps, lanes, writePos, notices, -⟩ := startPoint_rest t t s
  obtain ⟨-, counter, swept, -⟩ := h.kept
  rw [h.halts ev cause, haltTrack_eq, h.1]
  refine ⟨State.track_putTrack_same _ _ _, h.2.1, h.2.2, ?_, index, lanes, maps, writePos⟩
  rw [← counter, ← swept, ← notices]
  rfl

end

/-- Settles O29. -/
theorem sweepStartOpensRecord : Obligations.SweepStartOpensRecord := by
  rintro ev t s u u' a a' reads rfl rfl idle pending
  have starts : StartsAs t s u' a' reads := by
    cases set : (s.track t).pendingSet with
    | none =>
      obtain ⟨unit, rfl, rfl⟩ := idle set
      exact startsAs_none set unit
    | some p =>
      obtain ⟨unit, disabled, still, sameLength, newLength⟩ := pending p set
      rw [← TrackUnit.activate_eq] at unit
      rw [unit]
      by_cases region : (s.averager t).region = none
      · rw [disabled region, still (.inl region)]
        exact startsAs_disabled set region
      · by_cases length : p.length = (s.track t).active.length
        · rw [sameLength region length, still (.inr length)]
          exact startsAs_sameLength set region length
        · obtain ⟨averager, ended⟩ := newLength region length
          rw [averager, ended]
          exact startsAs_newLength set region length
  obtain ⟨unspent, counter, swept, previous⟩ := starts.kept
  refine ⟨fun why cause => starts.halted ev cause, fun c y unspent found placed => ?_, ?_, ?_, fun k ne => ?_, ?_⟩
  · obtain ⟨records, track, rest⟩ := starts.opened ev unspent found placed rfl
    obtain ⟨most, due⟩ := pastDueCount_spec u'.active ev.estimate (elapsed ev.time s.time)
    rw [counter] at track rest
    refine ⟨_, most, due, ?_, track, rest⟩
    rw [records]
    unfold newRecord
    rw [counter, previous]
    rfl
  · intro g p region set length w
    have ram : (continueStart t ev s).ramWord w = (startPoint t s).ramWord w := by
      unfold State.ramWord
      rw [continueStart_averagerRam, startPoint_some set]
      simp only [continueStart_frame, activateSet_frame]
    rw [ram, startPoint_some set, activateSet_of_sameLength length]
    exact restartBlock_ramWord (s := s.putTrack t _) region w
  · intro kept
    rw [continueStart_averagerRam]
    cases set : (s.track t).pendingSet with
    | none => rw [startPoint_none set]; rfl
    | some p =>
      rw [startPoint_some set]
      refine activateSet_averagerRam (kept.imp_right fun still => ?_)
      rcases still with none | ⟨q, same, length⟩
      · rw [set] at none; cases none
      · rw [set] at same; cases same; exact length
  · exact continueStart_other t k ev s ne
  · simp only [continueStart_frame, continueStart_mem, and_self]

end Sys2Proof.Machine

/-!
PROOF. Acts of one track: they read that track alone, and change what is read of no other (log 4).
-/

namespace Sys2Proof.Machine

/-! ## What an act of a track may read -/

/-- What an act of a track reads: its own registers, the time and the marker units. -/
structure TrackView where
  time : Time
  markerA : MarkerUnit
  markerB : MarkerUnit
  unit : TrackUnit
  lane : Lane
  records : List SweepRecord
  map : Table MapEntry
  writePosition : Nat
  averager : Averager

def State.view (s : State) (t : Track) : TrackView :=
  { time := s.time, markerA := s.markerA, markerB := s.markerB, unit := s.track t, lane := s.lane t,
    records := s.records t, map := s.map t, writePosition := s.writePosition t, averager := s.averager t }

/-- An act of a track reads that track alone, and changes no other. -/
structure Local (t : Track) (f : State → State) : Prop where
  own : ∀ {s x : State}, s.view t = x.view t → (f s).view t = (f x).view t
  other : ∀ (s : State) (k : Track), k ≠ t → (f s).view k = s.view k

section
variable {t : Track} {f g : State → State}

theorem Local.id : Local t (fun s => s) := ⟨fun h => h, fun _ _ _ => rfl⟩

theorem Local.comp (hf : Local t f) (hg : Local t g) : Local t (fun s => g (f s)) :=
  ⟨fun h => hg.own (hf.own h), fun s k ne => (hg.other _ k ne).trans (hf.other s k ne)⟩

/-- An act may depend on what it reads of its track. -/
theorem Local.read {F : TrackView → State → State} (h : ∀ v, Local t (F v)) : Local t (fun s => F (s.view t) s) :=
  ⟨fun {s x} e => by simp only [e]; exact (h _).own e, fun s k ne => (h _).other s k ne⟩

theorem Local.cond {c : Prop} [Decidable c] (hf : Local t f) (hg : Local t g) :
    Local t (fun s => if c then f s else g s) := by
  split
  · exact hf
  · exact hg

theorem Local.foldl {α : Type} {F : α → State → State} (h : ∀ a, Local t (F a)) :
    ∀ l : List α, Local t (fun s => l.foldl (fun s a => F a s) s)
  | [] => Local.id
  | a :: l => (h a).comp (Local.foldl h l)

/-- An act on no register that a track reads. -/
theorem Local.unseen (h : ∀ s k, (f s).view k = s.view k) : Local t f :=
  ⟨fun e => (h _ _).trans (e.trans (h _ _).symm), fun s k _ => h s k⟩

end

section
variable {t : Track} {s : State} {k : Track}

theorem Local.putTrack (v : TrackUnit) : Local t (fun s => s.putTrack t v) := by
  refine ⟨fun {s x} h => ?_, fun s k ne => ?_⟩
  · have put (s : State) : (s.putTrack t v).view t = { s.view t with unit := v } := by
      unfold State.view
      rw [State.track_putTrack_same]
      rfl
    rw [put, put, h]
  · unfold State.view
    rw [State.track_putTrack_other _ _ (Ne.symm ne)]
    rfl

theorem Local.putLane (v : Lane) : Local t (fun s => s.putLane t v) := by
  refine ⟨fun {s x} h => ?_, fun s k ne => ?_⟩
  · have put (s : State) : (s.putLane t v).view t = { s.view t with lane := v } := by
      unfold State.view
      rw [State.lane_putLane_same]
      rfl
    rw [put, put, h]
  · unfold State.view
    rw [State.lane_putLane_other _ _ (Ne.symm ne)]
    rfl

theorem Local.putRecords (v : List SweepRecord) : Local t (fun s => s.putRecords t v) := by
  refine ⟨fun {s x} h => ?_, fun s k ne => ?_⟩
  · have put (s : State) : (s.putRecords t v).view t = { s.view t with records := v } := by
      unfold State.view
      rw [State.records_putRecords_same]
      rfl
    rw [put, put, h]
  · unfold State.view
    rw [State.records_putRecords_other _ _ (Ne.symm ne)]
    rfl

theorem Local.putMap (v : Table MapEntry) : Local t (fun s => s.putMap t v) := by
  refine ⟨fun {s x} h => ?_, fun s k ne => ?_⟩
  · have put (s : State) : (s.putMap t v).view t = { s.view t with map := v } := by
      unfold State.view
      rw [State.map_putMap_same]
      rfl
    rw [put, put, h]
  · unfold State.view
    rw [State.map_putMap_other _ _ (Ne.symm ne)]
    rfl

theorem Local.putWritePosition (v : Nat) : Local t (fun s => s.putWritePosition t v) := by
  refine ⟨fun {s x} h => ?_, fun s k ne => ?_⟩
  · have put (s : State) : (s.putWritePosition t v).view t = { s.view t with writePosition := v } := by
      unfold State.view
      rw [State.writePosition_putWritePosition_same]
      rfl
    rw [put, put, h]
  · unfold State.view
    rw [State.writePosition_putWritePosition_other _ _ (Ne.symm ne)]
    rfl

theorem Local.putAverager (v : Averager) : Local t (fun s => s.putAverager t v) := by
  refine ⟨fun {s x} h => ?_, fun s k ne => ?_⟩
  · have put (s : State) : (s.putAverager t v).view t = { s.view t with averager := v } := by
      unfold State.view
      rw [State.averager_putAverager_same]
      rfl
    rw [put, put, h]
  · unfold State.view
    rw [State.averager_putAverager_other _ _ (Ne.symm ne)]
    rfl

/-! ## Writes that depend on the old value -/

theorem Local.editTrack (F : TrackUnit → TrackUnit) : Local t (fun s => s.putTrack t (F (s.track t))) :=
  Local.read (F := fun v s => s.putTrack t (F v.unit)) fun _ => .putTrack _

theorem Local.editRecords (F : List SweepRecord → List SweepRecord) :
    Local t (fun s => s.putRecords t (F (s.records t))) :=
  Local.read (F := fun v s => s.putRecords t (F v.records)) fun _ => .putRecords _

theorem Local.editAverager (F : Averager → Averager) : Local t (fun s => s.putAverager t (F (s.averager t))) :=
  Local.read (F := fun v s => s.putAverager t (F v.averager)) fun _ => .putAverager _

theorem Local.endReads (p : Read → Bool) (status : EndStatus) : Local t (endReads p status) :=
  Local.unseen fun s k => by rw [endReads_eq]; rfl

theorem Local.overtakeActiveMean (k : Track) : Local t (overtakeActiveMean k) :=
  Local.unseen fun s k => by rw [overtakeActiveMean_only]; rfl

/-! ## The index -/

theorem Local.removeRecord (r : SweepRecord) : Local t (removeRecord t r) := by
  refine Local.comp (f := fun s => s.putRecords t ((s.records t).filter (fun x => x.seq ≠ r.seq)))
    (g := fun s => if r.kept then claimKeep t false r s else s) (.editRecords _) (.cond ?_ .id)
  exact Local.read (F := fun v s => s.putMap t (markKeep false r.firstPage (pageCount r.length) v.map)) fun _ => .putMap _

theorem Local.dropStaged (q : Nat) : Local t (dropStaged t q) :=
  Local.comp (f := fun s => s.putTrack t ((s.track t).dropSweep q)) (g := unheedWrites t q) (.editTrack _)
    (.unseen fun _ _ => rfl)

theorem Local.retire (r : SweepRecord) : Local t (retire t r) :=
  Local.comp (g := overtakeSweep t r.seq)
    (Local.comp (g := fun s => if r.state = .draining then Machine.dropStaged t r.seq s else s)
      (.removeRecord r) (.cond (.dropStaged _) .id)) (.endReads _ _)

/-- The oldest complete record that is not kept makes room in a full index (R93, step 2). -/
def makeRoom (t : Track) (s : State) : State :=
  if Config.maxRecords ≤ (s.records t).length then
    match (s.records t).find? (fun r => r.state = .complete && !r.kept) with
    | some r => Machine.retire t r s
    | none => s
  else s

/-- The records that have a page among the n from c on (R93, step 1). -/
def occupants (c n : Nat) (rs : List SweepRecord) : List SweepRecord :=
  rs.filter (fun r => (pageRange c n).any (fun p => r.occupies p))

theorem placeAt_makeRoom (t : Track) (c : Nat) (s : State) : placeAt t c s =
    (makeRoom t (retireAll t (occupants c (pageCount (s.track t).active.length) (s.records t)) s)).putWritePosition t
      (c + pageCount (s.track t).active.length) := rfl

theorem Local.makeRoom : Local t (makeRoom t) := by
  refine Local.read (F := fun v s => if Config.maxRecords ≤ v.records.length then
    match v.records.find? (fun r => r.state = .complete && !r.kept) with
    | some r => Machine.retire t r s
    | none => s
  else s) fun v => .cond ?_ .id
  generalize v.records.find? (fun r => r.state = .complete && !r.kept) = oldest
  cases oldest with
  | none => exact .id
  | some r => exact .retire r

theorem Local.placeAt (c : Nat) : Local t (placeAt t c) :=
  Local.read (F := fun v s =>
    (Machine.makeRoom t (retireAll t (occupants c (pageCount v.unit.active.length) v.records) s)).putWritePosition t
      (c + pageCount v.unit.active.length))
    fun _ => ((Local.foldl (fun r => .retire r) _).comp .makeRoom).comp (.putWritePosition _)

/-! ## The averager -/

theorem Local.clearSums (g : Region) : Local t (clearSums g) := .unseen fun _ _ => rfl

theorem Local.restartBlock : Local t (restartBlock t) := by
  refine Local.read (F := fun v s => match v.averager.region with
    | none => s
    | some g =>
      if v.averager.publication.isSome then
        s.putAverager t { v.averager with blockCount := 0, blockLast := none, current := none }
      else Machine.clearSums g (s.putAverager t { v.averager with blockCount := 0, blockLast := none, current := none }))
    fun v => ?_
  generalize v.averager.region = region
  cases region with
  | none => exact .id
  | some g => exact .cond (.putAverager _) ((Local.putAverager _).comp (.clearSums g))

theorem Local.discardMean : Local t (discardMean t) :=
  Local.comp (f := fun s => s.putAverager t
      { s.averager t with publication := none, published := false, pubLast := none })
    (g := overtakeMeans t) (.editAverager fun a => { a with publication := none, published := false, pubLast := none })
    (.endReads _ _)

theorem Local.disableAverager (reason : DisableReason) : Local t (disableAverager t reason) :=
  Local.read (F := fun v s => if v.averager.region.isNone then s else
    State.putAverager (Machine.discardMean t s) t
      { (Machine.discardMean t s).averager t with
        region := none, blockCount := 0, current := none, blockLast := none, reason := reason })
    fun _ => .cond .id (Local.discardMean.comp (.editAverager fun a =>
      { a with region := none, blockCount := 0, current := none, blockLast := none, reason := reason }))

theorem Local.averagerSweepStart (seq : Nat) (coasted : Bool) : Local t (averagerSweepStart t seq coasted) :=
  .editAverager fun a => { a with
    current :=
      if a.region.isSome && a.publication.isNone && (!coasted || a.includeCoasted) then some seq else none }

theorem Local.averagerSweepRemoved (seq : Nat) : Local t (averagerSweepRemoved t seq) :=
  Local.read (F := fun v s => if v.averager.current = some seq then Machine.restartBlock t s else s)
    fun _ => .cond .restartBlock .id

theorem Local.claim (seq : Nat) (f : SweepRecord → SweepRecord) : Local t (claim t seq f) := .editRecords _

theorem Local.beginPublication (last : Nat) : Local t (beginPublication t last) :=
  Local.comp (g := Machine.overtakeActiveMean t) (.editAverager fun a =>
    { a with blockCount := 0, publication := some { next := 0, last := last }, published := false })
    (.overtakeActiveMean _)

theorem Local.averagerSweepEnd (seq : Nat) (spoiled : Bool) : Local t (averagerSweepEnd t seq spoiled) := by
  refine Local.read (F := fun v s => if v.averager.current = some seq then
      if spoiled then Machine.restartBlock t s
      else if v.averager.blockCount + 1 = v.averager.k then
        Machine.beginPublication t seq (Machine.claim t seq SweepRecord.setAveraged (s.putAverager t
          { v.averager with current := none, blockCount := v.averager.blockCount + 1, blockLast := some seq }))
      else Machine.claim t seq SweepRecord.setAveraged (s.putAverager t
          { v.averager with current := none, blockCount := v.averager.blockCount + 1, blockLast := some seq })
    else s) fun v => .cond (.cond .restartBlock (.cond ?_ ?_)) .id
  · exact ((Local.putAverager _).comp (.claim _ _)).comp (.beginPublication _)
  · exact (Local.putAverager _).comp (.claim _ _)

end

end Sys2Proof.Machine

/-!
PROOF. What a marker event and an announcement do to one track is local to it, so the order of the tracks does not
matter to a track's own registers (R18, R19; log 4).
-/

namespace Sys2Proof.Machine

section
variable {t : Track}

/-! ## Sweep starts and ends -/

theorem Local.postStopped (reason : StopReason) : Local t (postStopped t reason) := .unseen fun _ _ => rfl

theorem Local.unbind (st : TrackState) : Local t (unbind t st) :=
  .editTrack fun u => { u with state := st, selected := none }

theorem Local.setTrackState (st : TrackState) : Local t (setTrackState t st) := .editTrack fun u => { u with state := st }

theorem Local.goIdle (reason : StopReason) : Local t (goIdle t reason) :=
  (Local.unbind .idle).comp (.postStopped reason)

theorem Local.haltTrack (reason : HaltReason) : Local t (haltTrack t reason) :=
  (Local.unbind (.halted reason)).comp (.postStopped _)

theorem Local.putSchedule (sch : Option Schedule) : Local t (putSchedule t sch) := .editTrack fun u => { u with schedule := sch }

theorem Local.putFlag (flag : Option Nat) : Local t (putFlag t flag) :=
  Local.read (F := fun v s => s.putLane t { v.lane with flag := flag }) fun _ => .putLane _

theorem Local.stopLane : Local t (stopLane t) := (Local.putLane Lane.reset).comp (.putSchedule none)

theorem Local.reachDraining (r : SweepRecord) (short : Bool) : Local t (reachDraining t r short) := by
  have counted : Local t (fun s =>
      s.putTrack t { s.track t with sweepsDone := min 65535 ((s.track t).sweepsDone + 1) }) :=
    .editTrack fun u => { u with sweepsDone := min 65535 (u.sweepsDone + 1) }
  exact ((Local.stopLane.comp (.claim r.seq (SweepRecord.drain short))).comp counted).comp (.averagerSweepEnd r.seq _)

/-- An act on the FILLING sweep, when there is one. -/
theorem Local.onFilling {F : SweepRecord → State → State} (h : ∀ r, Local t (F r)) :
    Local t (fun s => match fillingRecord s t with
      | none => s
      | some r => F r s) := by
  refine Local.read (F := fun v s => match v.records.find? (fun r => r.state = .filling) with
    | none => s
    | some r => F r s) fun v => ?_
  generalize v.records.find? (fun r => r.state = .filling) = filling
  cases filling with
  | none => exact .id
  | some r => exact h r

theorem Local.removeFilling : Local t (removeFilling t) :=
  Local.onFilling (F := fun r s => Machine.averagerSweepRemoved t r.seq (Machine.removeRecord t r (Machine.dropStaged t r.seq (Machine.stopLane t s))))
    fun r => ((Local.stopLane.comp (.dropStaged _)).comp (.removeRecord r)).comp (.averagerSweepRemoved _)

theorem Local.activateSet (a : ParamSet) : Local t (activateSet t a) :=
  Local.read (F := fun v s => Machine.restartBlock t
      (if a.length = v.unit.active.length then s.putTrack t (v.unit.activate a)
        else Machine.disableAverager t .length (s.putTrack t (v.unit.activate a))))
    fun _ => (Local.cond (.putTrack _) ((Local.putTrack _).comp (.disableAverager _))).comp .restartBlock

theorem Local.startPoint : Local t (startPoint t) := by
  have pending : Local t (activatePending t) := by
    refine Local.read (F := fun v s => match v.unit.pendingSet with
      | some a => Machine.activateSet t a s
      | none => s) fun v => ?_
    generalize v.unit.pendingSet = set
    cases set with
    | none => exact .id
    | some a => exact .activateSet a
  exact pending.comp (.editTrack fun u => { u with offsetInUse := offsetUnder u.active u.offsetInUse })

theorem Local.openSweep (ev : MarkerEvent) (c : Nat) : Local t (openSweep t ev c) := by
  have record : Local t (openRecord t ev c) := Local.read
    (F := fun v s => (s.putTrack t { v.unit.takeSequence with state := .sweeping }).putRecords t
      (v.records ++ [newRecord v.unit ev c])) fun _ => (Local.putTrack _).comp (.putRecords _)
  have opened : Local t (openedSweep t ev c) := Local.read
    (F := fun v s => State.putLane (Machine.averagerSweepStart t v.unit.seqCounter ev.synthetic (openRecord t ev c s)) t
      Lane.reset) fun _ => (record.comp (.averagerSweepStart _ _)).comp (.putLane _)
  rw [funext fun s => openSweep_spec t ev c s rfl]
  exact Local.read (F := fun v s =>
      Machine.putFlag t (if pastDueCount v.unit.active ev.estimate (elapsed ev.time v.time) = 0 then none else some 0)
        (Machine.putSchedule t (some (newSchedule ev.time ev.estimate
          (pastDueCount v.unit.active ev.estimate (elapsed ev.time v.time)))) (openedSweep t ev c s)))
    fun _ => (opened.comp (.putSchedule _)).comp (.putFlag _)

theorem Local.continueStart (ev : MarkerEvent) : Local t (continueStart t ev) := by
  refine ⟨fun {s x} h => ?_, fun s k ne => ?_⟩
  · have start := Local.startPoint.own h
    have spent : ((Machine.startPoint t s).track t).spent = ((Machine.startPoint t x).track t).spent :=
      congrArg (fun v => v.unit.spent) start
    have scan : placementScan (Machine.startPoint t s) t = placementScan (Machine.startPoint t x) t :=
      placementScan_congr (congrArg TrackView.map start) (congrArg TrackView.records start)
        (congrArg (fun v => v.unit.active) start) (congrArg TrackView.writePosition start)
    rw [continueStart_from, continueStart_from, spent, scan]
    split
    · exact (Local.haltTrack _).own start
    · split
      · exact (Local.haltTrack _).own start
      · exact (Local.haltTrack _).own start
      · exact (Local.openSweep ev _).own ((Local.placeAt _).own start)
  · obtain ⟨records, track, lane, map, writePosition, averager⟩ := continueStart_other t k ev s ne
    unfold State.view
    rw [records, track, lane, map, writePosition, averager]
    simp only [continueStart_frame]

/-! ## Marker events -/

theorem Local.holdBack : Local t (holdBack t) := by
  refine Local.read (F := fun v s => match v.unit.state with
    | .armed => s
    | .sweeping => Machine.setTrackState t .awaiting s
    | .awaiting => s
    | .stopping => s
    | .idle => s
    | .halted _ => s) fun v => ?_
  generalize v.unit.state = state
  cases state with
  | sweeping => exact .setTrackState _
  | _ => exact .id

theorem Local.startOrHold (ev : MarkerEvent) : Local t (startOrHold t ev) :=
  Local.read (F := fun v s => if 2 ≤ (v.records.filter (fun r => r.incomplete)).length then Machine.holdBack t s
    else Machine.continueStart t ev s) fun _ => .cond .holdBack (.continueStart ev)

theorem Local.startSweep (ev : MarkerEvent) : Local t (startSweep t ev) := by
  have next : Local t (fun s => if (s.track t).runComplete then Machine.goIdle t .countDone s
      else Machine.startOrHold t ev s) :=
    Local.read (F := fun v s => if v.unit.runComplete then Machine.goIdle t .countDone s
      else Machine.startOrHold t ev s) fun _ => .cond (.goIdle _) (.startOrHold ev)
  refine Local.read (F := fun v s => match v.records.find? (fun r => r.state = .filling) with
    | none => Machine.startOrHold t ev s
    | some r => if ((Machine.reachDraining t r true s).track t).runComplete then
        Machine.goIdle t .countDone (Machine.reachDraining t r true s)
      else Machine.startOrHold t ev (Machine.reachDraining t r true s)) fun v => ?_
  generalize v.records.find? (fun r => r.state = .filling) = filling
  cases filling with
  | none => exact .startOrHold ev
  | some r => exact (Local.reachDraining r true).comp next

theorem Local.endStopping : Local t (endStopping t) := by
  have next : Local t (fun s => if (s.track t).runComplete then Machine.goIdle t .countDone s
      else Machine.goIdle t .stopped s) :=
    Local.read (F := fun v s => if v.unit.runComplete then Machine.goIdle t .countDone s
      else Machine.goIdle t .stopped s) fun _ => .cond (.goIdle _) (.goIdle _)
  exact (Local.onFilling (F := fun r s => Machine.reachDraining t r true s) fun r => .reachDraining r true).comp next

theorem Local.takeEvent (ev : MarkerEvent) : Local t (takeEvent ev t) := by
  refine Local.read (F := fun v s => if v.unit.state.bound && v.unit.selected = some ev.unit then
      setPrevMarker t ev.time
        (match v.unit.state with
        | .armed => if ev.synthetic then s else Machine.startSweep t ev s
        | .sweeping => Machine.startSweep t ev s
        | .awaiting => Machine.startSweep t ev s
        | .stopping => Machine.endStopping t s
        | .idle => s
        | .halted _ => s)
    else s) fun v => .cond ?_ .id
  refine Local.comp (g := setPrevMarker t ev.time) ?_ (.editTrack fun u => { u with prevMarker := some ev.time })
  generalize v.unit.state = state
  cases state with
  | armed => exact .cond .id (.startSweep ev)
  | sweeping => exact .startSweep ev
  | awaiting => exact .startSweep ev
  | stopping => exact .endStopping
  | idle => exact .id
  | halted => exact .id

/-! ## Announcements -/

theorem Local.takeLock (unit : MarkerId) : Local t (takeLock unit t) :=
  Local.read (F := fun v s => if v.unit.state = .armed && v.unit.active.markerSelect = .auto && v.unit.selected.isNone then
      s.putTrack t { v.unit with selected := some unit, prevMarker := none }
    else s) fun _ => .cond (.putTrack _) .id

theorem Local.reselect : Local t (reselect t) :=
  Local.read (F := fun v s => if v.unit.active.markerSelect = .auto then
      s.putTrack t { v.unit with
        selected := if v.markerA.inLock then some .A else if v.markerB.inLock then some .B else none,
        prevMarker := none }
    else s) fun _ => .cond (.putTrack _) .id

theorem Local.takeLoss (unit : MarkerId) : Local t (takeLoss unit t) := by
  refine Local.read (F := fun v s => if v.unit.selected = some unit then
      match v.unit.state with
      | .sweeping => Machine.reselect t (Machine.setTrackState t .armed (Machine.removeFilling t s))
      | .awaiting => Machine.reselect t (Machine.setTrackState t .armed s)
      | .stopping => Machine.goIdle t .stopped (Machine.removeFilling t s)
      | .armed => Machine.reselect t s
      | .idle => s
      | .halted _ => s
    else s) fun v => .cond ?_ .id
  generalize v.unit.state = state
  cases state with
  | sweeping => exact (Local.removeFilling.comp (.setTrackState .armed)).comp .reselect
  | awaiting => exact (Local.setTrackState .armed).comp .reselect
  | stopping => exact Local.removeFilling.comp (.goIdle .stopped)
  | armed => exact .reselect
  | idle => exact .id
  | halted => exact .id

end

/-! ## All eight tracks (log 4) -/

theorem mem_deliveryOrder (order : List Track) (t : Track) : t ∈ deliveryOrder order := by
  unfold deliveryOrder
  by_cases h : t ∈ order
  · exact List.mem_append_left _ (List.mem_eraseDups.mpr h)
  · exact List.mem_append_right _ (List.mem_filter.mpr ⟨mem_allTracks t, by simpa using h⟩)

theorem nodup_eraseDups : ∀ order : List Track, order.eraseDups.Nodup
  | [] => List.nodup_nil
  | t :: rest => by
    rw [List.eraseDups_cons]
    refine List.nodup_cons.mpr ⟨fun mem => ?_, nodup_eraseDups _⟩
    have other := (List.mem_filter.mp (List.mem_eraseDups.mp mem)).2
    simp at other
  termination_by order => order.length
  decreasing_by exact Nat.lt_succ_of_le (List.length_filter_le _ _)

theorem nodup_deliveryOrder (order : List Track) : (deliveryOrder order).Nodup := by
  unfold deliveryOrder
  refine List.nodup_append.mpr ⟨nodup_eraseDups order, nodup_allTracks.filter _, fun a ha b hb e => ?_⟩
  have given := List.mem_eraseDups.mp ha
  have left := (List.mem_filter.mp hb).2
  rw [← e] at left
  simp [given] at left

/-- Local acts on different tracks do to each track what its own act does. -/
theorem foldl_local {f : Track → State → State} (h : ∀ t, Local t (f t)) :
    ∀ {l : List Track}, l.Nodup → ∀ s k,
      (l.foldl (fun s t => f t s) s).view k = if k ∈ l then (f k s).view k else s.view k
  | [], _, s, k => by simp
  | t :: l, once, s, k => by
    obtain ⟨new, once⟩ := List.nodup_cons.mp once
    rw [List.foldl_cons, foldl_local h once]
    by_cases e : k = t
    · subst e
      simp [new]
    · have same : (f t s).view k = s.view k := (h t).other s k e
      by_cases mem : k ∈ l
      · simp only [mem, e, if_true, List.mem_cons, or_true]
        exact (h k).own same
      · simp only [mem, e, if_false, List.mem_cons, or_self, same]

/-- What each track takes is what it would take alone, in any order of the tracks (log 4). -/
theorem eachTrack_view {f : Track → State → State} (h : ∀ t, Local t (f t)) (order : List Track) (s : State) (t : Track) :
    (eachTrack order f s).view t = (f t s).view t := by
  unfold eachTrack
  rw [foldl_local h (nodup_deliveryOrder order), if_pos (mem_deliveryOrder order t)]

end Sys2Proof.Machine

/-!
PROOF. A marker event acts by the track state (R44, R47, R52 to R54).
-/

namespace Sys2Proof.Machine

section
variable {ev : MarkerEvent} {t : Track} {s : State}

/-! ## Marker events, case by case -/

theorem takeEvent_unheard (h : (s.track t).selected ≠ some ev.unit ∨ (s.track t).state = .idle ∨
    ∃ r, (s.track t).state = .halted r) : takeEvent ev t s = s := by
  refine if_neg fun heard => ?_
  obtain ⟨bound, selected⟩ := Bool.and_eq_true_iff.mp heard
  rcases h with other | unbound
  · exact other (of_decide_eq_true selected)
  · rw [(TrackState.not_bound_iff _).mpr unbound] at bound
    cases bound

theorem takeEvent_heard (selected : (s.track t).selected = some ev.unit) (bound : (s.track t).state.bound = true) :
    takeEvent ev t s = setPrevMarker t ev.time
      (match (s.track t).state with
      | .armed => if ev.synthetic then s else startSweep t ev s
      | .sweeping => startSweep t ev s
      | .awaiting => startSweep t ev s
      | .stopping => endStopping t s
      | .idle => s
      | .halted _ => s) :=
  if_pos (by rw [bound, selected, decide_eq_true rfl]; rfl)

/-- In an index in order no sweep of a track that does not capture is FILLING. -/
theorem fillingRecord_of_idle (order : IndexInOrder s)
    (h : (s.track t).state ≠ .sweeping ∧ (s.track t).state ≠ .stopping) : fillingRecord s t = none := by
  obtain ⟨-, -, -, -, -, -, -, -, captures⟩ := order t
  refine List.find?_eq_none.mpr fun y mem filling => ?_
  rcases captures.mp ⟨y, mem, of_decide_eq_true filling⟩ with state | state
  · exact h.1 state
  · exact h.2 state

theorem incomplete_filter (rs : List SweepRecord) :
    rs.filter (fun y => y.state ≠ .complete) = rs.filter (fun r => r.incomplete) :=
  List.filter_congr fun y _ => by cases state : y.state <;> simp [SweepRecord.incomplete, state]

theorem startOrHold_full (full : 2 ≤ ((s.records t).filter (fun y => y.state ≠ .complete)).length) :
    startOrHold t ev s = holdBack t s := by
  rw [incomplete_filter] at full
  exact if_pos full

theorem startOrHold_room (room : ((s.records t).filter (fun y => y.state ≠ .complete)).length < 2) :
    startOrHold t ev s = continueStart t ev s := by
  rw [incomplete_filter] at room
  exact if_neg (Nat.not_le.mpr room)

theorem startSweep_none (h : fillingRecord s t = none) : startSweep t ev s = startOrHold t ev s := by
  simp only [startSweep, h]

theorem startSweep_some {f : SweepRecord} (h : fillingRecord s t = some f) : startSweep t ev s =
    if ((reachDraining t f true s).track t).runComplete then goIdle t .countDone (reachDraining t f true s)
    else startOrHold t ev (reachDraining t f true s) := by
  simp only [startSweep, h]

theorem endStopping_some {f : SweepRecord} (h : fillingRecord s t = some f) : endStopping t s =
    if ((reachDraining t f true s).track t).runComplete then goIdle t .countDone (reachDraining t f true s)
    else goIdle t .stopped (reachDraining t f true s) := by
  simp only [endStopping, h]

theorem TrackUnit.runComplete_iff (u : TrackUnit) :
    u.runComplete = true ↔ u.armCount ≠ 0 ∧ u.sweepsDone = u.armCount := by
  simp [TrackUnit.runComplete]

/-! ## A FILLING sweep that ends SHORT (R52) -/

section
variable {f : SweepRecord} (order : IndexInOrder s) (filling : fillingRecord s t = some f)
include order filling

/-- In an index in order the FILLING sweep alone drains. -/
theorem reachDraining_short : reachDraining t f true s = averagerSweepEnd t f.seq true
    (((s.putRecords t ((s.records t).map (fun rec =>
        if rec.seq = f.seq then { f with state := .draining, short := true } else rec))).putLane t
      { flag := none, baseSum := 0, baseCount := 0 }).putTrack t
        { s.track t with schedule := none, sweepsDone := min 65535 ((s.track t).sweepsDone + 1) }) := by
  obtain ⟨-, state, only⟩ := only_filling order filling
  have records : (s.records t).map (fun r => if r.seq = f.seq then r.drain true else r) =
      (s.records t).map (fun rec => if rec.seq = f.seq then { f with state := .draining, short := true } else rec) := by
    refine List.map_congr_left fun y mem => ?_
    split
    · next seq =>
      rw [(only y mem).1 seq]
      simp [SweepRecord.drain, state]
    · rfl
  rw [reachDraining_eq, Bool.or_true]
  unfold drained
  rw [records]
  rfl

/-- A sweep that drains stays incomplete. -/
theorem reachDraining_incomplete :
    (((reachDraining t f true s).records t).filter (fun y => y.state ≠ .complete)).length =
      ((s.records t).filter (fun y => y.state ≠ .complete)).length := by
  obtain ⟨-, state, only⟩ := only_filling order filling
  rw [reachDraining_eq, Bool.or_true, averagerSweepEnd_records, if_neg (by simp), drained_records, if_pos rfl,
    List.filter_map, List.length_map]
  refine congrArg List.length (List.filter_congr fun y mem => ?_)
  simp only [Function.comp_apply]
  split
  · next seq =>
    rw [(only y mem).1 seq]
    simp [SweepRecord.drain, state]
  · rfl

end

end

/-- Settles O30. -/
theorem markerEventActsByTrackState : Obligations.MarkerEventActsByTrackState := by
  refine ⟨fun order ev s t => ?_, ?_⟩
  · have view := eachTrack_view (fun k => Local.takeEvent (t := k) ev) order s t
    exact ⟨congrArg TrackView.unit view, congrArg TrackView.records view, congrArg TrackView.lane view,
      congrArg TrackView.map view, congrArg TrackView.writePosition view, congrArg TrackView.averager view⟩
  rintro ev t s u done marked order rfl rfl mark
  obtain rfl : marked = setPrevMarker t ev.time := funext mark
  refine ⟨takeEvent_unheard, fun selected => ⟨fun armed synthetic => ?_, fun waits => ?_, ?_⟩⟩
  · rw [takeEvent_heard selected ((TrackState.bound_iff _).mpr (.inl armed)), armed]
    simp only [synthetic, if_true]
  · have starts : takeEvent ev t s = setPrevMarker t ev.time (startOrHold t ev s) ∧ holdBack t s = s := by
      rcases waits with ⟨armed, observed⟩ | awaiting
      · rw [takeEvent_heard selected ((TrackState.bound_iff _).mpr (.inl armed)), armed,
          ← startSweep_none (fillingRecord_of_idle order (by simp [armed]))]
        simp only [observed, holdBack, armed, Bool.false_eq_true, if_false, and_self]
      · rw [takeEvent_heard selected ((TrackState.bound_iff _).mpr (.inr (.inr (.inl awaiting)))), awaiting,
          ← startSweep_none (fillingRecord_of_idle order (by simp [awaiting]))]
        simp only [holdBack, awaiting, and_self]
    obtain ⟨starts, held⟩ := starts
    refine ⟨fun full => ?_, fun room => ?_⟩
    · rw [starts, startOrHold_full full, held]
    · rw [starts, startOrHold_room room]
  · rintro f x y idle filling rfl rfl idles
    rw [← reachDraining_short order filling] at idles ⊢
    have unit := reachDraining_track t t f true s
    rw [if_pos rfl] at unit
    have idle_eq (why : StopReason) : goIdle t why (reachDraining t f true s) = idle why := by
      rw [goIdle_eq, idles, unit]
    have run := TrackUnit.runComplete_iff ((reachDraining t f true s).track t)
    rw [unit] at run
    have captures : (s.track t).state = .sweeping ∨ (s.track t).state = .stopping := by
      obtain ⟨mem, state, -⟩ := only_filling order filling
      obtain ⟨-, -, -, -, -, -, -, -, captures⟩ := order t
      exact captures.mp ⟨f, mem, state⟩
    refine ⟨fun counted all => ?_, fun more => ⟨fun stopping => ?_, fun sweeping => ?_⟩⟩
    · have complete := run.mpr ⟨counted, all⟩
      rcases captures with state | state
      · rw [takeEvent_heard selected ((TrackState.bound_iff _).mpr (.inr (.inl state))), state]
        simp only [startSweep_some filling, unit, complete, if_true, idle_eq]
      · rw [takeEvent_heard selected ((TrackState.bound_iff _).mpr (.inr (.inr (.inr state)))), state]
        simp only [endStopping_some filling, unit, complete, if_true, idle_eq]
    · rw [takeEvent_heard selected ((TrackState.bound_iff _).mpr (.inr (.inr (.inr stopping)))), stopping]
      simp only [endStopping_some filling, unit, idle_eq]
      rw [if_neg (fun complete => more.elim (run.mp complete).1 fun ne => ne (run.mp complete).2)]
    · have starts : takeEvent ev t s = setPrevMarker t ev.time (startOrHold t ev (reachDraining t f true s)) := by
        rw [takeEvent_heard selected ((TrackState.bound_iff _).mpr (.inr (.inl sweeping))), sweeping]
        simp only [startSweep_some filling, unit]
        rw [if_neg (fun complete => more.elim (run.mp complete).1 fun ne => ne (run.mp complete).2)]
      rw [starts]
      refine ⟨fun full => ?_, fun room => ?_⟩
      · rw [startOrHold_full (by rw [reachDraining_incomplete order filling]; exact full)]
        simp only [holdBack, setTrackState, unit, sweeping]
      · rw [startOrHold_room (by rw [reachDraining_incomplete order filling]; exact room)]

end Sys2Proof.Machine

/-!
PROOF. Lock and loss announcements act by the track state (R19, R43, R55).
-/

namespace Sys2Proof.Machine

/-! ## Lock announcements (R43) -/

section
variable (unit : MarkerId) (t : Track) (s : State)

theorem takeLock_only : takeLock unit t s = s.setTracks (takeLock unit t s).tracks := by
  unfold takeLock
  simp only
  split <;> rfl

theorem announceLock_only (order : List Track) :
    announceLock order unit s = s.setTracks (announceLock order unit s).tracks := by
  unfold announceLock eachTrack
  generalize deliveryOrder order = l
  induction l generalizing s with
  | nil => rfl
  | cons t l ih =>
    rw [List.foldl_cons, ih]
    rw [takeLock_only unit t s]
    rfl

variable {unit t s}

theorem takeLock_selects (armed : (s.track t).state = .armed) (auto : (s.track t).active.markerSelect = .auto)
    (free : (s.track t).selected = none) :
    (takeLock unit t s).track t = { s.track t with selected := some unit, prevMarker := none } := by
  unfold takeLock
  simp only [armed, auto, free, decide_true, Option.isNone_none, Bool.and_self, if_true]
  exact State.track_putTrack_same _ _ _

theorem takeLock_ignores (h : (s.track t).state ≠ .armed ∨ (s.track t).active.markerSelect ≠ .auto ∨
    (s.track t).selected ≠ none) : takeLock unit t s = s := by
  refine if_neg fun selects => ?_
  rw [Bool.and_eq_true, Bool.and_eq_true, decide_eq_true_eq, decide_eq_true_eq, Option.isNone_iff_eq_none] at selects
  tauto

end

/-! ## Loss announcements (R55) -/

section
variable {unit : MarkerId} {t : Track} {s : State}

/-- A selected unit and a previous marker time as a loss leaves them (R43, R55). -/
def Reselects (unit : MarkerId) (t : Track) (s : State) (sel : Option MarkerId) (prev : Option Time) : Prop :=
  ((s.track t).active.markerSelect = .auto → ChosenUnit s sel ∧ prev = none) ∧
    ((s.track t).active.markerSelect ≠ .auto → sel = some unit ∧ prev = (s.track t).prevMarker)

/-- What a reselection makes of a track unit that a loss has left. -/
theorem reselect_view {x : State} {u : TrackUnit} {sel : Option MarkerId} {prev : Option Time}
    (named : (s.track t).selected = some unit) (h : Reselects unit t s sel prev) (markerA : x.markerA = s.markerA)
    (markerB : x.markerB = s.markerB) (track : x.track t = u) (active : u.active = (s.track t).active)
    (selected : u.selected = (s.track t).selected) (prevMarker : u.prevMarker = (s.track t).prevMarker) :
    (reselect t x).view t = { x.view t with unit := { u with selected := sel, prevMarker := prev } } := by
  obtain ⟨auto, fixed⟩ := h
  have view (v : TrackUnit) : (x.putTrack t v).view t = { x.view t with unit := v } := by
    unfold State.view
    rw [State.track_putTrack_same]
    rfl
  have unfolded : reselect t x = if u.active.markerSelect = .auto then
      x.putTrack t { u with selected := chooseUnit x .auto, prevMarker := none } else x := by
    rw [← track]
    rfl
  rw [unfolded]
  by_cases mode : u.active.markerSelect = .auto
  · obtain ⟨chosen, rfl⟩ := auto (active ▸ mode)
    have same : ChosenUnit x sel := by
      unfold ChosenUnit at chosen ⊢
      rw [markerA, markerB]
      exact chosen
    rw [if_pos mode, chooseUnit_eq (s := x) (.inr (.inr ⟨rfl, same⟩)), view]
  · obtain ⟨rfl, rfl⟩ := fixed (active ▸ mode)
    have still : ({ u with selected := some unit, prevMarker := (s.track t).prevMarker } : TrackUnit) = u := by
      rw [← named, ← prevMarker, ← selected]
    rw [if_neg mode, still, ← track]
    rfl

theorem takeLoss_unnamed (h : (s.track t).selected ≠ some unit) : takeLoss unit t s = s := if_neg h

theorem takeLoss_named (h : (s.track t).selected = some unit) : takeLoss unit t s =
    match (s.track t).state with
    | .sweeping => reselect t (setTrackState t .armed (removeFilling t s))
    | .awaiting => reselect t (setTrackState t .armed s)
    | .stopping => goIdle t .stopped (removeFilling t s)
    | .armed => reselect t s
    | .idle => s
    | .halted _ => s := if_pos h

/-- A loss while no sweep is captured. -/
theorem takeLoss_waiting {sel : Option MarkerId} {prev : Option Time} (named : (s.track t).selected = some unit)
    (h : Reselects unit t s sel prev) (state : (s.track t).state = .armed ∨ (s.track t).state = .awaiting) :
    (takeLoss unit t s).view t =
      { s.view t with unit := { s.track t with state := .armed, selected := sel, prevMarker := prev } } := by
  rw [takeLoss_named named]
  rcases state with state | state
  · simp only [state]
    rw [reselect_view named h rfl rfl (u := { s.track t with state := .armed }) (by rw [← state]) rfl rfl rfl]
  · simp only [state]
    rw [reselect_view (x := setTrackState t .armed s) named h rfl rfl (State.track_putTrack_same _ _ _) rfl rfl rfl]
    rfl

theorem removeFilling_readout : (removeFilling t s).readout = s.readout := by
  unfold removeFilling
  split
  · rfl
  · simp only [averagerSweepRemoved_frame, removeRecord_frame]
    rfl

theorem takeLoss_readout : (takeLoss unit t s).readout = s.readout := by
  have reselects (x : State) : (reselect t x).readout = x.readout := by
    unfold reselect
    split <;> rfl
  have sets (st : TrackState) (x : State) : (setTrackState t st x).readout = x.readout := rfl
  by_cases named : (s.track t).selected = some unit
  · rw [takeLoss_named named]
    split
    · rw [reselects, sets, removeFilling_readout]
    · rw [reselects, sets]
    · simp only [goIdle_frame, removeFilling_readout]
    · rw [reselects]
    · rfl
    · rfl
  · rw [takeLoss_unnamed named]

theorem announceLoss_readout (order : List Track) (unit : MarkerId) (s : State) :
    (announceLoss order unit s).readout = s.readout := by
  unfold announceLoss eachTrack
  generalize deliveryOrder order = l
  induction l generalizing s with
  | nil => rfl
  | cons t l ih => rw [List.foldl_cons, ih, takeLoss_readout]

/-! ## A loss while a sweep is captured (R55, R56) -/

/-- The track and its index without the FILLING sweep. -/
structure Removed (t : Track) (f : SweepRecord) (s x : State) : Prop where
  records : x.records t = (s.records t).filter (fun y => y.seq ≠ f.seq)
  lane : x.lane t = { flag := none, baseSum := 0, baseCount := 0 }
  map : x.map t = (if f.kept then (s.map t).map (fun c =>
    if f.firstPage ≤ c.1 ∧ c.1 < f.firstPage + (f.length + 511) / 512 then (c.1, { c.2 with keep := false }) else c)
    else s.map t)
  averager : x.averager t = (averagerSweepRemoved t f.seq s).averager t

theorem markKeep_eq (v : Bool) (first length : Nat) (m : Table MapEntry) : markKeep v first (pageCount length) m =
    m.map (fun c => if first ≤ c.1 ∧ c.1 < first + (length + 511) / 512 then (c.1, { c.2 with keep := v }) else c) := rfl

theorem removeFilling_removed {f : SweepRecord} (filling : fillingRecord s t = some f) : Removed t f s (removeFilling t s) := by
  have index := removeFilling_index filling t
  rw [if_pos rfl] at index
  refine ⟨congrArg TrackIndex.records index, ?_, ?_, removeFilling_averager filling t⟩
  · rw [removeFilling_lane filling, if_pos rfl]
    rfl
  · refine (congrArg TrackIndex.map index).trans ?_
    unfold TrackIndex.remove
    rw [markKeep_eq]
    rfl

/-- Whatever reads the same of the track beside its unit is the same removal. -/
theorem Removed.of_view {f : SweepRecord} {x y : State} {u : TrackUnit} (h : Removed t f s x)
    (same : y.view t = { x.view t with unit := u }) : Removed t f s y :=
  ⟨(congrArg TrackView.records same).trans h.records, (congrArg TrackView.lane same).trans h.lane,
    (congrArg TrackView.map same).trans h.map, (congrArg TrackView.averager same).trans h.averager⟩

/-- The unit of a track whose FILLING sweep is removed. -/
def TrackUnit.unfilled (q : Nat) (u : TrackUnit) : TrackUnit :=
  { u with
    schedule := none, fifo := u.fifo.filter (fun e => e.seq ≠ q), cursor := u.cursor.filter (fun c => c.seq ≠ q) }

theorem removeFilling_unfilled {f : SweepRecord} (filling : fillingRecord s t = some f) :
    (removeFilling t s).track t = (s.track t).unfilled f.seq := by
  rw [removeFilling_track filling, if_pos rfl, TrackUnit.dropSweep_eq]
  rfl

theorem removeFilling_markers (t : Track) (s : State) :
    (removeFilling t s).markerA = s.markerA ∧ (removeFilling t s).markerB = s.markerB := by
  simp only [removeFilling_frame, and_self]

theorem takeLoss_sweeping {f : SweepRecord} {sel : Option MarkerId} {prev : Option Time}
    (named : (s.track t).selected = some unit) (h : Reselects unit t s sel prev) (filling : fillingRecord s t = some f)
    (state : (s.track t).state = .sweeping) :
    (takeLoss unit t s).track t = { (s.track t).unfilled f.seq with state := .armed, selected := sel, prevMarker := prev } ∧
    Removed t f s (takeLoss unit t s) := by
  have armed : (setTrackState t .armed (removeFilling t s)).track t = { (s.track t).unfilled f.seq with state := .armed } := by
    unfold setTrackState
    rw [State.track_putTrack_same, removeFilling_unfilled filling]
  have view := reselect_view (x := setTrackState t .armed (removeFilling t s)) named h
    (removeFilling_markers t s).1 (removeFilling_markers t s).2 armed rfl rfl rfl
  have set : (setTrackState t .armed (removeFilling t s)).view t =
      { (removeFilling t s).view t with unit := { (s.track t).unfilled f.seq with state := .armed } } := by
    unfold State.view
    rw [armed]
    rfl
  rw [takeLoss_named named, state]
  exact ⟨congrArg TrackView.unit view, ((removeFilling_removed filling).of_view set).of_view view⟩

theorem takeLoss_stopping {f : SweepRecord} (named : (s.track t).selected = some unit)
    (filling : fillingRecord s t = some f) (state : (s.track t).state = .stopping) :
    (takeLoss unit t s).track t = { (s.track t).unfilled f.seq with state := .idle, selected := none } ∧
    Removed t f s (takeLoss unit t s) := by
  rw [takeLoss_named named, state]
  simp only [goIdle_eq]
  refine ⟨(State.track_putTrack_same _ _ _).trans ?_, ?_⟩
  · rw [removeFilling_unfilled filling]
  · obtain ⟨records, lane, map, averager⟩ := removeFilling_removed filling
    exact ⟨records, lane, map, averager⟩

/-- A loss is noticed when it ends the run of a STOPPING track (R54, R55). -/
theorem takeLoss_notices_stopping (named : (s.track t).selected = some unit) (state : (s.track t).state = .stopping) :
    (takeLoss unit t s).notices = s.notices.post (Source.trackStopped t)
      (.trackStopped .stopped (s.track t).sweepsDone (s.track t).seqCounter) := by
  have counts : ((removeFilling t s).track t).sweepsDone = (s.track t).sweepsDone ∧
      ((removeFilling t s).track t).seqCounter = (s.track t).seqCounter := by
    cases filling : fillingRecord s t with
    | none => rw [removeFilling_none filling]; exact ⟨rfl, rfl⟩
    | some f => rw [removeFilling_unfilled filling]; exact ⟨rfl, rfl⟩
  rw [takeLoss_named named, state]
  simp only [goIdle_eq, counts.1, counts.2]
  have quiet : (removeFilling t s).notices = s.notices := by simp only [removeFilling_frame]
  exact congrArg (NoticeUnit.post · _ _) quiet

theorem takeLoss_notices_other (h : (s.track t).selected ≠ some unit ∨ (s.track t).state ≠ .stopping) :
    (takeLoss unit t s).notices = s.notices := by
  have reselects (x : State) : (reselect t x).notices = x.notices := by
    unfold reselect
    split <;> rfl
  have sets (st : TrackState) (x : State) : (setTrackState t st x).notices = x.notices := rfl
  by_cases named : (s.track t).selected = some unit
  · rw [takeLoss_named named]
    split
    · rw [reselects, sets]
      simp only [removeFilling_frame]
    · rw [reselects, sets]
    · next state => exact absurd state (h.resolve_left (not_not_intro named))
    · rw [reselects]
    · rfl
    · rfl
  · rw [takeLoss_unnamed named]

end

/-- Settles O31. -/
theorem announcementsActOnTracks : Obligations.AnnouncementsActOnTracks := by
  refine ⟨fun order unit s => ⟨announceLock_only unit s order, fun t => ?_⟩, ?_, fun unit t s =>
    ⟨takeLoss_notices_stopping, takeLoss_notices_other⟩⟩
  · have track : (announceLock order unit s).track t = (takeLock unit t s).track t :=
      congrArg TrackView.unit (eachTrack_view (fun k => Local.takeLock (t := k) unit) order s t)
    rw [track]
    exact ⟨takeLock_selects, fun h => by rw [takeLock_ignores h]⟩
  · rintro order unit s x rfl
    refine ⟨fun t => ?_, ?_⟩
    · have view : (announceLoss order unit s).view t = (takeLoss unit t s).view t :=
        eachTrack_view (fun k => Local.takeLoss (t := k) unit) order s t
      have reads {v : TrackView} (h : (takeLoss unit t s).view t = v) :
          (announceLoss order unit s).track t = v.unit ∧ (announceLoss order unit s).records t = v.records ∧
          (announceLoss order unit s).lane t = v.lane ∧ (announceLoss order unit s).map t = v.map ∧
          (announceLoss order unit s).averager t = v.averager := by
        rw [← h, ← view]
        exact ⟨rfl, rfl, rfl, rfl, rfl⟩
      refine ⟨fun unnamed => reads (congrArg (State.view · t) (takeLoss_unnamed unnamed)),
        fun named sel prev auto fixed => ⟨fun state => reads (takeLoss_waiting named ⟨auto, fixed⟩ state), ?_⟩⟩
      obtain ⟨track, records, lane, map, averager⟩ := reads rfl
      rw [track, records, lane, map, averager]
      rintro f u filling rfl
      have removed (h : (s.track t).state = .sweeping ∨ (s.track t).state = .stopping) :
          Removed t f s (takeLoss unit t s) :=
        h.elim (fun state => (takeLoss_sweeping named ⟨auto, fixed⟩ filling state).2)
          fun state => (takeLoss_stopping named filling state).2
      exact ⟨fun state => (takeLoss_sweeping named ⟨auto, fixed⟩ filling state).1,
        fun state => (takeLoss_stopping named filling state).1,
        fun state => ⟨(removed state).records, (removed state).lane, (removed state).map, (removed state).averager⟩⟩
    · simp only [announceLoss_frame, announceLoss_readout, and_self]

end Sys2Proof.Machine

/-!
PROOF. Page maps: what a load item writes, and what it does to the sweep on its page (R72 to R75, R95).
-/

namespace Sys2Proof.Machine

section
variable {t : Track} {l : Nat} {s : State}

/-! ## The entry and the owners (R73, R74) -/

theorem writeItem_unmap_map (k : Nat) :
    tget ((writeItem t l .unmap s).map t) k = if k = l then none else tget (s.map t) k := by
  have written : (writeItem t l .unmap s).map t = terase (s.map t) l := by
    unfold writeItem applyUnmap freePage
    cases tget (s.map t) l <;> exact State.map_putMap_same _ _ _
  rw [written, tget_terase]

theorem writeItem_unmap_owners (a : Nat) : tget (writeItem t l .unmap s).owners a =
    if (tget (s.map t) l).any (fun e => e.page.toNat = a) then none else tget s.owners a := by
  have written : (writeItem t l .unmap s).owners = (freePage s t l).owners := rfl
  rw [written]
  unfold freePage
  cases tget (s.map t) l with
  | none => rfl
  | some e =>
    simp only [Option.any_some, decide_eq_true_eq, eq_comm (a := e.page.toNat)]
    exact tget_terase _ _ _

theorem writeItem_map_map (unkept : ∀ e, tget (s.map t) l = some e → e.keep = false) (p : Page) (hp : Bool) (k : Nat) :
    tget ((writeItem t l (.map p hp) s).map t) k =
      if k = l then some { page := p, hostProtect := hp, keep := false } else tget (s.map t) k := by
  have written : (writeItem t l (.map p hp) s).map t =
      tput (s.map t) l { page := p, hostProtect := hp, keep := false } := by
    unfold writeItem applyMap
    cases entry : tget (s.map t) l with
    | none => exact State.map_putMap_same _ _ _
    | some e =>
      simp only
      split
      · next same =>
        rw [State.map_putMap_same, ← same, ← unkept e entry]
      · simp only [freePage, entry]
        exact State.map_putMap_same _ _ _
  rw [written, tget_tput]

theorem writeItem_map_owners_same {p : Page} {hp : Bool} {e : MapEntry} (entry : tget (s.map t) l = some e)
    (same : e.page = p) : (writeItem t l (.map p hp) s).owners = s.owners := by
  unfold writeItem applyMap
  simp only [entry, if_pos same]
  rfl

theorem writeItem_map_owners_other {p : Page} {hp : Bool} (other : ∀ e, tget (s.map t) l = some e → e.page ≠ p) (a : Nat) :
    tget (writeItem t l (.map p hp) s).owners a =
      if a = p.toNat then some { track := t, logical := l }
      else if (tget (s.map t) l).any (fun e => e.page.toNat = a) then none else tget s.owners a := by
  have written : (writeItem t l (.map p hp) s).owners =
      tput (freePage s t l).owners p.toNat { track := t, logical := l } := by
    unfold writeItem applyMap
    cases entry : tget (s.map t) l with
    | none =>
      simp only [freePage, entry]
      rfl
    | some e =>
      simp only [if_neg (other e entry)]
      rfl
  have freed : tget (freePage s t l).owners a =
      if (tget (s.map t) l).any (fun e => e.page.toNat = a) then none else tget s.owners a :=
    writeItem_unmap_owners a
  rw [written, tget_tput, freed]

/-! ## The sweep on the page (R75) -/

theorem writeItem_reads (item : LoadItem) (k : Track) : (writeItem t l item s).records k = s.records k ∧
    (writeItem t l item s).track k = s.track k ∧ (writeItem t l item s).readout = s.readout ∧
    (writeItem t l item s).mem = s.mem ∧ (k ≠ t → (writeItem t l item s).map k = s.map k) := by
  obtain ⟨o, m, written⟩ := writeItem_only t l item s
  rw [written]
  exact ⟨rfl, rfl, rfl, rfl, fun ne => State.map_putMap_other _ _ ne.symm⟩

theorem occupant_eq (x : State) (t : Track) (l : Nat) : occupant x t l =
    (x.records t).find? (fun y => y.firstPage ≤ l && l < y.firstPage + (y.length + 511) / 512) := rfl

theorem applyItem_free (item : LoadItem) (free : occupant s t l = none) : applyItem t l item s = writeItem t l item s := by
  have same : occupant (writeItem t l item s) t l = none := by
    rw [occupant_eq, (writeItem_reads item t).1, ← occupant_eq, free]
  rw [applyItem_eq, same]

theorem applyItem_retires (item : LoadItem) {f : SweepRecord} (found : occupant s t l = some f) :
    applyItem t l item s = retire t f (writeItem t l item s) := by
  have same : occupant (writeItem t l item s) t l = some f := by
    rw [occupant_eq, (writeItem_reads item t).1, ← occupant_eq, found]
  rw [applyItem_eq, same]

/-- What the retirement of a record that is not kept reads and changes. -/
theorem retire_reads {f : SweepRecord} (unkept : f.kept = false) (x : State) : (retire t f x).maps = x.maps ∧
    (retire t f x).owners = x.owners ∧
    (∀ k, (retire t f x).records k = if k = t then (x.records t).filter (fun y => y.seq ≠ f.seq) else x.records k) ∧
    (∀ k, (retire t f x).track k =
      if k = t then if f.state = .draining then (x.track t).dropSweep f.seq else x.track t else x.track k) := by
  rw [retire_eq t f x unkept]
  refine ⟨rfl, rfl, fun k => ?_, fun k => ?_⟩
  · exact State.records_putRecords _ _ _ _
  · exact State.track_putTrack _ _ _ _

/-- The reads of a sweep that ends them. -/
theorem Readout.endReads_ofSweep (q : Readout) (t : Track) (seq : Nat) : q.endReads (Read.ofSweep t seq) .overtaken =
    { queue := q.queue.filter (fun y => !(y.ofSweep t seq)),
      ended := q.ended ++ (q.queue.filter (fun y => y.ofSweep t seq)).map (fun y =>
        { tag := y.tag, mean := false, position := y.firstPos + y.delivered, status := .overtaken,
          delivered := y.delivered }) } := by
  have frames : (q.queue.filter (fun y => y.ofSweep t seq)).map (Read.ending .overtaken) =
      (q.queue.filter (fun y => y.ofSweep t seq)).map Read.sweepOvertaken :=
    List.map_congr_left fun y mem => Read.ending_of_ofSweep (List.of_mem_filter mem)
  exact congrArg (fun e => Readout.mk _ (q.ended ++ e)) frames

end

end Sys2Proof.Machine

/-!
PROOF. LOAD_MAP: the checks on an item, the order of the items, and what a passed item changes (R71 to R76).
-/

namespace Sys2Proof.Machine

section
variable {t : Track} {l : Nat} {s : State}

/-! ## The checks on an item (Table 4.3) -/

theorem itemFault_big (item : LoadItem) (big : 2047 < l) : itemFault s t l item = some .badField := if_pos big

theorem itemFault_kept (item : LoadItem) (low : l ≤ 2047) {e : MapEntry} (entry : tget (s.map t) l = some e)
    (kept : e.keep = true) : itemFault s t l item = some .protectedMark := by
  unfold itemFault
  rw [if_neg (Nat.not_lt.mpr low), entry]
  exact if_pos kept

theorem itemFault_unkept (item : LoadItem) (low : l ≤ 2047) (unkept : ∀ e, tget (s.map t) l = some e → e.keep = false) :
    itemFault s t l item =
      match item with
      | .unmap => none
      | .map p _ =>
        match ownerOf s p with
        | none => none
        | some o => if o = { track := t, logical := l } then none else some .conflict := by
  unfold itemFault
  rw [if_neg (Nat.not_lt.mpr low)]
  refine if_neg ?_
  cases entry : tget (s.map t) l with
  | none => exact Bool.false_ne_true
  | some e => exact Bool.eq_false_iff.mp (unkept e entry)

/-! ## The items in order (R72) -/

theorem applyItems_passed {item : LoadItem} {rest : List LoadItem} (passed : itemFault s t l item = none) :
    applyItems t l (item :: rest) s =
      ((applyItems t (l + 1) rest (applyItem t l item s)).1, (applyItems t (l + 1) rest (applyItem t l item s)).2.1 + 1,
        (applyItems t (l + 1) rest (applyItem t l item s)).2.2) := by
  rw [applyItems, passed]

theorem applyItems_failed {item : LoadItem} {rest : List LoadItem} {st : Status} (failed : itemFault s t l item = some st) :
    applyItems t l (item :: rest) s = (st, 0, s) := by
  rw [applyItems, failed]

/-- The first item that fails after items that were applied stops the load. -/
theorem applyItems_stops {item : LoadItem} {post : List LoadItem} {st : Status} {x : State} :
    ∀ {pre : List LoadItem} {l : Nat} {s : State}, applyItems t l pre s = (.ok, pre.length, x) →
      itemFault x t (l + pre.length) item = some st → applyItems t l (pre ++ item :: post) s = (st, pre.length, x)
  | [], l, s, applied, failed => by
    cases applied
    exact applyItems_failed failed
  | y :: ys, l, s, applied, failed => by
    cases fault : itemFault s t l y with
    | some st' =>
      rw [applyItems_failed fault] at applied
      cases applied
    | none =>
      rw [applyItems_passed fault] at applied
      obtain ⟨ok, rest⟩ := Prod.mk.inj applied
      obtain ⟨count, state⟩ := Prod.mk.inj rest
      have before : applyItems t (l + 1) ys (applyItem t l y s) = (.ok, ys.length, x) :=
        Prod.ext ok (Prod.ext (Nat.succ.inj count) state)
      have stops := applyItems_stops (post := post) before (by rwa [Nat.add_assoc, Nat.add_comm 1])
      rw [List.cons_append, applyItems_passed fault, stops]
      rfl

/-! ## The request (R71, R76) -/

variable {r : RawRequest} {first : Nat} {items : List LoadItem}

theorem serveLoadMap_count (h : items = [] ∨ 256 < items.length) :
    serveLoadMap r (.loadMap t.val first items) s = some (addReply true r .badField [0, 0] s) := by
  have outside : items.length = 0 ∨ 256 < items.length := h.imp_left fun e => by rw [e]; rfl
  simp only [serveLoadMap, trackOf_val, if_pos outside]
  rfl

theorem serveLoadMap_busy (nonempty : items ≠ []) (few : items.length ≤ 256) (bound : (s.track t).state.bound = true) :
    serveLoadMap r (.loadMap t.val first items) s = some (addReply true r .busy [0, 0] s) := by
  have inside : ¬ (items.length = 0 ∨ 256 < items.length) := by
    rw [List.length_eq_zero_iff]
    exact fun h => h.elim nonempty (Nat.not_lt.mpr few)
  simp only [serveLoadMap, trackOf_val, if_neg inside, if_pos bound]
  rfl

theorem serveLoadMap_applies (nonempty : items ≠ []) (few : items.length ≤ 256) (free : (s.track t).state.bound = false)
    {st : Status} {n : Nat} {x : State} (applied : applyItems t first items s = (st, n, x)) :
    serveLoadMap r (.loadMap t.val first items) s = some (follow (addReply true r st (leBytes 2 n) x)) := by
  have inside : ¬ (items.length = 0 ∨ 256 < items.length) := by
    rw [List.length_eq_zero_iff]
    exact fun h => h.elim nonempty (Nat.not_lt.mpr few)
  simp only [serveLoadMap, trackOf_val, if_neg inside, free, applied, Bool.false_eq_true, if_false]
  rfl

end

/-- Settles O33. -/
theorem loadMapStopsAtFirstFailingItem : Obligations.LoadMapStopsAtFirstFailingItem := by
  refine ⟨fun dt s r rest t first items h => ⟨fun outside => ?_, fun nonempty few => ⟨fun bound => ?_, fun free =>
    ⟨fun pre post x s' st parts applied failed => ?_, fun s' applied => ?_⟩⟩⟩, fun s t l x rest => ⟨rfl, ?_, ?_⟩,
    fun s t l x => ⟨itemFault_big x, fun low => ⟨fun e entry kept => itemFault_kept x low entry kept, ?_⟩⟩⟩
  · exact exec_of_serves serveLoadMap h rfl (serveLoadMap_count outside)
  · exact exec_of_serves serveLoadMap h rfl (serveLoadMap_busy nonempty few ((TrackState.bound_iff _).mpr bound))
  · rw [parts] at h nonempty few
    exact exec_of_serves serveLoadMap h rfl (serveLoadMap_applies (s := handed dt s rest) nonempty few ((TrackState.not_bound_iff _).mpr free)
      (applyItems_stops applied failed))
  · exact exec_of_serves serveLoadMap h rfl (serveLoadMap_applies (s := handed dt s rest) nonempty few ((TrackState.not_bound_iff _).mpr free) applied)
  · intro passed st n s' applied
    rw [applyItems_passed passed, applied]
  · exact fun st failed => applyItems_failed failed
  · intro unkept
    rw [itemFault_unkept x low unkept]
    refine ⟨fun e => by rw [e], ?_⟩
    rintro p hp rfl
    unfold ownerOf
    refine ⟨fun free => by simp only [free], fun own => by simp only [own, if_true], fun o owner other => ?_⟩
    simp only [owner, if_neg other]

/-- Settles O32. -/
theorem loadItemKeepsMapAndOwners : Obligations.LoadItemKeepsMapAndOwners := by
  refine ⟨?_, fun dt s r rest t l item h free passed => ?_⟩
  · rintro s x t l item found rfl hfound unkept sweeps
    rw [← occupant_eq] at hfound
    obtain ⟨o, m, written⟩ := writeItem_only t l item s
    have reads := writeItem_reads (t := t) (l := l) (s := s) item
    -- the entry and the owners are those of the item's own writes
    have entries : (applyItem t l item s).maps = (writeItem t l item s).maps ∧
        (applyItem t l item s).owners = (writeItem t l item s).owners := by
      cases found with
      | none => rw [applyItem_free item hfound.symm]; exact ⟨rfl, rfl⟩
      | some f =>
        rw [applyItem_retires item hfound.symm]
        exact ⟨(retire_reads (sweeps f rfl) _).1, (retire_reads (sweeps f rfl) _).2.1⟩
    obtain ⟨maps, owners⟩ := entries
    have map (k : Track) : (applyItem t l item s).map k = (writeItem t l item s).map k :=
      congrArg (fun v : Vector (Table MapEntry) 8 => v[k]) maps
    rw [map, owners]
    refine ⟨?_, ?_, ?_, ?_, ?_, ?_⟩
    · rintro p hp rfl
      exact ⟨writeItem_map_map unkept p hp, fun e entry same => writeItem_map_owners_same entry same,
        fun other a => writeItem_map_owners_other other a⟩
    · rintro rfl
      exact ⟨writeItem_unmap_map, writeItem_unmap_owners⟩
    · rintro rfl
      rw [applyItem_free item hfound.symm]
      obtain ⟨records, track, readout, mem, -⟩ := reads t
      exact ⟨records, track, readout, mem⟩
    · rintro f rfl
      rw [applyItem_retires item hfound.symm, retire_eq t f _ (sweeps f rfl)]
      obtain ⟨records, track, readout, mem, -⟩ := reads t
      rw [records, track, readout, mem, Readout.endReads_ofSweep, TrackUnit.dropSweep_eq]
      refine ⟨State.records_putRecords_same _ _ _, rfl, rfl, fun draining => ?_, fun still => ?_, rfl⟩
      · exact (State.track_putTrack_same _ _ _).trans (if_pos draining)
      · exact (State.track_putTrack_same _ _ _).trans (if_neg still)
    · intro k ne
      obtain ⟨records, track, -, -, other⟩ := reads k
      rw [map, other ne]
      cases found with
      | none =>
        rw [applyItem_free item hfound.symm]
        exact ⟨rfl, records, track⟩
      | some f =>
        obtain ⟨-, -, record', track'⟩ := retire_reads (t := t) (sweeps f rfl) (writeItem t l item s)
        rw [applyItem_retires item hfound.symm, record', track', if_neg ne, if_neg ne]
        exact ⟨rfl, records, track⟩
    · cases found with
      | none =>
        rw [applyItem_free item hfound.symm, written]
        rfl
      | some f =>
        rw [applyItem_retires item hfound.symm, retire_eq t f _ (sweeps f rfl), written]
        rfl
  · have unbound : (s.track t).state.bound = false := by
      rw [Bool.eq_false_iff, ne_eq, TrackState.bound_iff]
      exact free
    refine exec_of_serves serveLoadMap h rfl (serveLoadMap_applies (s := handed dt s rest) (List.cons_ne_nil _ _)
      (by simp) unbound (n := 1) ?_)
    exact applyItems_passed (s := handed dt s rest) (rest := []) passed

end Sys2Proof.Machine

/-!
PROOF. The bodies of the status replies, and the queries that report them (R21, R64, R78, R79, R101, R102, R125, R134,
R163, R183, R189).
-/

namespace Sys2Proof.Machine

/-! ## Bodies -/

/-- The items of a register file in the order of their numbers. -/
theorem Vector.toList_eq_map {α : Type} {n : Nat} (v : Vector α n) : v.toList = (List.finRange n).map (fun i => v[i]) := by
  refine List.ext_getElem (by simp) fun i hi hi' => ?_
  simp

theorem present_time (o : Option Time) : present 6 timeBytes o =
    (match o with
      | none => [0, 0, 0, 0, 0, 0, 0]
      | some x => 1 :: leBytes 6 x.toNat) := by cases o <;> rfl

theorem present_seq (o : Option Nat) : present 4 seqBytes o =
    (match o with
      | none => [0, 0, 0, 0, 0]
      | some q => 1 :: leBytes 4 q) := by cases o <;> rfl

theorem markerStatusBody_eq (m : MarkerUnit) : markerStatusBody m =
    [m.state.code, polarityByte m.detected] ++ leBytes 4 m.estimate ++ leBytes 2 m.count ++ leBytes 2 m.coast
      ++ [flagByte m.early]
      ++ (match m.lastMarker with
          | none => [0, 0, 0, 0, 0, 0, 0]
          | some x => 1 :: leBytes 6 x.toNat)
      ++ [m.settings.polarityMode.code] ++ leBytes 1 m.settings.minWidth ++ leBytes 1 m.settings.tolerance
      ++ leBytes 1 m.settings.coastLimit := by
  unfold markerStatusBody
  rw [present_time]

theorem checkPageBody_eq (e : Option MapEntry) (o : Option SweepRecord) : checkPageBody e (o.map (fun x => x.seq)) =
    (match e with
      | none => [0, 0, 0, 0, 0]
      | some m => 1 :: leBytes 2 m.page.toNat ++ [flagByte m.hostProtect, flagByte m.keep])
    ++ (match o with
        | none => [0, 0, 0, 0, 0]
        | some f => 1 :: leBytes 4 f.seq) := by
  unfold checkPageBody
  cases o <;> rfl

theorem memoryStatusBody_eq (m : MemControl) : memoryStatusBody m =
    [m.state.code] ++ leInt 1 m.balance ++ [flagByte m.reentry]
      ++ (List.finRange 8).flatMap (fun b : BankId =>
          match m.banks[b].row with
          | none => [0, 0, 0]
          | some row => 1 :: leBytes 2 row)
      ++ [flagByte m.autoEnable] ++ leBytes 1 m.autoDelay := by
  unfold memoryStatusBody
  rw [Vector.toList_eq_map, List.flatMap_map]
  rfl

theorem readFaultBody_eq (c : CheckUnit) : readFaultBody c =
    (match c.lastCorrected with
      | none => [0, 0, 0, 0, 0, 0, 0, 0, 0, 0, 0]
      | some w => 1 :: wordFaultBytes w)
    ++ (match c.firstUncorrectable with
        | none => [0, 0, 0, 0, 0, 0, 0, 0, 0, 0, 0, 0, 0, 0, 0, 0, 0, 0]
        | some f => 1 :: memoryFaultBytes f)
    ++ [flagByte c.more, c.mode.code]
    ++ (match c.inject with
        | none => [0, 0, 0]
        | some i => [1, BitVec.ofNat 8 i.1.val, i.2.code]) := by
  unfold readFaultBody
  cases c.lastCorrected <;> cases c.firstUncorrectable <;> cases c.inject <;> rfl

theorem averagerStatusBody_eq (a : Averager) : averagerStatusBody a =
    [flagByte a.region.isSome, a.reason.code]
      ++ (match a.region with
          | none => [0, 0, 0, 0]
          | some g => leBytes 2 g.base ++ leBytes 2 (2 * g.length))
      ++ leBytes 2 a.k ++ [flagByte a.includeCoasted] ++ leBytes 2 a.blockCount
      ++ (match a.blockLast with
          | none => [0, 0, 0, 0, 0]
          | some q => 1 :: leBytes 4 q)
      ++ [flagByte a.publication.isSome, flagByte a.published] ++ leBytes 2 a.pubNumber.toNat
      ++ (match a.pubLast with
          | none => [0, 0, 0, 0, 0]
          | some q => 1 :: leBytes 4 q) := by
  unfold averagerStatusBody
  rw [present_seq, present_seq] <;> rfl

theorem noticeStatusBody_eq (n : NoticeUnit) : noticeStatusBody n =
    leBytes 1 n.threshold ++ (List.finRange 30).flatMap (fun src : Source => leBytes 1 (n.level src))
      ++ n.entries.flatMap (fun e =>
          BitVec.ofNat 8 e.source.val :: leBytes 1 (n.level e.source) ++ [flagByte e.again] ++ e.occurrence.bytes) := by
  unfold noticeStatusBody
  rw [Vector.toList_eq_map, List.flatMap_map]
  rfl

/-! ## Queries -/

section
variable {r : RawRequest} {t : Track} {s : State}

theorem serveMarkerStatus_unit (u : MarkerId) : serveMarkerStatus r (.markerStatus (unitByte u).toNat) s =
    some (addReply true r .ok (markerStatusBody (s.marker u)) (s.putMarker u { s.marker u with early := false })) := by
  simp only [serveMarkerStatus, unitOf_unitByte]
  rfl

theorem serveMarkerStatus_badField {n : Nat} (big : 2 ≤ n) :
    serveMarkerStatus r (.markerStatus n) s = some (addReply true r .badField [] s) := by
  simp only [serveMarkerStatus, unitOf_big big]
  rfl

theorem serveTrackStatus_ok : serveTrackStatus r (.trackStatus t.val) s =
    some (addReply true r .ok (trackStatusBody (s.track t)) s) := by
  simp only [serveTrackStatus, trackOf_val]
  rfl

theorem serveCheckPage_badField {l : Nat} (big : 2047 < l) :
    serveCheckPage r (.checkPage t.val l) s = some (addReply true r .badField [] s) := by
  simp only [serveCheckPage, trackOf_val, if_pos big]
  rfl

theorem serveCheckPage_ok {l : Nat} (low : l ≤ 2047) : serveCheckPage r (.checkPage t.val l) s =
    some (addReply true r .ok (checkPageBody (tget (s.map t) l) ((occupant s t l).map (fun x => x.seq))) s) := by
  simp only [serveCheckPage, trackOf_val, if_neg (Nat.not_lt.mpr low)]
  rfl

theorem servePageOwner_ok {p : Nat} :
    servePageOwner r (.pageOwner p) s = some (addReply true r .ok (pageOwnerBody (tget s.owners p)) s) := rfl

theorem serveListSweeps_badField {q most : Nat} (h : most = 0 ∨ 16 < most) :
    serveListSweeps r (.listSweeps t.val q most) s = some (addReply true r .badField [] s) := by
  simp only [serveListSweeps, trackOf_val, if_pos h]
  rfl

theorem serveListSweeps_ok {q most : Nat} (low : 1 ≤ most) (high : most ≤ 16) {hits : List SweepRecord}
    (found : hits = (s.records t).filter (fun y => q ≤ y.seq)) : serveListSweeps r (.listSweeps t.val q most) s =
      some (addReply true r .ok (leBytes 1 (min most hits.length) ++ leBytes 2 (hits.length - most)
        ++ (hits.take most).flatMap recordBytes) s) := by
  have inside : ¬ (most = 0 ∨ 16 < most) := by omega
  rw [← List.length_take]
  simp only [serveListSweeps, trackOf_val, if_neg inside, ← found]
  rfl

theorem serveSweepInfo_noSuch {q : Nat} (missing : ∀ y ∈ s.records t, y.seq ≠ q) :
    serveSweepInfo r (.sweepInfo t.val q) s = some (addReply true r .noSuch [] s) := by
  have nothing : findRecord s t q = none := List.find?_eq_none.mpr fun y mem => by simpa using missing y mem
  simp only [serveSweepInfo, trackOf_val, nothing]
  rfl

theorem serveSweepInfo_ok {q : Nat} {y : SweepRecord} (found : findRecord s t q = some y) :
    serveSweepInfo r (.sweepInfo t.val q) s = some (addReply true r .ok (recordBytes y) s) := by
  simp only [serveSweepInfo, trackOf_val, found]
  rfl

theorem serveMemoryStatus_ok :
    serveMemoryStatus r .memoryStatus s = some (addReply true r .ok (memoryStatusBody s.mem) s) := rfl

theorem serveReadFault_ok : serveReadFault r .readFault s = some (addReply true r .ok (readFaultBody s.check) s) := rfl

theorem serveAveragerStatus_ok : serveAveragerStatus r (.averagerStatus t.val) s =
    some (addReply true r .ok (averagerStatusBody (s.averager t)) s) := by
  simp only [serveAveragerStatus, trackOf_val]
  rfl

theorem serveNoticeStatus_ok :
    serveNoticeStatus r .noticeStatus s = some (addReply true r .ok (noticeStatusBody s.notices) s) := rfl

end

/-- Settles O34. -/
theorem queriesReportTheirUnits : Obligations.QueriesReportTheirUnits := by
  refine ⟨fun dt s r rest n h => ⟨?_, fun big => ?_⟩, fun dt s r rest t => ⟨fun h => ?_, fun l h => ⟨fun big => ?_,
    fun low => ?_⟩, fun p h => ?_, fun q most h => ⟨fun outside => ?_, fun low high hits found => ?_⟩,
    fun q h => ⟨fun missing => ?_, fun y found => ?_⟩⟩, fun dt s r rest => ⟨fun h => ?_, fun h => ?_, fun t h => ?_,
    fun h => ?_⟩⟩
  · rintro u rfl
    refine exec_of_serves serveMarkerStatus h rfl ((serveMarkerStatus_unit u).trans ?_)
    rw [handed_marker]
    exact congrArg (fun b => some (addReply true r .ok b _)) (markerStatusBody_eq _)
  · exact exec_of_serves serveMarkerStatus h rfl (serveMarkerStatus_badField big)
  · exact exec_of_serves serveTrackStatus h rfl serveTrackStatus_ok
  · exact exec_of_serves serveCheckPage h rfl (serveCheckPage_badField big)
  · exact exec_of_serves serveCheckPage h rfl ((serveCheckPage_ok low).trans
      (congrArg (fun b => some (addReply true r .ok b _)) (checkPageBody_eq _ _)))
  · exact exec_of_serves servePageOwner h rfl servePageOwner_ok
  · exact exec_of_serves serveListSweeps h rfl (serveListSweeps_badField outside)
  · exact exec_of_serves serveListSweeps h rfl (serveListSweeps_ok (s := handed dt s rest) low high found)
  · exact exec_of_serves serveSweepInfo h rfl (serveSweepInfo_noSuch (s := handed dt s rest) missing)
  · exact exec_of_serves serveSweepInfo h rfl (serveSweepInfo_ok (s := handed dt s rest) found)
  · exact exec_of_serves serveMemoryStatus h rfl (serveMemoryStatus_ok.trans
      (congrArg (fun b => some (addReply true r .ok b _)) (memoryStatusBody_eq _)))
  · exact exec_of_serves serveReadFault h rfl (serveReadFault_ok.trans
      (congrArg (fun b => some (addReply true r .ok b _)) (readFaultBody_eq _)))
  · exact exec_of_serves serveAveragerStatus h rfl (serveAveragerStatus_ok.trans
      (congrArg (fun b => some (addReply true r .ok b _)) (averagerStatusBody_eq _)))
  · exact exec_of_serves serveNoticeStatus h rfl (serveNoticeStatus_ok.trans
      (congrArg (fun b => some (addReply true r .ok b _)) (noticeStatusBody_eq _)))

end Sys2Proof.Machine

/-!
PROOF. KEEP_SWEEP, RELEASE_SWEEP and DROP_SWEEP (R69, R95, R98 to R100).
-/

namespace Sys2Proof.Machine

/-! ## A record found by its sequence -/

section
variable {s : State} {t : Track} {q : Nat}

theorem findRecord_none (missing : ∀ y ∈ s.records t, y.seq ≠ q) : findRecord s t q = none :=
  List.find?_eq_none.mpr fun y mem => by simpa using missing y mem

theorem findRecord_seq {f : SweepRecord} (found : findRecord s t q = some f) : f.seq = q := by
  simpa using List.find?_some found

/-- A record's KEPT flag and its keep marks change together (R69). -/
theorem setKept_eq {f : SweepRecord} (v : Bool) (found : findRecord s t q = some f) : setKept t v f s =
    (s.putRecords t ((s.records t).map (fun y => if y.seq = q then { y with kept := v } else y))).putMap t
      ((s.map t).map (fun c =>
        if f.firstPage ≤ c.1 ∧ c.1 < f.firstPage + (f.length + 511) / 512 then (c.1, { c.2 with keep := v }) else c)) := by
  rw [← findRecord_seq found]
  rfl

/-- The record that a DROP_SWEEP retires has no staging. -/
theorem retire_done {f : SweepRecord} (complete : f.state = .complete) :
    retire t f s = overtakeSweep t f.seq (removeRecord t f s) := by
  unfold retire
  simp only
  rw [if_neg (by simp [complete])]

/-! ## The requests -/

variable {r : RawRequest}

theorem serveKeepSweep_noSuch (missing : ∀ y ∈ s.records t, y.seq ≠ q) :
    serveKeepSweep r (.keepSweep t.val q) s = some (addReply true r .noSuch [] s) := by
  simp only [serveKeepSweep, trackOf_val, findRecord_none missing]
  rfl

theorem serveReleaseSweep_noSuch (missing : ∀ y ∈ s.records t, y.seq ≠ q) :
    serveReleaseSweep r (.releaseSweep t.val q) s = some (addReply true r .noSuch [] s) := by
  simp only [serveReleaseSweep, trackOf_val, findRecord_none missing]
  rfl

theorem serveDropSweep_noSuch (missing : ∀ y ∈ s.records t, y.seq ≠ q) :
    serveDropSweep r (.dropSweep t.val q) s = some (addReply true r .noSuch [] s) := by
  simp only [serveDropSweep, trackOf_val, findRecord_none missing]
  rfl

variable {f : SweepRecord} (found : findRecord s t q = some f)
include found

theorem serveKeepSweep_again (kept : f.kept = true) :
    serveKeepSweep r (.keepSweep t.val q) s = some (addReply true r .ok [] s) := by
  simp only [serveKeepSweep, trackOf_val, found, kept, if_true]
  rfl

theorem serveKeepSweep_full (unkept : f.kept = false) (full : 32 ≤ ((s.records t).filter (fun y => y.kept)).length) :
    serveKeepSweep r (.keepSweep t.val q) s = some (addReply true r .full [] s) := by
  have full' : Config.maxKept ≤ keptCount s t := full
  simp only [serveKeepSweep, trackOf_val, found, unkept, if_pos full', Bool.false_eq_true, if_false]
  rfl

theorem serveKeepSweep_keeps (unkept : f.kept = false) (room : ((s.records t).filter (fun y => y.kept)).length < 32) :
    serveKeepSweep r (.keepSweep t.val q) s = some (addReply true r .ok [] (setKept t true f s)) := by
  have room' : ¬ Config.maxKept ≤ keptCount s t := Nat.not_le.mpr room
  simp only [serveKeepSweep, trackOf_val, found, unkept, if_neg room', Bool.false_eq_true, if_false]
  rfl

theorem serveReleaseSweep_again (unkept : f.kept = false) :
    serveReleaseSweep r (.releaseSweep t.val q) s = some (addReply true r .ok [] s) := by
  simp only [serveReleaseSweep, trackOf_val, found, unkept, Bool.false_eq_true, if_false]
  rfl

theorem serveReleaseSweep_releases (kept : f.kept = true) :
    serveReleaseSweep r (.releaseSweep t.val q) s = some (addReply true r .ok [] (setKept t false f s)) := by
  simp only [serveReleaseSweep, trackOf_val, found, kept, if_true]
  rfl

theorem serveDropSweep_busy (incomplete : f.state ≠ .complete) :
    serveDropSweep r (.dropSweep t.val q) s = some (addReply true r .busy [] s) := by
  have still : f.incomplete = true := by simpa [SweepRecord.incomplete] using incomplete
  simp only [serveDropSweep, trackOf_val, found, still, if_true]
  rfl

theorem serveDropSweep_drops (complete : f.state = .complete) :
    serveDropSweep r (.dropSweep t.val q) s = some (follow (addReply true r .ok [] (retire t f s))) := by
  have done : f.incomplete = false := by simp [SweepRecord.incomplete, complete]
  simp only [serveDropSweep, trackOf_val, found, done, Bool.false_eq_true, if_false]
  rfl

end

/-- Settles O35. -/
theorem keptSweepsAndTheirMarks : Obligations.KeptSweepsAndTheirMarks := by
  intro dt s r rest t q
  refine ⟨fun missing => ⟨fun h => ?_, fun h => ?_, fun h => ?_⟩, fun f found => ⟨fun h => ⟨fun kept => ?_,
    fun unkept full => ?_, fun unkept room => ?_⟩, fun h => ⟨fun unkept => ?_, fun kept => ?_⟩,
    fun h => ⟨fun incomplete => ?_, fun complete => ?_⟩⟩⟩
  · exact exec_of_serves serveKeepSweep h rfl (serveKeepSweep_noSuch (s := handed dt s rest) missing)
  · exact exec_of_serves serveReleaseSweep h rfl (serveReleaseSweep_noSuch (s := handed dt s rest) missing)
  · exact exec_of_serves serveDropSweep h rfl (serveDropSweep_noSuch (s := handed dt s rest) missing)
  · exact exec_of_serves serveKeepSweep h rfl (serveKeepSweep_again (s := handed dt s rest) found kept)
  · exact exec_of_serves serveKeepSweep h rfl (serveKeepSweep_full (s := handed dt s rest) found unkept full)
  · refine exec_of_serves serveKeepSweep h rfl ((serveKeepSweep_keeps (s := handed dt s rest) found unkept room).trans ?_)
    rw [setKept_eq (s := handed dt s rest) true found, handed_records, handed_map]
  · exact exec_of_serves serveReleaseSweep h rfl (serveReleaseSweep_again (s := handed dt s rest) found unkept)
  · refine exec_of_serves serveReleaseSweep h rfl ((serveReleaseSweep_releases (s := handed dt s rest) found kept).trans ?_)
    rw [setKept_eq (s := handed dt s rest) false found, handed_records, handed_map]
  · exact exec_of_serves serveDropSweep h rfl (serveDropSweep_busy (s := handed dt s rest) found incomplete)
  · refine ⟨_, exec_of_serves serveDropSweep h rfl (serveDropSweep_drops (s := handed dt s rest) found complete), ?_⟩
    have index (k : Track) : (retire t f (handed dt s rest)).indexOf k =
        if k = t then (s.indexOf t).remove f else s.indexOf k := retire_index _ _ _ f
    have own := index t
    rw [if_pos rfl] at own
    have readout : (retire t f (handed dt s rest)).readout =
        s.readout.endReads (Read.ofSweep t f.seq) .overtaken := by
      have kept : (removeRecord t f (handed dt s rest)).readout = s.readout := by simp
      rw [retire_done complete]
      unfold overtakeSweep
      rw [endReads_eq, ← kept]
      exact congrArg (Readout.endReads _ _) (kept.trans kept.symm)
    have tracks : (retire t f (handed dt s rest)).tracks = s.tracks := by
      rw [retire_done complete]
      simp
    rw [findRecord_seq found, Readout.endReads_ofSweep] at readout
    simp only [follow_reads, follow_frame, addReply_reads, addReply_frame, addReply_link, readout, tracks, retire_frame]
    refine ⟨?_, ?_, trivial, trivial, rfl, trivial, rfl, rfl, rfl, fun k ne => ?_⟩
    · rw [← findRecord_seq found]
      exact congrArg TrackIndex.records own
    · exact congrArg TrackIndex.map own
    · have other := index k
      rw [if_neg ne] at other
      exact ⟨congrArg TrackIndex.records other, congrArg TrackIndex.map other⟩

end Sys2Proof.Machine

/-!
PROOF. STANDBY, WAKE, SET_AUTO_STANDBY and the expiry of the delay timer (R116 to R123).
-/

namespace Sys2Proof.Machine

/-! ## STANDBY and WAKE (R116, R121) -/

section
variable {r : RawRequest} {s : State} {able : Prop}

theorem standbyAllowed_iff (s : State) : standbyAllowed s = true ↔
    (∀ t, (s.track t).state ≠ .sweeping ∧ (s.track t).state ≠ .awaiting ∧ (s.track t).state ≠ .stopping) ∧
      s.readout.queue = [] ∧ s.mem.reentry = false := by
  unfold standbyAllowed
  rw [Bool.and_eq_true, Bool.and_eq_true, noneCapturing_iff, List.isEmpty_iff, Bool.not_eq_true', and_assoc]

theorem serveStandby_running (state : s.mem.state = .running) (able : standbyAllowed s = true) :
    serveStandby r .standby s = some (settle ((holdInHand r s).setMem { s.mem with state := .entering .request })) := by
  simp only [serveStandby, state, able, if_true]
  rfl

theorem serveStandby_entering {c : EntryCause} (state : s.mem.state = .entering c) (able : standbyAllowed s = true) :
    serveStandby r .standby s = some (holdInHand r s) := by
  simp only [serveStandby, state, able, if_true]

theorem serveStandby_unable (state : s.mem.state = .running ∨ ∃ c, s.mem.state = .entering c)
    (unable : standbyAllowed s = false) : serveStandby r .standby s = some (addReply true r .busy [] s) := by
  rcases state with state | ⟨c, state⟩ <;> simp only [serveStandby, state, unable, Bool.false_eq_true, if_false] <;> rfl

theorem serveStandby_asleep (state : s.mem.state = .standby) :
    serveStandby r .standby s = some (addReply true r .ok [] s) := by
  simp only [serveStandby, state]
  rfl

theorem serveStandby_waking {c : WakeCause} (state : s.mem.state = .waking c) :
    serveStandby r .standby s = some (addReply true r .busy [] s) := by
  simp only [serveStandby, state]
  rfl

theorem serveWake_running (state : s.mem.state = .running) :
    serveWake r .wake s = some (addReply true r .ok [] s) := by
  simp only [serveWake, state]
  rfl

theorem serveWake_asleep (state : s.mem.state = .standby) :
    serveWake r .wake s = some ((holdInHand r s).setMem { s.mem with state := .waking .wake }) := by
  simp only [serveWake, state]
  rfl

theorem serveWake_waking {c : WakeCause} (state : s.mem.state = .waking c) :
    serveWake r .wake s = some (holdInHand r s) := by
  simp only [serveWake, state]

theorem serveWake_entering {c : EntryCause} (state : s.mem.state = .entering c) :
    serveWake r .wake s = some ((holdInHand r s).setMem { (holdInHand r s).mem with heldWake := true }) := by
  simp only [serveWake, state]

/-- A STANDBY or WAKE request by its code (Table 12.3). -/
theorem code_of_standby (h : parseRequest r = some .standby) : r.code = 0x40 := by
  have spelled := (parseRequest_iff r .standby).mp h
  generalize r.code = code at spelled
  generalize r.payload = payload at spelled
  cases spelled
  rfl

end

/-- Settles O36. -/
theorem standbyAndWakeByMemoryState : Obligations.StandbyAndWakeByMemoryState := by
  intro dt s r rest able hable
  have allowed : able ↔ standbyAllowed (handed dt s rest) = true := hable.trans (standbyAllowed_iff (handed dt s rest)).symm
  have unable : ¬ able → standbyAllowed (handed dt s rest) = false := fun no => Bool.eq_false_iff.mpr (mt allowed.mpr no)
  refine ⟨fun h => ⟨fun state yes => ?_, fun ⟨c, state⟩ yes => ?_, fun state no => ?_, fun state => ?_,
    fun ⟨c, state⟩ => ?_⟩, fun h => ⟨fun state => ?_, fun state => ?_, fun ⟨c, state⟩ => ?_, fun ⟨c, state⟩ => ?_⟩⟩
  · have run := exec_of_serves (c := .standby dt) serveStandby h rfl
      (serveStandby_running (r := r) (s := handed dt s rest) state (allowed.mp yes))
    refine ⟨run, fun busy => ⟨_, run, ?_⟩, fun granted refresh balance closed => ⟨_, run, ?_⟩⟩
    · obtain ⟨granted, state', -, -, -, link, -⟩ := settle_keeps
        (s := (holdInHand r (handed dt s rest)).setMem { (handed dt s rest).mem with state := .entering .request })
        (.inr ⟨⟨_, rfl⟩, busy⟩)
      rw [granted, state', link]
      exact ⟨rfl, rfl, rfl, rfl⟩
    · obtain ⟨-, -, ends, posted, link⟩ := settle_entryCompletes
        (s := (holdInHand r (handed dt s rest)).setMem { (handed dt s rest).mem with state := .entering .request })
        granted rfl refresh balance closed
      have reply := completeInHand_link (code := 0x40)
        (s := (holdInHand r (handed dt s rest)).setMem { (handed dt s rest).mem with state := .entering .request })
        rfl (code_of_standby h.2.2.2.2)
      have requested : burstRequested ((holdInHand r (handed dt s rest)).setMem
          { (handed dt s rest).mem with state := .entering .request }) = burstRequested s :=
        burstRequested_congr rfl rfl rfl rfl
      rw [ends, posted, link, reply, settle_mem_rest]
      unfold State.entryEnd
      rw [requested]
      exact ⟨rfl, rfl, rfl, rfl, rfl⟩
  · exact exec_of_serves serveStandby h rfl (serveStandby_entering (s := handed dt s rest) state (allowed.mp yes))
  · exact exec_of_serves serveStandby h rfl (serveStandby_unable (s := handed dt s rest) state (unable no))
  · exact exec_of_serves serveStandby h rfl (serveStandby_asleep (s := handed dt s rest) state)
  · exact exec_of_serves serveStandby h rfl (serveStandby_waking (s := handed dt s rest) state)
  · exact exec_of_serves serveWake h rfl (serveWake_running (s := handed dt s rest) state)
  · exact exec_of_serves serveWake h rfl (serveWake_asleep (s := handed dt s rest) state)
  · exact exec_of_serves serveWake h rfl (serveWake_waking (s := handed dt s rest) state)
  · exact exec_of_serves serveWake h rfl (serveWake_entering (s := handed dt s rest) state)

/-! ## SET_AUTO_STANDBY and the delay timer (R122, R123) -/

section
variable {r : RawRequest} {s : State} {enable : Bool} {delay : Option Nat}

theorem serveSetAutoStandby_badField (outside : ∃ d, delay = some d ∧ (d = 0 ∨ 255 < d)) :
    serveSetAutoStandby r (.setAutoStandby enable delay) s = some (addReply true r .badField [] s) := by
  obtain ⟨d, rfl, outside⟩ := outside
  have refused : (some d).any (fun d => d = 0 || 255 < d) = true := by simpa using outside
  unfold serveSetAutoStandby
  simp only
  rw [if_pos refused]
  rfl

/-- The request stops the timer, which then follows its conditions. -/
theorem serveSetAutoStandby_ok (inside : ∀ d, delay = some d → 1 ≤ d ∧ d ≤ 255) :
    serveSetAutoStandby r (.setAutoStandby enable delay) s = some (addReply true r .ok [] (s.setMem { s.mem with
      autoEnable := enable, autoDelay := delay.getD s.mem.autoDelay,
      autoTimer := if enable && autoConditions s then .running 0 else .stopped })) := by
  have taken : ¬ delay.any (fun d => d = 0 || 255 < d) = true := by
    cases delay with
    | none => exact Bool.false_ne_true
    | some d =>
      have := inside d rfl
      simp only [Option.any_some, Bool.or_eq_true, decide_eq_true_eq]
      omega
  unfold serveSetAutoStandby
  simp only
  rw [if_neg taken]
  rfl

/-- The timer of the delay has not run out, or the delay is off (R123). -/
theorem delayExpiry_early {e : Nat} (timer : s.mem.autoTimer = .running e) (early : e < s.mem.autoDelay * 4000000) :
    delayExpiry s = s := by
  have early' : ¬ s.mem.autoDelay * Config.delayUnit ≤ e := Nat.not_le.mpr early
  simp only [delayExpiry, timer, if_neg early']

theorem delayExpiry_waits {e : Nat} (timer : s.mem.autoTimer = .running e) (due : s.mem.autoDelay * 4000000 ≤ e)
    (reentry : s.mem.reentry = true) : delayExpiry s = s.setMem { s.mem with autoTimer := .expired } := by
  have due' : s.mem.autoDelay * Config.delayUnit ≤ e := due
  simp only [delayExpiry, timer, if_pos due', reentry, if_true]

theorem delayExpiry_enters {e : Nat} (timer : s.mem.autoTimer = .running e) (due : s.mem.autoDelay * 4000000 ≤ e)
    (reentry : s.mem.reentry = false) : delayExpiry s = setMemState (.entering .auto) s := by
  have due' : s.mem.autoDelay * Config.delayUnit ≤ e := due
  simp only [delayExpiry, timer, if_pos due', reentry, Bool.false_eq_true, if_false]

theorem delayExpiry_idle (timer : s.mem.autoTimer = .stopped ∨ s.mem.autoTimer = .expired) : delayExpiry s = s := by
  rcases timer with timer | timer <;> simp only [delayExpiry, timer]

end

theorem exec_delayExpiry {dt : Nat} {s : State} (free : s.resetHeld = false) :
    exec (.autoStandbyDelayExpiry dt) s = .next (settle (delayExpiry (elapse dt s))) :=
  exec_of_live (f := fun s => settle (delayExpiry s)) free rfl

/-- Settles O38. -/
theorem autoStandbyTimerAndExpiry : Obligations.AutoStandbyTimerAndExpiry := by
  intro dt s
  refine ⟨fun r rest enable delay quiet hquiet h => ⟨fun outside => ?_, fun inside => ⟨fun on yes => ?_, fun off => ?_⟩⟩,
    fun free => ⟨fun e timer => ?_, fun still => ?_⟩⟩
  · exact exec_of_serves serveSetAutoStandby h rfl (serveSetAutoStandby_badField outside)
  · have conditions : autoConditions (handed dt s rest) = true := (autoConditions_iff _).mpr (hquiet.mp yes)
    refine exec_of_serves serveSetAutoStandby h rfl ((serveSetAutoStandby_ok inside).trans ?_)
    rw [conditions, on]
    rfl
  · have conditions : (enable && autoConditions (handed dt s rest)) = false := by
      rcases off with off | no
      · rw [off, Bool.false_and]
      · have unquiet : autoConditions (handed dt s rest) = false :=
          Bool.eq_false_iff.mpr fun c => no (hquiet.mpr ((autoConditions_iff _).mp c))
        rw [unquiet, Bool.and_false]
    refine exec_of_serves serveSetAutoStandby h rfl ((serveSetAutoStandby_ok inside).trans ?_)
    rw [conditions]
    rfl
  · have running : (elapse dt s).mem.autoTimer = .running (e + dt) := by
      show s.mem.autoTimer.advance dt = _
      rw [timer]
      rfl
    refine ⟨fun early => ?_, fun due reentry => ?_, fun due reentry => ?_⟩
    · rw [exec_delayExpiry free, delayExpiry_early running early]
    · rw [exec_delayExpiry free, delayExpiry_waits running due reentry]
      rfl
    · rw [exec_delayExpiry free, delayExpiry_enters running due reentry, ← running]
      rfl
  · rw [exec_delayExpiry free, delayExpiry_idle]
    rcases still with timer | timer
    · exact .inl (congrArg (AutoTimer.advance dt) timer)
    · exact .inr (congrArg (AutoTimer.advance dt) timer)

end Sys2Proof.Machine

/-!
PROOF. The arbiter's order of grants (R109, R111, R112, Table 6.2).
-/

namespace Sys2Proof.Machine

/-! ## Round robin among writers (R112) -/

/-- The first track from a pointer on that asks. -/
theorem pickTrack_some {p : Track → Bool} {ptr t : Track} (asks : p t = true)
    (first : ∀ k : Track, (k - ptr).val < (t - ptr).val → p k = false) : pickTrack p ptr = some t := by
  unfold pickTrack
  rw [List.find?_map, Option.map_eq_some_iff]
  refine ⟨t - ptr, ?_, add_sub_cancel _ _⟩
  rw [List.find?_eq_some_iff_getElem]
  refine ⟨?_, (t - ptr).val, by simp, by simp, fun j below => ?_⟩
  · rw [Function.comp_apply, add_sub_cancel]
    exact asks
  · rw [Function.comp_apply, List.getElem_finRange, Bool.not_eq_true', first]
    rw [add_sub_cancel_left]
    exact below

theorem pickTrack_none {p : Track → Bool} {ptr : Track} (calm : ∀ t, p t = false) : pickTrack p ptr = none :=
  List.find?_eq_none.mpr fun t _ => by simp [calm t]

/-! ## The arbiter's choice -/

section
variable {s : State}

theorem arbitrate_not (h : s.mem.state ≠ .running ∨ s.mem.refresh ≠ .none) : arbitrate s = s :=
  if_neg (by rcases h with h | h <;> simp [h])

variable (running : s.mem.state = .running) (idle : s.mem.refresh = .none)
include running idle

theorem arbitrate_running : arbitrate s =
    if s.mem.balance = 8 then grantRefresh s
    else if burstRequested s then if s.mem.granted.length < 4 then grantBurst s else s
    else if -8 < s.mem.balance then grantRefresh s
    else s :=
  if_pos (by simp [running, idle])

theorem arbitrate_overdue (overdue : s.mem.balance = 8) : arbitrate s = s.setMem { s.mem with refresh := .waiting } := by
  rw [arbitrate_running running idle, if_pos overdue]
  rfl

variable (due : s.mem.balance ≠ 8)
include due

theorem arbitrate_full (full : 4 ≤ s.mem.granted.length)
    (asked : (∃ t, writerRequests s t = true) ∨ engineBlock s ≠ none) : arbitrate s = s := by
  rw [arbitrate_running running idle, if_neg due, if_pos ((burstRequested_iff s).mpr asked),
    if_neg (Nat.not_lt.mpr full)]

theorem arbitrate_burst (room : s.mem.granted.length < 4)
    (asked : (∃ t, writerRequests s t = true) ∨ engineBlock s ≠ none) : arbitrate s = grantBurst s := by
  rw [arbitrate_running running idle, if_neg due, if_pos ((burstRequested_iff s).mpr asked), if_pos room]

theorem arbitrate_quiet (writers : ∀ t, writerRequests s t = false) (engine : engineBlock s = none) :
    arbitrate s = if -8 < s.mem.balance then s.setMem { s.mem with refresh := .waiting } else s := by
  have quiet : ¬ burstRequested s = true := by
    rw [burstRequested_iff]
    rintro (⟨t, asks⟩ | asks)
    · rw [writers t] at asks
      cases asks
    · exact asks engine
  rw [arbitrate_running running idle, if_neg due, if_neg quiet]
  rfl

end

section
variable {s : State} {t : Track}

theorem writerRequests_of_urgent (urgent : writerUrgent s t = true) : writerRequests s t = true :=
  (Bool.and_eq_true_iff.mp urgent).1

theorem grantBurst_urgent (urgent : writerUrgent s t = true)
    (first : ∀ k : Track, (k - s.mem.urgentPointer).val < (t - s.mem.urgentPointer).val → writerUrgent s k = false) :
    grantBurst s = (grantWriter t s).setMem { (grantWriter t s).mem with urgentPointer := t + 1 } := by
  unfold grantBurst
  rw [pickTrack_some urgent first]

theorem grantBurst_read (calm : ∀ t, writerUrgent s t = false) (engine : engineBlock s ≠ none) :
    grantBurst s = grantRead s := by
  unfold grantBurst
  rw [pickTrack_none calm]
  exact if_pos (Option.isSome_iff_ne_none.mpr engine)

theorem grantBurst_normal (calm : ∀ t, writerUrgent s t = false) (engine : engineBlock s = none)
    (asks : writerRequests s t = true)
    (first : ∀ k : Track, (k - s.mem.normalPointer).val < (t - s.mem.normalPointer).val → writerRequests s k = false) :
    grantBurst s = (grantWriter t s).setMem { (grantWriter t s).mem with normalPointer := t + 1 } := by
  unfold grantBurst
  rw [pickTrack_none calm, pickTrack_some asks first]
  exact if_neg (by rw [engine]; exact Bool.false_ne_true)

end

theorem exec_memoryGrant {dt : Nat} {s : State} (free : s.resetHeld = false) :
    exec (.memoryGrant dt) s = .next (settle (arbitrate (elapse dt s))) :=
  exec_of_live (f := fun s => settle (arbitrate s)) free rfl

/-- Settles O39. -/
theorem grantsFollowClassOrder : Obligations.GrantsFollowClassOrder := by
  rintro dt s e free rfl
  rw [exec_memoryGrant free]
  refine ⟨fun away => ?_, fun running idle => ⟨fun overdue => ?_, fun due => ⟨fun full asked => ?_, fun room =>
    ⟨fun t urgent first => ?_, fun calm => ⟨fun engine => ?_, fun engine t asks first => ?_⟩⟩, fun writers engine =>
    ⟨fun low => ?_, fun high => ?_⟩⟩⟩⟩
  · rw [arbitrate_not (s := elapse dt s) away]
  · rw [arbitrate_overdue (s := elapse dt s) running idle overdue]
  · rw [arbitrate_full (s := elapse dt s) running idle due full asked]
  · rw [arbitrate_burst (s := elapse dt s) running idle due room (.inl ⟨t, writerRequests_of_urgent urgent⟩),
      grantBurst_urgent urgent first]
  · rw [arbitrate_burst (s := elapse dt s) running idle due room (.inr engine), grantBurst_read calm engine]
  · rw [arbitrate_burst (s := elapse dt s) running idle due room (.inl ⟨t, asks⟩), grantBurst_normal calm engine asks first]
  · rw [arbitrate_quiet (s := elapse dt s) running idle due writers engine]
    exact congrArg (fun x => Host.Outcome.next (settle x)) (if_pos low)
  · rw [arbitrate_quiet (s := elapse dt s) running idle due writers engine]
    exact congrArg (fun x => Host.Outcome.next (settle x)) (if_neg (Int.not_lt.mpr high))

end Sys2Proof.Machine

/-!
PROOF. The refresh timer, the refresh service and the end of waking (R113 to R115, R120, R123).
-/

namespace Sys2Proof.Machine

/-! ## The refresh interval timer (R113, R114) -/

section
variable {s : State} {left : Nat}

theorem refreshExpiry_early (early : s.refreshElapsed < 312) : refreshExpiry s = s := by
  have early' : ¬ Config.refreshInterval ≤ s.refreshElapsed := Nat.not_le.mpr early
  exact if_neg early'

theorem refreshExpiry_due (due : s.refreshElapsed = 312 + left) : refreshExpiry s =
    if s.mem.state.countsExpiries then expire (s.time - BitVec.ofNat 48 left) (s.setRefreshElapsed left)
    else s.setRefreshElapsed left := by
  have due' : Config.refreshInterval ≤ s.refreshElapsed := by
    rw [due]
    exact Nat.le_add_right _ _
  have late : s.refreshElapsed - Config.refreshInterval = left := by
    rw [due]
    exact Nat.add_sub_cancel_left _ _
  unfold refreshExpiry
  rw [if_pos due', late]
  rfl

theorem recordFault_eq (f : MemoryFaultRecord) (s : State) : recordFault f s = s.setCheck
    (match s.check.firstUncorrectable with
      | none => { s.check with firstUncorrectable := some f }
      | some _ => { s.check with more := true }) := by
  unfold recordFault
  cases s.check.firstUncorrectable <;> rfl

theorem expire_counts {time : Time} (room : s.mem.balance < 8) :
    expire time s = s.setMem { s.mem with balance := s.mem.balance + 1 } := if_pos room

theorem expire_overruns {time : Time} (full : 8 ≤ s.mem.balance) : expire time s =
    post Source.memoryFault (.memoryFault (.refreshOverrun time)) (recordFault (.refreshOverrun time) s) :=
  if_neg (Int.not_lt.mpr full)

theorem exec_refreshExpiry {dt : Nat} (free : s.resetHeld = false) :
    exec (.refreshIntervalExpiry dt) s = .next (settle (refreshExpiry (elapse dt s))) :=
  exec_of_live (f := fun s => settle (refreshExpiry s)) free rfl

/-! ## The refresh in flight (R115, R123) -/

theorem endRefresh_idle (h : s.mem.refresh ≠ .inFlight) : endRefresh s = s := if_neg h

/-- Whether an expiry of the delay timer waited for this refresh (R123). -/
def waitedRefresh (s : State) : Bool :=
  s.mem.reentry && s.mem.autoTimer = .expired && s.mem.autoEnable && autoConditions s

theorem waitedRefresh_iff (s : State) : waitedRefresh s = true ↔
    s.mem.reentry = true ∧ s.mem.autoTimer = .expired ∧ s.mem.autoEnable = true ∧ autoConditions s = true := by
  simp [waitedRefresh, and_assoc]

theorem endRefresh_inFlight (h : s.mem.refresh = .inFlight) : endRefresh s =
    if waitedRefresh s then
      s.setMem { s.mem with
        refresh := .none, balance := s.mem.balance - 1, reentry := false, state := .entering .auto }
    else s.setMem { s.mem with refresh := .none, balance := s.mem.balance - 1, reentry := false } :=
  if_pos h

theorem exec_refreshComplete {dt : Nat} (free : s.resetHeld = false) :
    exec (.refreshComplete dt) s = .next (settle (endRefresh (elapse dt s))) :=
  exec_of_live (f := fun s => settle (endRefresh s)) free rfl

/-! ## The end of waking (R120) -/

theorem endWaking_not (h : ∀ c, s.mem.state ≠ .waking c) : endWaking s = s := by
  unfold endWaking
  split
  · next c waking => exact absurd waking (h c)
  · rfl
  · rfl
  · rfl

theorem endWaking_waking {c : WakeCause} (h : s.mem.state = .waking c) : endWaking s =
    completeInHand 0x41 (post Source.standbyChange (.standbyChange (.running c) s.time 0)
      (s.setMem { s.mem with balance := 0, state := .running, reentry := true, heldWake := false })) := by
  unfold endWaking
  split
  · next d waking =>
    rw [h] at waking
    cases waking
    rfl
  all_goals next other => rw [h] at other; cases other

theorem completeInHand_some {r : RawRequest} {code : Nat} (inHand : s.link.inHand = some r) (kind : r.code = code) :
    completeInHand code s = addReply true r .ok [] (s.setLink { s.link with inHand := none }) := by
  unfold completeInHand
  rw [inHand]
  exact if_pos kind

theorem exec_wakingExit {dt : Nat} (free : s.resetHeld = false) :
    exec (.wakingExitComplete dt) s = .next (settle (endWaking (elapse dt s))) :=
  exec_of_live (f := fun s => settle (endWaking s)) free rfl

end

/-- Settles O45. -/
theorem refreshTimerServiceAndWaking : Obligations.RefreshTimerServiceAndWaking := by
  constructor
  · rintro dt s e free rfl
    rw [exec_refreshExpiry free, exec_refreshComplete free, exec_wakingExit free]
    refine ⟨fun early => ?_, fun left due => ⟨fun still => ?_, fun counts => ⟨fun room => ?_, fun full => ?_⟩⟩,
      fun idle => ?_, fun inFlight timer => ?_, ?_, fun awake => ?_, ?_⟩
    · rw [refreshExpiry_early (s := elapse dt s) early]
    · rw [refreshExpiry_due (s := elapse dt s) due]
      have uncounted : ¬ (elapse dt s).mem.state.countsExpiries = true := by
        rcases still with state | ⟨c, state⟩
        · exact Bool.eq_false_iff.mp (congrArg MemState.countsExpiries state)
        · exact Bool.eq_false_iff.mp (congrArg MemState.countsExpiries state)
      rw [if_neg uncounted]
    · have counted : (elapse dt s).mem.state.countsExpiries = true := by
        rcases counts with state | ⟨c, state⟩
        · exact congrArg MemState.countsExpiries state
        · exact congrArg MemState.countsExpiries state
      rw [refreshExpiry_due (s := elapse dt s) due, if_pos counted,
        expire_counts (s := (elapse dt s).setRefreshElapsed left) room]
      rfl
    · rintro at' rfl
      have counted : (elapse dt s).mem.state.countsExpiries = true := by
        rcases counts with state | ⟨c, state⟩
        · exact congrArg MemState.countsExpiries state
        · exact congrArg MemState.countsExpiries state
      rw [refreshExpiry_due (s := elapse dt s) due, if_pos counted,
        expire_overruns (s := (elapse dt s).setRefreshElapsed left) full, recordFault_eq]
      rfl
    · rw [endRefresh_idle (s := elapse dt s) idle]
    · have unwaited : ¬ waitedRefresh (elapse dt s) = true := by
        have timer' : (elapse dt s).mem.autoTimer ≠ .expired := by
          show s.mem.autoTimer.advance dt ≠ _
          cases running : s.mem.autoTimer with
          | expired => exact absurd running timer
          | stopped => exact nofun
          | running e => exact nofun
        exact fun waited => timer' ((waitedRefresh_iff _).mp waited).2.1
      rw [endRefresh_inFlight (s := elapse dt s) inFlight, if_neg unwaited]
      rfl
    · intro inFlight timer enabled reentry state noA noB capturing queue
      have waited : waitedRefresh (elapse dt s) = true := by
        exact (waitedRefresh_iff _).mpr ⟨reentry, congrArg (AutoTimer.advance dt) timer, enabled,
          (autoConditions_iff _).mpr ⟨noA, noB, capturing, queue, state⟩⟩
      rw [endRefresh_inFlight (s := elapse dt s) inFlight, if_pos waited]
      rfl
    · rw [endWaking_not (s := elapse dt s) awake]
    · rintro cause y waking rfl
      rw [endWaking_waking (s := elapse dt s) waking]
      refine ⟨fun free => ?_, fun r inHand code => ?_⟩
      · refine congrArg (fun x => Host.Outcome.next (settle x)) (completeInHand_other fun r inHand => ?_)
        exact nomatch free.symm.trans inHand
      · exact congrArg (fun x => Host.Outcome.next (settle x)) (completeInHand_some (r := r) inHand code)
  · intro dt s free running idle balance granted still
    have run := exec_memoryGrant (dt := dt) free
    rw [arbitrate_overdue (s := elapse dt s) running idle balance] at run
    refine ⟨_, run, ?_⟩
    obtain ⟨banks, refresh, -⟩ := settle_refreshGranted
      (s := (elapse dt s).setMem { (elapse dt s).mem with refresh := .waiting }) granted (.inl rfl)
    have bank (b : BankId) : (s.mem.banks[b].row = none → s.mem.closeOpen.banks[b] = { row := none, step := .none }) ∧
        (∀ row, s.mem.banks[b].row = some row → s.mem.closeOpen.banks[b] = { row := none, step := .closing }) := by
      have closes : s.mem.closeOpen.banks[b] = s.mem.banks[b].beginClose := by simp [MemControl.closeOpen]
      rw [closes]
      have step := still b
      generalize s.mem.banks[b] = bank at step ⊢
      obtain ⟨row, at'⟩ := bank
      cases step
      cases row with
      | none => exact ⟨fun _ => rfl, nofun⟩
      | some row => exact ⟨nofun, fun _ _ => rfl⟩
    refine ⟨?_, ?_, ?_, fun closed => ?_, fun ⟨b, row, isOpen⟩ => ?_⟩
    · rw [settle_mem_rest]
      exact balance
    · rw [settle_mem_rest]
      exact granted
    · intro b
      rw [banks]
      exact bank b
    · rw [refresh]
      exact if_pos ((MemControl.noSteps_iff _).mpr fun b => congrArg Bank.step ((bank b).1 (closed b)))
    · rw [refresh]
      refine if_neg fun quiet => ?_
      have closing : BankStep.closing = .none :=
        (congrArg Bank.step ((bank b).2 row isOpen)).symm.trans ((MemControl.noSteps_iff _).mp quiet b)
      cases closing

end Sys2Proof.Machine

/-!
PROOF. A completed close or open step of a bank (R106 to R108, R115).
-/

namespace Sys2Proof.Machine

section
variable {s : State} {b : BankId}

theorem endClose_idle (h : s.mem.banks[b].step ≠ .closing) : endClose b s = s := if_neg h

theorem endClose_closed (h : s.mem.banks[b] = { row := none, step := .closing }) :
    endClose b s = s.setMem (s.mem.setBank b { row := none, step := .none }) := by
  unfold endClose
  rw [h]
  rfl

theorem endOpen_idle (h : ∀ row, s.mem.banks[b].step ≠ .opening row) : endOpen b s = s := by
  unfold endOpen
  split
  · next row opening => exact absurd opening (h row)
  · rfl
  · rfl

theorem endOpen_opened {row : Nat} (h : s.mem.banks[b].step = .opening row) :
    endOpen b s = s.setMem (s.mem.setBank b { row := some row, step := .none }) := by
  unfold endOpen
  split
  · next r opening =>
    rw [h] at opening
    cases opening
    rfl
  all_goals next other => rw [h] at other; cases other

theorem MemControl.setBank_same (m : MemControl) (b : BankId) (x : Bank) : (m.setBank b x).banks[b] = x := by
  simp [MemControl.setBank]

theorem MemControl.setBank_other (m : MemControl) {b c : BankId} (x : Bank) (ne : c ≠ b) :
    (m.setBank b x).banks[c] = m.banks[c] := by
  have apart : b.val ≠ c.val := fun e => ne (Fin.ext e.symm)
  simp [MemControl.setBank, apart]

/-- With no burst granted the end of a step leaves a CLOSED bank alone. -/
theorem settle_bank_closed (granted : s.mem.granted = []) (row : s.mem.banks[b].row = none) :
    (settle s).mem.banks[b] = s.mem.banks[b] := by
  have shut : s.mem.closeOpen.banks[b] = s.mem.banks[b] :=
    MemControl.closeOpen_bank (fun _ => rfl) fun isOpen => absurd row isOpen
  cases refresh : s.mem.refresh with
  | waiting =>
    obtain ⟨banks, -⟩ := settle_refreshGranted granted (.inl refresh)
    rw [banks, shut]
  | closing =>
    obtain ⟨banks, -⟩ := settle_refreshClosing granted refresh
    rw [banks]
  | inFlight =>
    obtain ⟨banks, -⟩ := settle_idle granted (.inl refresh)
    rw [banks]
  | none =>
    by_cases entry : ∃ c, s.mem.state = .entering c
    · obtain ⟨c, state⟩ := entry
      by_cases above : 0 < s.mem.balance
      · obtain ⟨banks, -⟩ := settle_refreshGranted granted (.inr ⟨refresh, ⟨c, state⟩, above⟩)
        rw [banks, shut]
      · by_cases left : ∃ b : BankId, s.mem.banks[b].row ≠ none ∨ s.mem.banks[b].step ≠ .none
        · obtain ⟨banks, -⟩ := settle_entryCloses granted state refresh (Int.not_lt.mp above) left
          rw [banks, shut]
        · have closed (b : BankId) : s.mem.banks[b] = { row := none, step := .none } := by
            obtain ⟨row, step⟩ := not_or.mp (not_exists.mp left b)
            rw [Bank.mk.injEq]
            exact ⟨not_not.mp row, not_not.mp step⟩
          obtain ⟨banks, -⟩ := settle_entryCompletes granted state refresh (Int.not_lt.mp above) closed
          rw [banks]
    · obtain ⟨banks, -⟩ := settle_idle granted (.inr ⟨refresh, fun c state => entry ⟨c, state⟩⟩)
      rw [banks]

/-- A refresh that closes the banks goes on while a step is left. -/
theorem settle_stillClosing (refresh : s.mem.refresh = .closing) (left : ∃ c : BankId, s.mem.banks[c].step ≠ .none) :
    (settle s).mem.refresh = .closing := by
  obtain ⟨c, step⟩ := left
  by_cases granted : s.mem.granted = []
  · obtain ⟨-, stage, -⟩ := settle_refreshClosing granted refresh
    rw [stage]
    exact if_neg fun quiet => step ((MemControl.noSteps_iff _).mp quiet c)
  · obtain ⟨-, -, stage, -⟩ := settle_granted granted
    have busy : ¬ s.mem.stepBanks.noSteps = true := fun quiet =>
      step ((congrArg Bank.step ((s.mem.stepBanks_bank c).1 (.inr (.inr step)))).symm.trans
        ((MemControl.noSteps_iff _).mp quiet c))
    rw [stage, if_neg (by simp [busy]), refresh]

/-- A bank that is OPEN on its head burst's row takes no step (R107). -/
theorem stepBanks_openOn {m : MemControl} {h : Burst} (head : m.granted.find? (fun x => x.page.toNat % 8 = b.val) = some h)
    (isOpen : m.banks[b] = { row := some (h.page.toNat / 8), step := .none }) : m.stepBanks.banks[b] = m.banks[b] := by
  obtain ⟨keeps, steps⟩ := m.stepBanks_bank b
  by_cases busy : m.dataPath = some b
  · exact keeps (.inr (.inl busy))
  · exact (steps h head busy (congrArg Bank.step isOpen)).2.1 (congrArg Bank.row isOpen)

theorem granted_of_head {g : List Burst} {p : Burst → Bool} {h : Burst} (head : g.find? p = some h) : g ≠ [] :=
  List.ne_nil_of_mem (List.mem_of_find?_eq_some head)

theorem exec_closeStep {dt : Nat} (free : s.resetHeld = false) :
    exec (.closeStepComplete dt b) s = .next (settle (endClose b (elapse dt s))) :=
  exec_of_live (f := fun s => settle (endClose b s)) free rfl

theorem exec_openStep {dt : Nat} (free : s.resetHeld = false) :
    exec (.openStepComplete dt b) s = .next (settle (endOpen b (elapse dt s))) :=
  exec_of_live (f := fun s => settle (endOpen b s)) free rfl

end

/-- Settles O42. -/
theorem bankStepsServeHeadBurst : Obligations.BankStepsServeHeadBurst := by
  intro dt b s free
  refine ⟨fun idle => ?_, fun idle => ?_, fun closing => ?_, fun row opening => ?_⟩
  · rw [exec_closeStep free, endClose_idle (s := elapse dt s) idle]
  · rw [exec_openStep free, endOpen_idle (s := elapse dt s) idle]
  · have run := exec_closeStep (b := b) (dt := dt) free
    rw [endClose_closed (s := elapse dt s) closing] at run
    -- the controller with the bank CLOSED and its step over
    have own : ((elapse dt s).setMem ((elapse dt s).mem.setBank b { row := none, step := .none })).mem.banks[b] =
        { row := none, step := .none } := MemControl.setBank_same _ _ _
    have others (c : BankId) (ne : c ≠ b) : ((elapse dt s).setMem ((elapse dt s).mem.setBank b
        { row := none, step := .none })).mem.banks[c] = s.mem.banks[c] := MemControl.setBank_other s.mem _ ne
    have same : ((elapse dt s).setMem ((elapse dt s).mem.setBank b { row := none, step := .none })).mem.granted =
        s.mem.granted ∧ ((elapse dt s).setMem ((elapse dt s).mem.setBank b
          { row := none, step := .none })).mem.dataPath = s.mem.dataPath ∧ ((elapse dt s).setMem
            ((elapse dt s).mem.setBank b { row := none, step := .none })).mem.refresh = s.mem.refresh := ⟨rfl, rfl, rfl⟩
    generalize (elapse dt s).setMem ((elapse dt s).mem.setBank b { row := none, step := .none }) = x at run own others same
    obtain ⟨granted, dataPath, refresh⟩ := same
    refine ⟨fun h away head => ⟨_, run, ?_⟩, fun apart => ⟨_, run, ?_⟩, fun closes none' still => ⟨_, run, ?_⟩,
      fun closes ⟨c, ne, step⟩ => ⟨_, run, ?_⟩⟩
    · obtain ⟨banks, -⟩ := settle_granted (s := x) (by rw [granted]; exact granted_of_head head)
      rw [← granted] at head
      rw [← dataPath] at away
      obtain ⟨-, steps⟩ := x.mem.stepBanks_bank b
      simp only [banks]
      exact (steps h head away (congrArg Bank.step own)).1 (congrArg Bank.row own)
    · by_cases none' : x.mem.granted = []
      · rw [settle_bank_closed none' (congrArg Bank.row own), own]
      · obtain ⟨banks, -⟩ := settle_granted none'
        simp only [banks]
        rw [(x.mem.stepBanks_bank b).1 (.inl (by rw [granted]; exact apart)), own]
    · obtain ⟨-, stage, -⟩ := settle_refreshClosing (s := x) (granted.trans none') (refresh.trans closes)
      rw [stage]
      refine if_pos ((MemControl.noSteps_iff _).mpr fun c => ?_)
      by_cases e : c = b
      · rw [e, own]
      · rw [others c e, still c e]
    · exact settle_stillClosing (refresh.trans closes) ⟨c, by rw [others c ne]; exact step⟩
  · have run := exec_openStep (b := b) (dt := dt) free
    rw [endOpen_opened (s := elapse dt s) opening] at run
    have own : ((elapse dt s).setMem ((elapse dt s).mem.setBank b { row := some row, step := .none })).mem.banks[b] =
        { row := some row, step := .none } := MemControl.setBank_same _ _ _
    have same : ((elapse dt s).setMem ((elapse dt s).mem.setBank b { row := some row, step := .none })).mem.granted =
        s.mem.granted ∧ ((elapse dt s).setMem ((elapse dt s).mem.setBank b
          { row := some row, step := .none })).mem.dataPath = s.mem.dataPath := ⟨rfl, rfl⟩
    generalize (elapse dt s).setMem ((elapse dt s).mem.setBank b { row := some row, step := .none }) = x at run own same
    obtain ⟨granted, dataPath⟩ := same
    -- a bank OPEN on its head burst's row lets the transfers go on
    have serves (h : Burst) (head : s.mem.granted.find? (fun x => x.page.toNat % 8 = b.val) = some h)
        (on : h.page.toNat / 8 = row) : (settle x).mem.banks[b] = { row := some row, step := .none } ∧
          (settle x).mem.granted = s.mem.granted ∧ (∀ c, s.mem.dataPath = some c → (settle x).mem.dataPath = some c) ∧
          (s.mem.dataPath = none →
            (settle x).mem.dataPath = (s.mem.granted.find? (fun y =>
              s.mem.granted.find? (fun z => z.page.toNat % 8 = y.page.toNat % 8) = some y &&
                (settle x).mem.banks[y.bank] = { row := some (y.page.toNat / 8), step := .none })).map Burst.bank) := by
      obtain ⟨banks, path, -⟩ := settle_granted (s := x) (by rw [granted]; exact granted_of_head head)
      obtain ⟨taken, starts⟩ := x.mem.startTransfer_stepBanks
      have left : (settle x).mem.granted = s.mem.granted := by rw [settle_mem_rest, ← granted]
      rw [path, left]
      simp only [banks]
      rw [← granted, ← dataPath] at *
      refine ⟨?_, trivial, fun c busy => ?_, starts⟩
      · rw [stepBanks_openOn head (by rw [own, on]), own]
      · rw [taken (by rw [busy]; exact Option.some_ne_none _), busy]
    refine ⟨fun h head on => ⟨_, run, serves h head on⟩, fun h more queue bank on => ⟨_, run, ?_⟩⟩
    have first : s.mem.granted.find? (fun x => x.page.toNat % 8 = b.val) = some h := by
      rw [queue]
      exact List.find?_cons_of_pos (by simpa using bank)
    obtain ⟨opened, left, busy, starts⟩ := serves h first on
    refine ⟨opened, left, fun idle => ?_, busy⟩
    obtain rfl : h.bank = b := Fin.ext bank
    rw [starts idle, queue, List.find?_cons_of_pos, Option.map_some]
    rw [Bool.and_eq_true, decide_eq_true_eq, decide_eq_true_eq, opened, on]
    exact ⟨List.find?_cons_of_pos (by simp), rfl⟩

end Sys2Proof.Machine

/-!
PROOF. The check code corrects any one wrong bit and detects any two (R127, R128, Tables 7.2 and 7.3).
-/

namespace Sys2Proof.Machine

/-! ## The columns (Table 7.2) -/

/-- The syndrome columns of the check bits. -/
def checkColumns : List Nat := [1, 2, 4, 8, 16, 32, 64, 128]

theorem dataColumns_length : dataColumns.length = 64 := by decide +kernel

theorem dataColumns_nodup : dataColumns.Nodup := by decide +kernel

/-- Every data column is a byte of odd weight that is no check column. -/
theorem dataColumns_odd : ∀ c ∈ dataColumns, c < 256 ∧ bitCount8 c % 2 = 1 ∧ c ∉ checkColumns := by decide +kernel

theorem checkColumns_odd : ∀ c ∈ checkColumns, bitCount8 c % 2 = 1 := by decide

/-- The weight of an exclusive-or has the parity of the two weights together. -/
theorem bitCount8_xor (a b : Nat) : bitCount8 (a ^^^ b) % 2 = (bitCount8 a + bitCount8 b) % 2 := by
  have bit (x y : Bool) : (x ^^ y).toNat + 2 * (x && y).toNat = x.toNat + y.toNat := by
    cases x <;> cases y <;> rfl
  unfold bitCount8
  simp only [Nat.testBit_xor]
  have h0 := bit (a.testBit 0) (b.testBit 0)
  have h1 := bit (a.testBit 1) (b.testBit 1)
  have h2 := bit (a.testBit 2) (b.testBit 2)
  have h3 := bit (a.testBit 3) (b.testBit 3)
  have h4 := bit (a.testBit 4) (b.testBit 4)
  have h5 := bit (a.testBit 5) (b.testBit 5)
  have h6 := bit (a.testBit 6) (b.testBit 6)
  have h7 := bit (a.testBit 7) (b.testBit 7)
  omega

/-! ## The place of a column -/

theorem columnIndex_none {c : Nat} : ∀ {k : Nat} {cs : List Nat}, c ∉ cs → columnIndex c k cs = none
  | _, [], _ => rfl
  | k, x :: xs, absent => by
    obtain ⟨other, rest⟩ := not_or.mp (List.mem_cons.not.mp absent)
    rw [columnIndex, if_neg (Ne.symm other)]
    exact columnIndex_none rest

theorem columnIndex_some : ∀ {k i : Nat} {cs : List Nat}, cs.Nodup → (h : i < cs.length) →
    columnIndex cs[i] k cs = some (k + i)
  | k, 0, x :: xs, _, _ => by rw [columnIndex]; exact if_pos rfl
  | k, i + 1, x :: xs, once, h => by
    obtain ⟨new, once⟩ := List.nodup_cons.mp once
    have further : i < xs.length := Nat.lt_of_succ_lt_succ h
    have other : x ≠ (x :: xs)[i + 1] := fun e => new (e ▸ List.getElem_mem further)
    rw [columnIndex, if_neg other, List.getElem_cons_succ, columnIndex_some once further, Nat.add_right_comm, Nat.add_assoc]

/-! ## Syndromes -/

theorem syndromeSum_xor (w v : Nat) : ∀ (k : Nat) (cs : List Nat),
    syndromeSum (w ^^^ v) k cs = syndromeSum w k cs ^^^ syndromeSum v k cs
  | _, [] => (Nat.xor_zero 0).symm
  | k, c :: cs => by
    have step (u : Nat) : syndromeSum u k (c :: cs) = (if u.testBit k then c else 0) ^^^ syndromeSum u (k + 1) cs := rfl
    rw [step, step, step, syndromeSum_xor w v (k + 1) cs, Nat.testBit_xor]
    cases w.testBit k <;> cases v.testBit k
    · simp
    · simp only [Bool.false_xor, if_true, Bool.false_eq_true, if_false, Nat.zero_xor]
      ac_rfl
    · simp only [Bool.xor_false, if_true, Bool.false_eq_true, if_false, Nat.zero_xor]
      ac_rfl
    · simp only [Bool.xor_self, if_true, Bool.false_eq_true, if_false, Nat.zero_xor]
      rw [Nat.xor_assoc, Nat.xor_left_comm _ c, ← Nat.xor_assoc, Nat.xor_self, Nat.zero_xor]

theorem syndromeSum_later {j : Nat} : ∀ {k : Nat} (cs : List Nat), j < k → syndromeSum (2 ^ j) k cs = 0
  | _, [], _ => rfl
  | k, c :: cs, later => by
    have step : syndromeSum (2 ^ j) k (c :: cs) =
        (if (2 ^ j).testBit k then c else 0) ^^^ syndromeSum (2 ^ j) (k + 1) cs := rfl
    rw [step, syndromeSum_later cs (Nat.lt_succ_of_lt later), Nat.testBit_two_pow_of_ne (Nat.ne_of_lt later)]
    exact Nat.xor_zero 0

/-- The syndrome of one data bit is its column. -/
theorem syndromeSum_single : ∀ {k i : Nat} {cs : List Nat} (h : i < cs.length),
    syndromeSum (2 ^ (k + i)) k cs = cs[i]
  | k, 0, c :: cs, _ => by
    have step : syndromeSum (2 ^ (k + 0)) k (c :: cs) =
        (if (2 ^ k).testBit k then c else 0) ^^^ syndromeSum (2 ^ k) (k + 1) cs := rfl
    rw [step, syndromeSum_later cs (Nat.lt_succ_self k), Nat.testBit_two_pow_self, if_pos rfl, Nat.xor_zero]
    rfl
  | k, i + 1, c :: cs, h => by
    have step : syndromeSum (2 ^ (k + (i + 1))) k (c :: cs) =
        (if (2 ^ (k + (i + 1))).testBit k then c else 0) ^^^ syndromeSum (2 ^ (k + (i + 1))) (k + 1) cs := rfl
    have next : k + (i + 1) = (k + 1) + i := by omega
    rw [step, Nat.testBit_two_pow_of_ne (by omega), next, syndromeSum_single (Nat.lt_of_succ_lt_succ h)]
    simp

theorem syndromeSum_lt (w : Nat) : ∀ {k : Nat} {cs : List Nat}, (∀ c ∈ cs, c < 256) → syndromeSum w k cs < 256
  | _, [], _ => Nat.zero_lt_succ _
  | k, c :: cs, bytes => by
    have own : (if w.testBit k then c else 0) < 2 ^ 8 := by
      split
      · exact bytes c List.mem_cons_self
      · decide
    exact Nat.xor_lt_two_pow own (syndromeSum_lt w fun x mem => bytes x (List.mem_cons_of_mem _ mem))

theorem checkBits_lt (w : Nat) : checkBits w < 256 :=
  Nat.xor_lt_two_pow (n := 8) (by decide) (syndromeSum_lt w fun c mem => (dataColumns_odd c mem).1)

/-- The column of a data bit. -/
theorem dataColumn {k : Nat} (h : k < 64) : ∃ c, c ∈ dataColumns ∧ syndromeSum (2 ^ k) 0 dataColumns = c ∧
    columnIndex c 0 dataColumns = some k := by
  have inside : k < dataColumns.length := by rw [dataColumns_length]; exact h
  have place := columnIndex_some (k := 0) dataColumns_nodup inside
  have sum := syndromeSum_single (k := 0) inside
  rw [Nat.zero_add] at place sum
  exact ⟨_, List.getElem_mem inside, sum, place⟩

theorem checkColumn : ∀ j : Nat, j < 8 → 2 ^ j ∈ checkColumns ∧ columnIndex (2 ^ j) 0 checkColumns = some j := by decide

/-- A wrong word's check bits, by the syndrome of the wrong bits. -/
theorem checkBits_xor (w v : Nat) : checkBits (w ^^^ v) = checkBits w ^^^ syndromeSum v 0 dataColumns := by
  have whole (u : Nat) : checkBits u = 3 ^^^ syndromeSum u 0 dataColumns := rfl
  rw [whole, whole, syndromeSum_xor, Nat.xor_assoc]

/-! ## Read codes by syndrome (R128) -/

/-- The two words of equal bits have syndromes of even weight, and no zero one. -/
theorem syndrome_equalBits {w c : Nat} (h : w = 0 ∧ c = 0 ∨ w = 2 ^ 64 - 1 ∧ c = 255) :
    checkBits w ^^^ c ≠ 0 ∧ bitCount8 (checkBits w ^^^ c) % 2 = 0 := by
  rcases h with ⟨rfl, rfl⟩ | ⟨rfl, rfl⟩
  · decide +kernel
  · decide +kernel

section
variable {w c : Nat}

theorem decodeWord_mixed (h : ¬ (w = 0 ∧ c = 0 ∨ w = 2 ^ 64 - 1 ∧ c = 255)) : decodeWord w c =
    if checkBits w ^^^ c = 0 then .clean
    else
      match columnIndex (checkBits w ^^^ c) 0 checkColumns with
      | some k => .check k
      | none =>
        match columnIndex (checkBits w ^^^ c) 0 dataColumns with
        | some k => .data k
        | none => .multiple := by
  obtain ⟨notZero, notOnes⟩ := not_or.mp h
  unfold decodeWord
  rw [if_neg notZero, if_neg notOnes]
  rfl

theorem decodeWord_clean (h : checkBits w ^^^ c = 0) : decodeWord w c = .clean := by
  rw [decodeWord_mixed fun equal => (syndrome_equalBits equal).1 h, if_pos h]

theorem decodeWord_odd (h : bitCount8 (checkBits w ^^^ c) % 2 = 1) : decodeWord w c =
    match columnIndex (checkBits w ^^^ c) 0 checkColumns with
    | some k => .check k
    | none =>
      match columnIndex (checkBits w ^^^ c) 0 dataColumns with
      | some k => .data k
      | none => .multiple := by
  rw [decodeWord_mixed, if_neg]
  · intro zero
    rw [zero] at h
    exact absurd h (by decide)
  · intro equal
    rw [(syndrome_equalBits equal).2] at h
    cases h

theorem decodeWord_data {k : Nat} (h : k < 64) (syndrome : checkBits w ^^^ c = syndromeSum (2 ^ k) 0 dataColumns) :
    decodeWord w c = .data k := by
  obtain ⟨column, mem, sum, place⟩ := dataColumn h
  obtain ⟨-, odd, other⟩ := dataColumns_odd column mem
  rw [sum] at syndrome
  rw [decodeWord_odd (by rw [syndrome]; exact odd), syndrome, columnIndex_none other, place]

theorem decodeWord_check {j : Nat} (h : j < 8) (syndrome : checkBits w ^^^ c = 2 ^ j) : decodeWord w c = .check j := by
  obtain ⟨mem, place⟩ := checkColumn j h
  rw [decodeWord_odd (by rw [syndrome]; exact checkColumns_odd _ mem), syndrome, place]

/-- A syndrome of even weight other than zero is that of no single bit. -/
theorem decodeWord_even (nonzero : checkBits w ^^^ c ≠ 0) (even : bitCount8 (checkBits w ^^^ c) % 2 = 0) :
    (decodeWord w c).uncorrectable = true := by
  have noCheck : checkBits w ^^^ c ∉ checkColumns := fun mem => by
    rw [checkColumns_odd _ mem] at even
    cases even
  have noData : checkBits w ^^^ c ∉ dataColumns := fun mem => by
    rw [(dataColumns_odd _ mem).2.1] at even
    cases even
  by_cases equal : w = 0 ∧ c = 0 ∨ w = 2 ^ 64 - 1 ∧ c = 255
  · rcases equal with ⟨rfl, rfl⟩ | ⟨rfl, rfl⟩ <;> rfl
  · rw [decodeWord_mixed equal, if_neg nonzero, columnIndex_none noCheck, columnIndex_none noData]
    rfl

/-- Two wrong bits with different columns of odd weight. -/
theorem decodeWord_two {a b : Nat} (syndrome : checkBits w ^^^ c = a ^^^ b) (oddA : bitCount8 a % 2 = 1)
    (oddB : bitCount8 b % 2 = 1) (ne : a ≠ b) : (decodeWord w c).uncorrectable = true := by
  refine decodeWord_even ?_ ?_
  · rw [syndrome]
    exact fun zero => ne (Nat.xor_eq_zero_iff.mp zero)
  · rw [syndrome, bitCount8_xor]
    omega

end

/-- Settles O47. -/
theorem codeCorrectsOneDetectsTwo : Obligations.CodeCorrectsOneDetectsTwo := by
  intro w _
  have undone (v : Nat) : (w ^^^ v) ^^^ v = w := by rw [Nat.xor_assoc, Nat.xor_self, Nat.xor_zero]
  have word (v : Nat) : checkBits (w ^^^ v) ^^^ checkBits w = syndromeSum v 0 dataColumns := by
    rw [checkBits_xor, Nat.xor_comm, ← Nat.xor_assoc, Nat.xor_self, Nat.zero_xor]
  have code (v : Nat) : checkBits w ^^^ (checkBits w ^^^ v) = v := by
    rw [← Nat.xor_assoc, Nat.xor_self, Nat.zero_xor]
  refine ⟨checkBits_lt w, decodeWord_clean (Nat.xor_self _), fun k hk => ⟨decodeWord_data hk (word _), undone _⟩,
    fun j hj => ⟨decodeWord_check hj (code _), rfl⟩, fun k l hk hl ne => ?_, fun k j hk hj => ?_, fun i j hi hj ne => ?_⟩
  · obtain ⟨a, memA, sumA, placeA⟩ := dataColumn hk
    obtain ⟨b, memB, sumB, placeB⟩ := dataColumn hl
    refine decodeWord_two (a := a) (b := b) ?_ (dataColumns_odd a memA).2.1 (dataColumns_odd b memB).2.1 fun same => ?_
    · exact (word _).trans ((syndromeSum_xor _ _ _ _).trans (by rw [sumA, sumB]))
    · rw [same] at placeA
      exact ne (Option.some.inj (placeA.symm.trans placeB))
  · obtain ⟨a, mem, sum, -⟩ := dataColumn hk
    obtain ⟨memC, -⟩ := checkColumn j hj
    obtain ⟨-, odd, other⟩ := dataColumns_odd a mem
    refine decodeWord_two (a := a) (b := 2 ^ j) ?_ odd (checkColumns_odd _ memC) fun same => other (same ▸ memC)
    have both : checkBits (w ^^^ 2 ^ k) ^^^ (checkBits w ^^^ 2 ^ j) = syndromeSum (2 ^ k) 0 dataColumns ^^^ 2 ^ j := by
      rw [← Nat.xor_assoc, word]
    exact both.trans (by rw [sum])
  · obtain ⟨memI, -⟩ := checkColumn i hi
    obtain ⟨memJ, -⟩ := checkColumn j hj
    exact decodeWord_two (code _) (checkColumns_odd _ memI) (checkColumns_odd _ memJ) fun same =>
      ne (Nat.pow_right_injective (Nat.le_refl 2) same)

end Sys2Proof.Machine

/-!
PROOF. When a writer asks for a burst, and what its burst takes (R61, R62, R136).
-/

namespace Sys2Proof.Machine

/-! ## When a writer asks (R61) -/

theorem writerBusy_iff (s : State) (t : Track) : writerBusy s t = false ↔
    ∀ b ∈ s.mem.granted, b.isRead = false → b.attached = true → b.track ≠ t := by
  unfold writerBusy
  rw [List.any_eq_false]
  refine forall₂_congr fun b _ => ?_
  rw [Bool.and_eq_true, Bool.and_eq_true, Bool.not_eq_true', decide_eq_true_eq]
  tauto

theorem drainsOn_iff (s : State) (t : Track) : drainsOn s t = true ↔
    ∃ f, oldestIncomplete s t = some f ∧ f.state = .draining ∧ (s.track t).writeNext f.seq < f.length := by
  unfold drainsOn
  cases oldestIncomplete s t with
  | none => simp
  | some f => simp

theorem writerRequests_iff (s : State) (t : Track) : writerRequests s t = true ↔
    (∀ b ∈ s.mem.granted, b.isRead = false → b.attached = true → b.track ≠ t) ∧
    (32 ≤ (s.track t).fifo.length ∨
      ∃ f, oldestIncomplete s t = some f ∧ f.state = .draining ∧ (s.track t).writeNext f.seq < f.length) := by
  unfold writerRequests
  rw [Bool.and_eq_true, Bool.or_eq_true, Bool.not_eq_true', writerBusy_iff, drainsOn_iff, decide_eq_true_eq]

/-! ## What a burst takes from the staging FIFO (R62) -/

/-- The staging order: by sweep, and by position within a sweep. -/
def FifoEntry.Before (a b : FifoEntry) : Prop := a.seq < b.seq ∨ a.seq = b.seq ∧ a.pos < b.pos

/-- A staging FIFO in order, with nothing of the sweep before a position and nothing of an earlier sweep. -/
def StagedFrom (seq q : Nat) (fifo : List FifoEntry) : Prop :=
  fifo.Pairwise FifoEntry.Before ∧ ∀ x ∈ fifo, seq < x.seq ∨ x.seq = seq ∧ q ≤ x.pos

theorem StagedFrom.tail {seq q : Nat} {e : FifoEntry} {rest : List FifoEntry} (h : StagedFrom seq q (e :: rest))
    (here : e.seq = seq ∧ e.pos = q) : StagedFrom seq (q + 1) rest := by
  obtain ⟨order, from'⟩ := h
  obtain ⟨first, order⟩ := List.pairwise_cons.mp order
  refine ⟨order, fun x mem => ?_⟩
  rcases first x mem with later | ⟨same, later⟩
  · exact .inl (by omega)
  · exact .inr ⟨by omega, by omega⟩

theorem StagedFrom.skip {seq q : Nat} {e : FifoEntry} {rest : List FifoEntry} (h : StagedFrom seq q (e :: rest))
    (elsewhere : ¬ (e.seq = seq ∧ e.pos = q)) : StagedFrom seq (q + 1) (e :: rest) := by
  obtain ⟨order, from'⟩ := h
  have head : seq < e.seq ∨ e.seq = seq ∧ q + 1 ≤ e.pos := by
    rcases from' e List.mem_cons_self with later | ⟨same, later⟩
    · exact .inl later
    · exact .inr ⟨same, by omega⟩
  refine ⟨order, fun x mem => ?_⟩
  rcases List.mem_cons.mp mem with rfl | mem
  · exact head
  · rcases (List.pairwise_cons.mp order).1 x mem with later | ⟨same, later⟩
    · exact .inl (by omega)
    · rcases head with head | head
      · exact .inl (by omega)
      · exact .inr ⟨by omega, by omega⟩

/-- The value a burst takes for one position: the entry's for it, or the fill value. -/
def Takes (seq p : Nat) (fifo : List FifoEntry) (v : Option Int) : Prop :=
  (∀ x ∈ fifo, x.seq = seq → x.pos = p → v = some x.value) ∧
  ((∀ x ∈ fifo, ¬ (x.seq = seq ∧ x.pos = p)) → v = some (-32768))

theorem takeSpan_length (seq : Nat) : ∀ (q n : Nat) (fifo : List FifoEntry), (takeSpan seq q n fifo).1.length = n
  | _, 0, _ => rfl
  | q, n + 1, [] => congrArg Nat.succ (takeSpan_length seq (q + 1) n [])
  | q, n + 1, e :: rest => by
    rw [takeSpan]
    split
    · exact congrArg Nat.succ (takeSpan_length seq (q + 1) n rest)
    · exact congrArg Nat.succ (takeSpan_length seq (q + 1) n (e :: rest))

theorem takeSpan_value {seq : Nat} : ∀ {q n : Nat} {fifo : List FifoEntry}, StagedFrom seq q fifo → ∀ i, i < n →
    Takes seq (q + i) fifo (takeSpan seq q n fifo).1[i]?
  | q, n + 1, [], _, i, hi => by
    refine ⟨fun x mem => absurd mem List.not_mem_nil, fun _ => ?_⟩
    cases i with
    | zero => rfl
    | succ i =>
      have rest := takeSpan_value (seq := seq) (q := q + 1) (n := n) (fifo := []) ⟨List.Pairwise.nil, nofun⟩ i (by omega)
      exact rest.2 fun x mem => absurd mem List.not_mem_nil
  | q, n + 1, e :: rest, staged, i, hi => by
    rw [takeSpan]
    split
    · next here =>
      obtain ⟨order, from'⟩ := staged.tail here
      cases i with
      | zero =>
        refine ⟨fun x mem seq' pos => ?_, fun absent => absurd here (absent e List.mem_cons_self)⟩
        rcases List.mem_cons.mp mem with rfl | mem
        · rfl
        · have := from' x mem
          omega
      | succ i =>
        have later := takeSpan_value (n := n) (staged.tail here) i (by omega)
        rw [Nat.add_right_comm, Nat.add_assoc] at later
        refine ⟨fun x mem seq' pos => ?_, fun absent => later.2 fun x mem => absent x (List.mem_cons_of_mem _ mem)⟩
        rcases List.mem_cons.mp mem with rfl | mem
        · omega
        · exact later.1 x mem seq' pos
    · next elsewhere =>
      cases i with
      | zero =>
        refine ⟨fun x mem seq' pos => ?_, fun _ => rfl⟩
        have := (staged.skip elsewhere).2 x mem
        omega
      | succ i =>
        have later := takeSpan_value (n := n) (staged.skip elsewhere) i (by omega)
        rw [Nat.add_right_comm, Nat.add_assoc] at later
        exact later

theorem takeSpan_fifo {seq : Nat} : ∀ {q n : Nat} {fifo : List FifoEntry}, StagedFrom seq q fifo →
    (takeSpan seq q n fifo).2 = fifo.filter (fun x => !(x.seq = seq && x.pos < q + n))
  | q, 0, fifo, staged => by
    refine (List.filter_eq_self.mpr fun x mem => ?_).symm
    have := staged.2 x mem
    simp
    omega
  | q, n + 1, [], _ => takeSpan_fifo (q := q + 1) (n := n) (fifo := []) ⟨List.Pairwise.nil, nofun⟩
  | q, n + 1, e :: rest, staged => by
    have more : q + (n + 1) = q + 1 + n := by omega
    rw [takeSpan, more]
    split
    · next here =>
      rw [List.filter_cons_of_neg (by simp [here]; omega)]
      exact takeSpan_fifo (staged.tail here)
    · next elsewhere => exact takeSpan_fifo (staged.skip elsewhere)

/-! ## The burst of a writer (R62, R136) -/

section
variable {s : State} {t : Track} {f : SweepRecord} {q : Nat}

/-- The 32 samples of a write burst. -/
def burstSamples (s : State) (t : Track) (f : SweepRecord) (q : Nat) : List Int :=
  (takeSpan f.seq q (min 32 (f.length - q)) (s.track t).fifo).1 ++ List.replicate (32 - min 32 (f.length - q)) (-32768)

theorem grantWriter_eq {e : MapEntry} (oldest : oldestIncomplete s t = some f) (next : q = (s.track t).writeNext f.seq)
    (entry : tget (s.map t) (f.firstPage + q / 512) = some e) : grantWriter t s =
      addBurst
        { page := e.page, offset := q % 512 / 4, track := t, seq := f.seq, first := q, heeded := true, attached := true,
          job := .write (burstSamples s t f q) (takeInject s.check t) }
        (if (takeInject s.check t).isSome then
          (s.putTrack t { s.track t with
            fifo := (takeSpan f.seq q (min 32 (f.length - q)) (s.track t).fifo).2,
            cursor := some { seq := f.seq, next := q + 32 } }).setCheck { s.check with inject := none }
        else s.putTrack t { s.track t with
            fifo := (takeSpan f.seq q (min 32 (f.length - q)) (s.track t).fifo).2,
            cursor := some { seq := f.seq, next := q + 32 } }) := by
  have page : translate s t (f.firstPage + (s.track t).writeNext f.seq / 512) = some e.page := by
    unfold translate
    rw [← next, entry]
    rfl
  unfold grantWriter
  simp only [oldest, page]
  rw [← next]
  rfl

theorem burstSamples_length : (burstSamples s t f q).length = 32 := by
  unfold burstSamples
  rw [List.length_append, takeSpan_length, List.length_replicate]
  omega

theorem burstSamples_value (staged : StagedFrom f.seq q (s.track t).fifo)
    (within : ∀ x ∈ (s.track t).fifo, x.seq = f.seq → x.pos < f.length) (i : Nat) (hi : i < 32) :
    Takes f.seq (q + i) (s.track t).fifo (burstSamples s t f q)[i]? := by
  unfold burstSamples
  by_cases covered : i < min 32 (f.length - q)
  · rw [List.getElem?_append_left (by rw [takeSpan_length]; exact covered)]
    exact takeSpan_value staged i covered
  · rw [List.getElem?_append_right (by rw [takeSpan_length]; omega), takeSpan_length, List.getElem?_replicate,
      if_pos (by omega)]
    refine ⟨fun x mem seq pos => ?_, fun _ => rfl⟩
    have := within x mem seq
    omega

end

/-- Settles O40. -/
theorem writerBurstTakesStagedSamples : Obligations.WriterBurstTakesStagedSamples := by
  refine fun s t => ⟨writerRequests_iff s t, ?_, fun f e q oldest next entry order from' => ?_⟩
  · unfold writerUrgent
    rw [Bool.and_eq_true, decide_eq_true_eq]
    rfl
  have staged : StagedFrom f.seq q (s.track t).fifo := ⟨order, fun x mem => (from' x mem).imp_right fun h => ⟨h.1, h.2.1⟩⟩
  have within (x : FifoEntry) (mem : x ∈ (s.track t).fifo) (seq : x.seq = f.seq) : x.pos < f.length := by
    rcases from' x mem with later | ⟨-, -, below⟩
    · omega
    · exact below
  have fifo : (takeSpan f.seq q (min 32 (f.length - q)) (s.track t).fifo).2 =
      (s.track t).fifo.filter (fun x => !(x.seq = f.seq && x.pos < q + 32)) := by
    rw [takeSpan_fifo staged]
    refine List.filter_congr fun x mem => ?_
    by_cases seq : x.seq = f.seq
    · have := within x mem seq
      have same : (x.pos < q + min 32 (f.length - q)) ↔ x.pos < q + 32 := by omega
      simp [seq, same]
    · simp [seq]
  rw [grantWriter_eq oldest next entry]
  refine ⟨burstSamples s t f q, takeInject s.check t, ?_, burstSamples_length,
    fun i hi => burstSamples_value staged within i hi, ?_, ?_, fun k armed => ?_, fun other => ?_⟩
  · split <;> rfl
  · rw [← fifo]
    split <;> exact congrArg TrackUnit.fifo (State.track_putTrack_same s t _)
  · split <;> exact congrArg TrackUnit.cursor (State.track_putTrack_same s t _)
  · have taken : takeInject s.check t = some k := by
      unfold takeInject
      rw [armed]
      exact if_pos rfl
    rw [taken]
    exact ⟨rfl, rfl⟩
  · have untaken : takeInject s.check t = none := by
      unfold takeInject
      split
      · next u k armed => exact if_neg fun own => other k (by rw [armed, own])
      · rfl
    rw [untaken]
    exact ⟨rfl, rfl⟩

end Sys2Proof.Machine

/-!
PROOF. When the readout engine asks for a burst, and what its burst reads (R142).
-/

namespace Sys2Proof.Machine

section
variable {s : State} {y : Read} {rest : List Read} {seq firstPage : Nat}

theorem engineBlock_empty (queue : s.readout.queue = []) : engineBlock s = none := by
  unfold engineBlock
  rw [queue]

theorem engineBlock_mean (queue : s.readout.queue = y :: rest) (kind : y.kind = .mean) : engineBlock s = none := by
  unfold engineBlock
  simp only [queue, kind]

theorem engineBlock_sweep (queue : s.readout.queue = y :: rest) (kind : y.kind = .sweep seq firstPage) :
    engineBlock s =
      if max (32 * y.nextFetch) y.firstPos <
          min (y.firstPos + 256 * (y.delivered / 256 + 2)) (y.firstPos + y.count) then
        some (y, seq, firstPage, y.nextFetch)
      else none := by
  unfold engineBlock
  simp only [queue, kind]
  rfl

theorem engineBlock_wanted (queue : s.readout.queue = y :: rest) (kind : y.kind = .sweep seq firstPage)
    (wanted : ∃ p, 32 * y.nextFetch ≤ p ∧ p < 32 * y.nextFetch + 32 ∧ y.firstPos ≤ p ∧ p < y.firstPos + y.count ∧
      p < y.firstPos + 256 * (y.delivered / 256 + 2)) : engineBlock s = some (y, seq, firstPage, y.nextFetch) := by
  obtain ⟨p, low, -, first, last, frame⟩ := wanted
  rw [engineBlock_sweep queue kind, if_pos]
  omega

/-- A block whose positions lie in the frames after the two oldest unsent ones is not asked for. -/
theorem engineBlock_unwanted (queue : s.readout.queue = y :: rest) (kind : y.kind = .sweep seq firstPage)
    (fetch : y.firstPos < 32 * y.nextFetch + 32)
    (unwanted : ∀ p, 32 * y.nextFetch ≤ p → p < 32 * y.nextFetch + 32 → y.firstPos ≤ p → p < y.firstPos + y.count →
      y.firstPos + 256 * (y.delivered / 256 + 2) ≤ p) : engineBlock s = none := by
  rw [engineBlock_sweep queue kind, if_neg]
  intro wanted
  have := unwanted (max (32 * y.nextFetch) y.firstPos) (by omega) (by omega) (by omega) (by omega)
  omega

theorem mem_askedWords {b w : Nat} : w ∈ askedWords y b ↔ w < 8 ∧
    ∃ p, 32 * b + 4 * w ≤ p ∧ p < 32 * b + 4 * w + 4 ∧ y.firstPos ≤ p ∧ p < y.firstPos + y.count := by
  unfold askedWords Read.stop
  rw [List.mem_filter, List.mem_range, decide_eq_true_eq]
  refine and_congr_right fun _ => ⟨fun h => ⟨max (32 * b + 4 * w) y.firstPos, ?_⟩, ?_⟩
  · omega
  · rintro ⟨p, h⟩
    omega

theorem askedWords_rising (b : Nat) : (askedWords y b).Pairwise (· < ·) := List.pairwise_lt_range.filter _

/-- Whatever the engine asks for, a page without a map entry is not granted. -/
theorem grantRead_unmapped {b : Nat} (block : engineBlock s = some (y, seq, firstPage, b))
    (hole : tget (s.map y.track) (firstPage + 32 * b / 512) = none) : grantRead s = s := by
  have page : translate s y.track (firstPage + 32 * b / 512) = none := by
    unfold translate
    rw [hole]
    rfl
  unfold grantRead
  simp only [block, page]

theorem grantRead_mapped {b : Nat} {e : MapEntry} (queue : s.readout.queue = y :: rest)
    (block : engineBlock s = some (y, seq, firstPage, b))
    (entry : tget (s.map y.track) (firstPage + 32 * b / 512) = some e) : grantRead s =
      (s.setReadout { s.readout with queue := { y with nextFetch := b + 1 } :: rest }).setMem
        { s.mem with
          granted := s.mem.granted ++
            [{ page := e.page, offset := 32 * b % 512 / 4, track := y.track, seq := seq, first := 32 * b,
               heeded := true, attached := true, job := .read (askedWords y b) }] } := by
  have page : translate s y.track (firstPage + 32 * b / 512) = some e.page := by
    unfold translate
    rw [entry]
    rfl
  unfold grantRead
  simp only [block, page]
  unfold setActive
  rw [queue]
  rfl

end

/-- Settles O41. -/
theorem readBurstsFetchTheReadsBlocks : Obligations.ReadBurstsFetchTheReadsBlocks := by
  intro s limits
  refine ⟨engineBlock_empty, fun y rest queue => ⟨engineBlock_mean queue, ?_⟩⟩
  rintro seq firstPage b kind rfl
  have fetch : y.firstPos < 32 * y.nextFetch + 32 := by
    obtain ⟨-, -, -, -, -, -, -, fetch, -⟩ := limits
    exact fetch y (queue ▸ List.mem_cons_self) (by rw [kind]; rfl)
  refine ⟨fun wanted => ?_, engineBlock_unwanted queue kind fetch⟩
  have block := engineBlock_wanted queue kind wanted
  exact ⟨block, grantRead_unmapped block, fun e entry =>
    ⟨askedWords y y.nextFetch, askedWords_rising _, fun w => mem_askedWords, grantRead_mapped queue block entry⟩⟩

end Sys2Proof.Machine

/-!
PROOF. The bytes of a write burst in the DRAM, with their check bits (R65, R105, R127, R136, R186).
-/

namespace Sys2Proof.Machine

/-! ## Samples as bytes (R65, R186) -/

theorem sampleBytes_cons (v : Int) (vs : List Int) :
    sampleBytes (v :: vs) = BitVec.ofInt 8 v :: BitVec.ofInt 8 (v / 256) :: sampleBytes vs := by
  unfold sampleBytes
  rw [List.flatMap_cons, leInt_two]
  rfl

theorem sampleBytes_length : ∀ vs : List Int, (sampleBytes vs).length = 2 * vs.length
  | [] => rfl
  | v :: vs => by
    rw [sampleBytes_cons, List.length_cons, List.length_cons, sampleBytes_length vs, List.length_cons]
    omega

theorem sampleBytes_drop : ∀ (n : Nat) (vs : List Int), (sampleBytes vs).drop (2 * n) = sampleBytes (vs.drop n)
  | 0, _ => rfl
  | n + 1, [] => List.drop_nil
  | n + 1, v :: vs => by
    rw [sampleBytes_cons, Nat.mul_succ]
    exact sampleBytes_drop n vs

theorem sampleBytes_take : ∀ (n : Nat) (vs : List Int), (sampleBytes vs).take (2 * n) = sampleBytes (vs.take n)
  | 0, _ => rfl
  | n + 1, [] => List.take_nil
  | n + 1, v :: vs => by
    show _ = sampleBytes (v :: vs.take n)
    rw [sampleBytes_cons, sampleBytes_cons, Nat.mul_succ, ← sampleBytes_take n vs]
    rfl

/-- A sample's two bytes. -/
theorem sampleBytes_getElem : ∀ {i : Nat} {vs : List Int} {v : Int}, vs[i]? = some v →
    (sampleBytes vs)[2 * i]? = some (BitVec.ofInt 8 v) ∧ (sampleBytes vs)[2 * i + 1]? = some (BitVec.ofInt 8 (v / 256))
  | _, [], _, found => nomatch found
  | 0, x :: xs, v, found => by
    cases found
    rw [sampleBytes_cons]
    exact ⟨rfl, rfl⟩
  | i + 1, x :: xs, v, found => by
    rw [sampleBytes_cons]
    exact sampleBytes_getElem (vs := xs) found

/-! ## The injected bits (R136) -/

/-- The bits of the first byte that an injection inverts. -/
def injectByte : Option InjectKind → Byte
  | none => 0
  | some .single => 1
  | some .double => 3

/-- An injection inverts bits of the first byte alone. -/
theorem injectInto_eq (inject : Option InjectKind) (b : Byte) {bs : List Byte} (whole : 7 ≤ bs.length) :
    injectInto inject (b :: bs) = (b ^^^ injectByte inject) :: bs := by
  cases inject with
  | none => exact congrArg (· :: bs) (BitVec.xor_zero).symm
  | some k =>
    have small : k.mask < 256 := by cases k <;> decide
    have byte : injectByte (some k) = BitVec.ofNat 8 k.mask := by cases k <;> rfl
    have word : wordOf ((b :: bs).take 8) = b.toNat + 256 * leNat (bs.take 7) := rfl
    have low : BitVec.ofNat 8 ((b.toNat + 256 * leNat (bs.take 7)) ^^^ k.mask) = b ^^^ injectByte (some k) := by
      refine BitVec.eq_of_toNat_eq ?_
      rw [byte, BitVec.toNat_xor, BitVec.toNat_ofNat, BitVec.toNat_ofNat, Nat.xor_mod_two_pow, Nat.add_mul_mod_self_left,
        Nat.mod_eq_of_lt b.isLt]
    have high : ((b.toNat + 256 * leNat (bs.take 7)) ^^^ k.mask) / 256 = leNat (bs.take 7) := by
      have shifted := Nat.xor_div_two_pow (a := b.toNat + 256 * leNat (bs.take 7)) (b := k.mask) (n := 8)
      rw [Nat.div_eq_of_lt small, Nat.xor_zero] at shifted
      refine shifted.trans ?_
      have := b.isLt
      omega
    have rest : leBytes 7 (leNat (bs.take 7)) = bs.take 7 := by
      have seven : (bs.take 7).length = 7 := List.length_take_of_le whole
      have bytes := leBytes_leNat (bs.take 7)
      rw [seven] at bytes
      exact bytes
    have first : leBytes 8 ((b.toNat + 256 * leNat (bs.take 7)) ^^^ k.mask) = (b ^^^ injectByte (some k)) :: bs.take 7 := by
      show BitVec.ofNat 8 _ :: leBytes 7 _ = _
      rw [low, high, rest]
    have whole' : injectInto (some k) (b :: bs) =
        leBytes 8 ((b.toNat + 256 * leNat (bs.take 7)) ^^^ k.mask) ++ bs.drop 7 := rfl
    rw [whole', first, List.cons_append, List.take_append_drop]

/-! ## Check bytes (R127) -/

theorem checkBytes_length : ∀ (n : Nat) (bytes : List Byte), (checkBytes n bytes).length = n
  | 0, _ => rfl
  | n + 1, bytes => congrArg Nat.succ (checkBytes_length n (bytes.drop 8))

theorem checkBytes_getElem : ∀ {n w : Nat} (bytes : List Byte), w < n → (checkBytes n bytes)[w]? =
    some (BitVec.ofNat 8 (checkBits (leNat ((bytes.drop (8 * w)).take 8))))
  | n + 1, 0, _, _ => rfl
  | n + 1, w + 1, bytes, h => by
    have rest := checkBytes_getElem (bytes.drop 8) (Nat.lt_of_succ_lt_succ h)
    rw [List.drop_drop, Nat.add_comm 8] at rest
    rw [Nat.mul_succ]
    exact rest

/-! ## The DRAM after a write burst -/

theorem dramCheckByte_storeWords (p : Page) (w : Nat) (bytes checks : List Byte) (s : State) (a : Nat) :
    (storeWords p w bytes checks s).dramCheckByte a =
      if wordAddress p w ≤ a ∧ a < wordAddress p w + checks.length then
        (checks[a - wordAddress p w]?).getD (Config.checkUndefined s.epoch a)
      else s.dramCheckByte a := by
  unfold State.dramCheckByte storeWords
  simp only [State.setDramCheck_dramCheck, State.setDramCheck_epoch, State.setDram_epoch]
  rw [tget_tfill]
  split <;> rfl

section
variable (p : Page) (o : Nat) (samples : List Int) (inject : Option InjectKind) (s : State)

/-- The DRAM with the words of a write burst and their check bits. -/
def stored (p : Page) (o : Nat) (samples : List Int) (inject : Option InjectKind) (s : State) : State :=
  storeWords p o (injectInto inject (sampleBytes samples)) (checkBytes 8 (sampleBytes samples)) s

variable {samples} (full : samples.length = 32)
include full

theorem injectInto_samples : ∃ v vs, samples = v :: vs ∧ vs.length = 31 ∧
    injectInto inject (sampleBytes samples) =
      (BitVec.ofInt 8 v ^^^ injectByte inject) :: BitVec.ofInt 8 (v / 256) :: sampleBytes vs := by
  obtain ⟨v, vs, rfl⟩ := List.exists_cons_of_length_eq_add_one full
  have rest : vs.length = 31 := Nat.succ.inj full
  refine ⟨v, vs, rfl, rest, ?_⟩
  rw [sampleBytes_cons, injectInto_eq]
  rw [List.length_cons, sampleBytes_length]
  omega

theorem injectInto_samples_length : (injectInto inject (sampleBytes samples)).length = 64 := by
  obtain ⟨v, vs, -, rest, bytes⟩ := injectInto_samples inject full
  rw [bytes, List.length_cons, List.length_cons, sampleBytes_length, rest]

theorem stored_dram_other {a : Nat} (outside : a < 1024 * p.toNat + 8 * o ∨ 1024 * p.toNat + 8 * o + 64 ≤ a) :
    (stored p o samples inject s).dramByte a = s.dramByte a := by
  unfold stored
  rw [dramByte_storeWords, injectInto_samples_length inject full]
  exact if_neg (by unfold byteAddress; omega)

/-- A sample's two bytes stand at twice its place; an injection inverts bits of the first byte. -/
theorem stored_dram {i : Nat} {v : Int} (hi : i < 32) (value : samples[i]? = some v) :
    (stored p o samples inject s).dramByte (1024 * p.toNat + 8 * o + 2 * i) =
      BitVec.ofInt 8 v ^^^ (if i = 0 then injectByte inject else 0) ∧
    (stored p o samples inject s).dramByte (1024 * p.toNat + 8 * o + 2 * i + 1) = BitVec.ofInt 8 (v / 256) := by
  have byte : ∀ j, j < 64 → (stored p o samples inject s).dramByte (1024 * p.toNat + 8 * o + j) =
      ((injectInto inject (sampleBytes samples))[j]?).getD (Config.dramUndefined s.epoch (1024 * p.toNat + 8 * o + j)) := by
    intro j hj
    unfold stored
    rw [dramByte_storeWords, injectInto_samples_length inject full]
    unfold byteAddress
    rw [if_pos (by omega), Nat.add_sub_cancel_left]
  rw [Nat.add_assoc _ (2 * i) 1, byte _ (by omega), byte _ (by omega)]
  obtain ⟨x, xs, rfl, -, bytes⟩ := injectInto_samples inject full
  rw [bytes]
  cases i with
  | zero =>
    cases value
    exact ⟨rfl, rfl⟩
  | succ i =>
    obtain ⟨low, high⟩ := sampleBytes_getElem (vs := xs) value
    have even : 2 * (i + 1) = 2 * i + 1 + 1 := by omega
    rw [even, List.getElem?_cons_succ, List.getElem?_cons_succ, List.getElem?_cons_succ, List.getElem?_cons_succ, low, high,
      if_neg (Nat.succ_ne_zero i)]
    exact ⟨BitVec.xor_zero.symm, rfl⟩

omit full in
theorem stored_check_other {a : Nat} (outside : a < 128 * p.toNat + o ∨ 128 * p.toNat + o + 8 ≤ a) :
    (stored p o samples inject s).dramCheckByte a = s.dramCheckByte a := by
  unfold stored
  rw [dramCheckByte_storeWords, checkBytes_length]
  exact if_neg (by unfold wordAddress; omega)

omit full in
theorem stored_check {w : Nat} (hw : w < 8) : (stored p o samples inject s).dramCheckByte (128 * p.toNat + o + w) =
    BitVec.ofNat 8 (checkBits (leNat (((samples.drop (4 * w)).take 4).flatMap (fun v => leInt 2 v)))) := by
  unfold stored
  rw [dramCheckByte_storeWords, checkBytes_length]
  unfold wordAddress
  have words : ((sampleBytes samples).drop (8 * w)).take 8 = sampleBytes ((samples.drop (4 * w)).take 4) := by
    have eight : 8 * w = 2 * (4 * w) := by omega
    rw [eight, sampleBytes_drop, ← sampleBytes_take]
  rw [if_pos (by omega), Nat.add_sub_cancel_left, checkBytes_getElem _ hw, words]
  rfl

end

end Sys2Proof.Machine

/-!
PROOF. A completed write transfer (R63, R108).
-/

namespace Sys2Proof.Machine

section
variable {s : State} {b : BankId} {h : Burst}

theorem completeTransfer_none (idle : s.mem.dataPath = none) : completeTransfer s = s := by
  unfold completeTransfer
  rw [idle]

/-- The lists after the head burst of a bank has been transferred, and the free data path. -/
def transferred (b : BankId) (s : State) : State :=
  s.setMem { s.mem with granted := s.mem.granted.eraseP (fun y => y.page.toNat % 8 = b.val), dataPath := none }

theorem bank_eq_iff (y : Burst) (b : BankId) : y.bank = b ↔ y.page.toNat % 8 = b.val := Fin.ext_iff

theorem completeTransfer_head (path : s.mem.dataPath = some b)
    (head : s.mem.granted.find? (fun x => x.page.toNat % 8 = b.val) = some h) :
    completeTransfer s = match h.job with
      | .read asked => completeRead h asked (transferred b s)
      | .write samples inject => completeWrite h samples inject (transferred b s) := by
  have first : s.mem.head b = some h := (find_bank _ _).trans head
  unfold completeTransfer transferred
  simp only [path, first, bank_eq_iff] <;> rfl

theorem exec_transferComplete {dt : Nat} (free : s.resetHeld = false) :
    exec (.transferComplete dt) s = .next (settle (completeTransfer (elapse dt s))) :=
  exec_of_live (f := fun s => settle (completeTransfer s)) free rfl

/-! ## A write burst (R63) -/

variable {samples : List Int} {inject : Option InjectKind}

/-- The DRAINING sweep whose last position is written out. -/
def writtenOut (t : Track) (f : SweepRecord) (s : State) : State :=
  post (Source.sweepDone t) (.sweepDone f.seq f.flags)
    ((claim t f.seq SweepRecord.finish s).putTrack t { s.track t with cursor := none })

theorem completeWrite_ends {f : SweepRecord} (found : (s.records h.track).find? (fun y => y.seq = h.seq) = some f)
    (heeded : h.heeded = true) (draining : f.state = .draining) (last : f.length ≤ h.first + 32) :
    completeWrite h samples inject s = writtenOut h.track f (stored h.page h.offset samples inject s) := by
  have seq : f.seq = h.seq := by simpa using List.find?_some found
  have found' : findRecord (stored h.page h.offset samples inject s) h.track h.seq = some f := found
  unfold writtenOut
  rw [seq]
  unfold completeWrite
  simp only
  unfold stored at *
  simp only [found', heeded, draining, last, decide_true, Bool.and_self, if_true]
  rfl

theorem completeWrite_goesOn (going : ∀ f, (s.records h.track).find? (fun y => y.seq = h.seq) = some f →
      h.heeded = false ∨ f.state ≠ .draining ∨ h.first + 32 < f.length) :
    completeWrite h samples inject s = stored h.page h.offset samples inject s := by
  unfold completeWrite
  simp only
  cases found : findRecord (stored h.page h.offset samples inject s) h.track h.seq with
  | none =>
    unfold stored at found
    rw [found]
    rfl
  | some f =>
    have goes := going f found
    unfold stored at found
    rw [found]
    refine if_neg fun ends => ?_
    simp only [Bool.and_eq_true, decide_eq_true_eq] at ends
    obtain ⟨⟨heeded, draining⟩, last⟩ := ends
    rcases goes with unheeded | other | long
    · rw [heeded] at unheeded
      cases unheeded
    · exact other draining
    · omega

/-- A write burst stores its words, and may complete its sweep. -/
theorem completeWrite_cases (h : Burst) (samples : List Int) (inject : Option InjectKind) (s : State) :
    completeWrite h samples inject s = stored h.page h.offset samples inject s ∨
    ∃ f, completeWrite h samples inject s = writtenOut h.track f (stored h.page h.offset samples inject s) := by
  by_cases going : ∀ f, (s.records h.track).find? (fun y => y.seq = h.seq) = some f →
      h.heeded = false ∨ f.state ≠ .draining ∨ h.first + 32 < f.length
  · exact .inl (completeWrite_goesOn going)
  · simp only [not_forall, not_or, Bool.not_eq_false, not_not, Nat.not_lt] at going
    obtain ⟨f, found, heeded, draining, last⟩ := going
    exact .inr ⟨f, completeWrite_ends found heeded draining last⟩

theorem completeWrite_stores (a : Nat) :
    (completeWrite h samples inject s).dramByte a = (stored h.page h.offset samples inject s).dramByte a ∧
    (completeWrite h samples inject s).dramCheckByte a =
      (stored h.page h.offset samples inject s).dramCheckByte a := by
  rcases completeWrite_cases h samples inject s with e | ⟨f, e⟩ <;> rw [e] <;> exact ⟨rfl, rfl⟩

theorem completeWrite_other {k : Track} (ne : k ≠ h.track) :
    (completeWrite h samples inject s).records k = s.records k ∧
    (completeWrite h samples inject s).track k = s.track k := by
  rcases completeWrite_cases h samples inject s with e | ⟨f, e⟩ <;> rw [e]
  · exact ⟨rfl, rfl⟩
  · exact ⟨State.records_putRecords_other _ _ ne.symm, State.track_putTrack_other _ _ ne.symm⟩

theorem finish_of_seq (q : Nat) (l : List SweepRecord) :
    l.map (fun y => if y.seq = q then y.finish else y) =
      l.map (fun y => if y.seq = q ∧ y.state = .draining then { y with state := .complete } else y) := by
  refine List.map_congr_left fun y _ => ?_
  unfold SweepRecord.finish
  rw [ite_and]

theorem writtenOut_own {t : Track} {f : SweepRecord} :
    (writtenOut t f s).records t = (s.records t).map (fun y =>
      if y.seq = f.seq ∧ y.state = .draining then { y with state := .complete } else y) ∧
    (writtenOut t f s).track t = { s.track t with cursor := none } ∧
    (writtenOut t f s).notices = s.notices.post (Source.sweepDone t) (.sweepDone f.seq f.flags) :=
  ⟨(State.records_putRecords_same s t _).trans (finish_of_seq _ _), State.track_putTrack_same _ _ _, rfl⟩

end

/-- Settles O43. -/
theorem writeTransferStoresItsWords : Obligations.WriteTransferStoresItsWords := by
  refine ⟨fun dt s free idle => ?_, fun dt s b h samples inject free path head job full => ?_⟩
  · rw [exec_transferComplete free, completeTransfer_none (s := elapse dt s) idle]
  · refine ⟨_, exec_transferComplete free, ?_⟩
    have run := completeTransfer_head (s := elapse dt s) path head
    rw [job] at run
    rw [run]
    simp only [completeWrite_frame, completeWrite_stores]
    refine ⟨rfl, fun a outside => stored_dram_other _ _ _ _ full outside, fun i v hi value => ?_,
      fun a outside => stored_check_other _ _ _ _ outside, fun w hw => stored_check _ _ _ _ hw,
      fun f found heeded draining last => ?_, fun going => ?_, fun k ne => completeWrite_other ne, rfl, rfl, rfl, rfl, rfl,
      rfl, rfl, rfl, rfl, rfl, rfl⟩
    · obtain ⟨low, high⟩ := stored_dram h.page h.offset inject (transferred b (elapse dt s)) full hi value
      rw [low, high]
      cases inject with
      | none => exact ⟨rfl, rfl⟩
      | some k => cases k <;> exact ⟨rfl, rfl⟩
    · have seq : f.seq = h.seq := by simpa using List.find?_some found
      rw [completeWrite_ends (s := transferred b (elapse dt s)) found heeded draining last]
      obtain ⟨records, track, notices⟩ := writtenOut_own (t := h.track) (f := f)
        (s := stored h.page h.offset samples inject (transferred b (elapse dt s)))
      rw [records, track, notices, seq]
      exact ⟨rfl, rfl, rfl, rfl⟩
    · rw [completeWrite_goesOn (s := transferred b (elapse dt s)) going]
      exact ⟨rfl, rfl, rfl⟩

end Sys2Proof.Machine

/-!
PROOF. The words of a completed read transfer: what reaches the active read, and what the check-code unit does about wrong
words (R129 to R132).
-/

namespace Sys2Proof.Machine

/-! ## Samples into the active read (R143) -/

theorem tget_puts {α : Type} {l : Table α} (k : Nat) : ∀ m : Table α, Memory.wf l →
    tget (l.foldl (fun m c => tput m c.1 c.2) m) k = (tget l k).or (tget m k) := by
  induction l with
  | nil => intro m _; rfl
  | cons c l ih =>
    intro m order
    obtain ⟨a, v⟩ := c
    rw [Memory.wf, List.pairwise_cons] at order
    obtain ⟨above, order⟩ := order
    have first : tget ((a, v) :: l) k = if a = k then some v else tget l k := rfl
    rw [List.foldl_cons, ih _ order, tget_tput, first]
    by_cases e : a = k
    · subst e
      have none' : tget l a = none := tget_eq_none_of_forall_ne l a fun c mem => Nat.ne_of_gt (above c mem)
      rw [none', if_pos rfl, if_pos rfl]
      rfl
    · rw [if_neg e, if_neg (Ne.symm e)]

/-- A read keeps the samples of the positions that it asks for. -/
theorem Read.take_samples (first : Nat) (samples : List Sample) (r : Read) (p : Nat) :
    tget (r.take first samples).samples p =
      if first ≤ p ∧ p < first + samples.length ∧ r.firstPos ≤ p ∧ p < r.firstPos + r.count then samples[p - first]?
      else tget r.samples p := by
  have asked := tget_filter_key (fun a => decide (r.firstPos ≤ a) && decide (a < r.stop)) (cells first samples) p
  unfold Read.take
  simp only
  rw [tget_puts _ _ (Memory.wf_filter (Memory.wf_cells first samples) _), asked, tget_cells]
  unfold Read.stop
  by_cases inside : r.firstPos ≤ p ∧ p < r.firstPos + r.count
  · rw [if_pos (by simpa using inside)]
    by_cases low : first ≤ p
    · rw [if_pos low]
      by_cases high : p < first + samples.length
      · rw [if_pos ⟨low, high, inside⟩, List.getElem?_eq_getElem (by omega)]
        rfl
      · rw [if_neg (by omega), List.getElem?_eq_none (by omega)]
        rfl
    · rw [if_neg low, if_neg (by omega)]
      rfl
  · rw [if_neg (by simpa using inside), if_neg (by omega)]
    rfl

theorem getElem?_flatMap_four {α β : Type} {f : α → List β} (four : ∀ x, (f x).length = 4) {i : Nat} (hi : i < 4) :
    ∀ (l : List α) (w : Nat), (l.flatMap f)[4 * w + i]? = l[w]?.bind fun x => (f x)[i]?
  | [], _ => rfl
  | x :: l, 0 => by
    rw [List.flatMap_cons, List.getElem?_append_left (by rw [four]; omega), Nat.mul_zero, Nat.zero_add]
    rfl
  | x :: l, w + 1 => by
    rw [List.flatMap_cons, List.getElem?_append_right (by rw [four]; omega), four,
      show 4 * (w + 1) + i - 4 = 4 * w + i by omega, getElem?_flatMap_four four hi l w]
    rfl

section
variable {s : State} {h : Burst} {asked : List Nat}

/-- The samples of a read burst. -/
def burstRead (s : State) (h : Burst) (asked : List Nat) : List Sample := (List.range 8).flatMap (burstWord s h asked)

theorem wordSamples_getElem (n : Nat) {i : Nat} (hi : i < 4) :
    (wordSamples n)[i]? = some (signed16 (n / 65536 ^ i % 65536)) := by
  unfold wordSamples
  rw [List.getElem?_map, List.getElem?_range hi]
  rfl

theorem burstWord_checked {w : Nat} (mem : w ∈ asked) (on : s.check.mode ≠ .off) : burstWord s h asked w =
    (wordSamples (deliveredWord (burstCode s h w) (storedWord s h.page (h.offset + w)))).map
      fun v => { value := v, damaged := (burstCode s h w).uncorrectable } :=
  if_pos (by simp [mem, on])

theorem burstWord_unchecked {w : Nat} (off : w ∉ asked ∨ s.check.mode = .off) : burstWord s h asked w =
    (wordSamples (storedWord s h.page (h.offset + w))).map fun v => { value := v, damaged := false } :=
  if_neg (by
    simp only [Bool.and_eq_true, List.contains_iff_mem, decide_eq_true_eq]
    exact fun both => off.elim (· both.1) both.2)

theorem burstWord_length (w : Nat) : (burstWord s h asked w).length = 4 := by
  by_cases both : w ∈ asked ∧ s.check.mode ≠ .off
  · rw [burstWord_checked both.1 both.2, List.length_map]
    rfl
  · rw [burstWord_unchecked ((not_and_or.mp both).imp id not_not.mp), List.length_map]
    rfl

theorem burstRead_length : (burstRead s h asked).length = 32 := by
  unfold burstRead
  rw [List.length_flatMap, List.map_congr_left fun w _ => burstWord_length w]
  rfl

theorem burstRead_getElem {w i : Nat} (hw : w < 8) (hi : i < 4) :
    (burstRead s h asked)[4 * w + i]? = (burstWord s h asked w)[i]? := by
  unfold burstRead
  rw [getElem?_flatMap_four burstWord_length hi, List.getElem?_range hw]
  rfl

/-- A sample of a word that the active read asks for. -/
theorem take_burstRead {r : Read} {w i : Nat} (hw : w < 8) (hi : i < 4) (low : r.firstPos ≤ h.first + 4 * w + i)
    (high : h.first + 4 * w + i < r.firstPos + r.count) :
    tget (r.take h.first (burstRead s h asked)).samples (h.first + 4 * w + i) = (burstWord s h asked w)[i]? := by
  rw [Read.take_samples, burstRead_length, if_pos (by omega), Nat.add_assoc, Nat.add_sub_cancel_left,
    burstRead_getElem hw hi]

theorem take_outside {r : Read} {p : Nat}
    (outside : p < h.first ∨ h.first + 32 ≤ p ∨ p < r.firstPos ∨ r.firstPos + r.count ≤ p) :
    tget (r.take h.first (burstRead s h asked)).samples p = tget r.samples p := by
  rw [Read.take_samples, burstRead_length]
  exact if_neg (by omega)

end

/-! ## Wrong words (R130, R131) -/

/-- The asked-for words are checked in the order of the list. -/
def noteWords (fault : Nat → WordFault) (asked : List Nat) (s : State) : State :=
  asked.foldl (fun s' w => noteWord (fault w) s') s

section
variable {fault : Nat → WordFault} {asked : List Nat} {s : State}

theorem noteWord_off (f : WordFault) (off : s.check.mode = .off) : noteWord f s = s := if_pos off

theorem noteWords_off (off : s.check.mode = .off) : noteWords fault asked s = s := by
  unfold noteWords
  induction asked with
  | nil => rfl
  | cons w asked ih => rw [List.foldl_cons, noteWord_off _ off, ih]

theorem noteWords_cons (w : Nat) : noteWords fault (w :: asked) s = noteWords fault asked (noteWord (fault w) s) := rfl

theorem noteWord_mode {f : WordFault} (on : s.check.mode ≠ .off) : (noteWord f s).check.mode = s.check.mode := by
  obtain ⟨mode, -⟩ := noteWord_spec f s on
  exact mode

theorem noteWord_on {f : WordFault} (on : s.check.mode ≠ .off) : (noteWord f s).check.mode ≠ .off :=
  (noteWord_mode on).symm ▸ on

theorem noteWords_settings : ∀ {asked : List Nat} {s : State}, s.check.mode ≠ .off →
    (noteWords fault asked s).check.mode = s.check.mode ∧ (noteWords fault asked s).check.inject = s.check.inject
  | [], _, _ => ⟨rfl, rfl⟩
  | w :: asked, s, on => by
    obtain ⟨mode, inject, -⟩ := noteWord_spec (fault w) s on
    obtain ⟨mode', inject'⟩ := noteWords_settings (asked := asked) (noteWord_on (f := fault w) on)
    exact ⟨mode'.trans mode, inject'.trans inject⟩

/-- Without a corrected word the last-corrected record stays. -/
theorem noteWords_uncorrected : ∀ {asked : List Nat} {s : State}, s.check.mode ≠ .off →
    (∀ w ∈ asked, (fault w).code.corrected = false) →
    (noteWords fault asked s).check.lastCorrected = s.check.lastCorrected
  | [], _, _, _ => rfl
  | w :: asked, s, on, clean => by
    obtain ⟨-, -, last, -⟩ := noteWord_spec (fault w) s on
    rw [noteWords_cons, noteWords_uncorrected (noteWord_on on) fun v mem => clean v (List.mem_cons_of_mem _ mem), last,
      clean w List.mem_cons_self]
    rfl

/-- The corrected word of the highest offset is the last-corrected record. -/
theorem noteWords_corrected {w : Nat} (on : s.check.mode ≠ .off) (rising : asked.Pairwise (· < ·)) (mem : w ∈ asked)
    (corrected : (fault w).code.corrected = true) (last : ∀ v ∈ asked, (fault v).code.corrected = true → v ≤ w) :
    (noteWords fault asked s).check.lastCorrected = some (fault w) := by
  induction asked generalizing s with
  | nil => cases mem
  | cons a asked ih =>
    obtain ⟨above, rising⟩ := List.pairwise_cons.mp rising
    have later : ∀ v ∈ asked, (fault v).code.corrected = true → v ≤ w := fun v mem => last v (List.mem_cons_of_mem _ mem)
    rw [noteWords_cons]
    rcases List.mem_cons.mp mem with rfl | mem
    · obtain ⟨-, -, noted, -⟩ := noteWord_spec (fault w) s on
      rw [noteWords_uncorrected (noteWord_on on), noted, corrected]
      · rfl
      · intro v mem
        by_contra wrong
        exact absurd (later v mem (by simpa using wrong)) (Nat.not_le.mpr (above v mem))
    · exact ih (noteWord_on on) rising mem later

/-- Without an uncorrectable word the first-uncorrectable record, the more flag and the sweep indexes stay. -/
theorem noteWords_harmless : ∀ {asked : List Nat} {s : State}, s.check.mode ≠ .off →
    (∀ w ∈ asked, (fault w).code.uncorrectable = false) →
    (noteWords fault asked s).check.firstUncorrectable = s.check.firstUncorrectable ∧
    (noteWords fault asked s).check.more = s.check.more ∧ (noteWords fault asked s).index = s.index
  | [], _, _, _ => ⟨rfl, rfl, rfl⟩
  | w :: asked, s, on, harmless => by
    have harmlessW := harmless w List.mem_cons_self
    obtain ⟨-, -, -, first, more, index, -⟩ := noteWord_spec (fault w) s on
    obtain ⟨first', more', index'⟩ := noteWords_harmless (asked := asked) (noteWord_on (f := fault w) on)
      fun v mem => harmless v (List.mem_cons_of_mem _ mem)
    rw [noteWords_cons, first', more', index', first, more, index harmlessW, harmlessW]
    exact ⟨rfl, by simp, rfl⟩

/-- A first-uncorrectable record stays; the more flag remembers every further word. -/
theorem noteWords_recorded {old : MemoryFaultRecord} : ∀ {asked : List Nat} {s : State}, s.check.mode ≠ .off →
    s.check.firstUncorrectable = some old →
    (noteWords fault asked s).check.firstUncorrectable = some old ∧
    ((noteWords fault asked s).check.more = true ↔
      s.check.more = true ∨ ∃ w ∈ asked, (fault w).code.uncorrectable = true)
  | [], _, _, recorded => ⟨recorded, by simp [noteWords]⟩
  | w :: asked, s, on, recorded => by
    obtain ⟨-, -, -, first, more, -⟩ := noteWord_spec (fault w) s on
    have recorded' : (noteWord (fault w) s).check.firstUncorrectable = some old := by
      rw [first, recorded]
      split <;> rfl
    obtain ⟨kept, more'⟩ := noteWords_recorded (asked := asked) (noteWord_on (f := fault w) on) recorded'
    refine ⟨kept, ?_⟩
    rw [noteWords_cons, more', more, recorded]
    simp [or_assoc]

/-- The DAMAGED claim of one sweep (R131). -/
def damagedIn (q : Nat) (l : List SweepRecord) : List SweepRecord :=
  l.map fun y => if y.seq = q then { y with damaged := true } else y

theorem damagedIn_damagedIn (q : Nat) (l : List SweepRecord) : damagedIn q (damagedIn q l) = damagedIn q l := by
  unfold damagedIn
  rw [List.map_map]
  refine List.map_congr_left fun y _ => ?_
  simp only [Function.comp]
  by_cases e : y.seq = q
  · rw [if_pos e, if_pos e]
  · rw [if_neg e, if_neg e]

theorem records_of_index {a b : State} (same : a.index = b.index) (k : Track) : a.records k = b.records k :=
  congrArg (fun i => i[k]) same

/-- An uncorrectable word marks its sweep DAMAGED, however many there are. -/
theorem noteWords_damages {t : Track} {q : Nat} (owner : ∀ w, (fault w).track = t ∧ (fault w).seq = q)
    (on : s.check.mode ≠ .off) (some' : ∃ w ∈ asked, (fault w).code.uncorrectable = true) :
    (noteWords fault asked s).records t = damagedIn q (s.records t) ∧
    ∀ k, k ≠ t → (noteWords fault asked s).records k = s.records k := by
  induction asked generalizing s with
  | nil =>
    obtain ⟨w, mem, -⟩ := some'
    cases mem
  | cons a asked ih =>
    obtain ⟨w, mem, wrong⟩ := some'
    have on' := noteWord_on (f := fault a) on
    obtain ⟨track, seq⟩ := owner a
    obtain ⟨-, -, -, -, -, calm, damages, -⟩ := noteWord_spec (fault a) s on
    rw [noteWords_cons]
    cases wrongA : (fault a).code.uncorrectable with
    | false =>
      have later : ∃ w ∈ asked, (fault w).code.uncorrectable = true := by
        rcases List.mem_cons.mp mem with rfl | mem
        · rw [wrong] at wrongA
          cases wrongA
        · exact ⟨w, mem, wrong⟩
      obtain ⟨own, others⟩ := ih on' later
      have same := records_of_index (calm wrongA)
      exact ⟨own.trans (congrArg _ (same t)), fun k ne => (others k ne).trans (same k)⟩
    | true =>
      obtain ⟨own, others⟩ := damages wrongA
      rw [track, seq] at own
      rw [track] at others
      by_cases later : ∃ w ∈ asked, (fault w).code.uncorrectable = true
      · obtain ⟨own', others'⟩ := ih on' later
        refine ⟨?_, fun k ne => (others' k ne).trans (others k ne)⟩
        rw [own', own]
        exact damagedIn_damagedIn q _
      · have rest : ∀ w ∈ asked, (fault w).code.uncorrectable = false := fun w mem =>
          Bool.eq_false_iff.mpr fun wrong => later ⟨w, mem, wrong⟩
        obtain ⟨-, -, index⟩ := noteWords_harmless on' rest
        have same := records_of_index index
        exact ⟨(same t).trans own, fun k ne => (same k).trans (others k ne)⟩

/-- The uncorrectable word of the lowest offset is the first-uncorrectable record where there was none. -/
theorem noteWords_first {w : Nat} (on : s.check.mode ≠ .off) (rising : asked.Pairwise (· < ·)) (mem : w ∈ asked)
    (wrong : (fault w).code.uncorrectable = true) (least : ∀ v ∈ asked, (fault v).code.uncorrectable = true → w ≤ v)
    (unset : s.check.firstUncorrectable = none) :
    (noteWords fault asked s).check.firstUncorrectable = some (.uncorrectable (fault w)) ∧
    ((noteWords fault asked s).check.more = true ↔
      s.check.more = true ∨ ∃ v ∈ asked, v ≠ w ∧ (fault v).code.uncorrectable = true) := by
  induction asked generalizing s with
  | nil => cases mem
  | cons a asked ih =>
    obtain ⟨above, rising⟩ := List.pairwise_cons.mp rising
    obtain ⟨-, -, -, first, more, -⟩ := noteWord_spec (fault a) s on
    rw [unset] at first more
    have more' : (noteWord (fault a) s).check.more = s.check.more := by simpa using more
    rw [noteWords_cons]
    rcases List.mem_cons.mp mem with rfl | mem
    · rw [wrong] at first
      obtain ⟨kept, counted⟩ := noteWords_recorded (asked := asked) (noteWord_on (f := fault w) on) first
      refine ⟨kept, ?_⟩
      rw [counted, more']
      refine or_congr_right ⟨fun ⟨v, mem, bad⟩ => ⟨v, List.mem_cons_of_mem _ mem, Nat.ne_of_gt (above v mem), bad⟩, ?_⟩
      rintro ⟨v, mem, ne, bad⟩
      exact ⟨v, (List.mem_cons.mp mem).resolve_left ne, bad⟩
    · have calm : (fault a).code.uncorrectable = false := by
        by_contra bad
        exact absurd (least a List.mem_cons_self (by simpa using bad)) (Nat.not_le.mpr (above w mem))
      rw [calm] at first
      obtain ⟨kept, counted⟩ := ih (noteWord_on (f := fault a) on) rising mem
        (fun v mem => least v (List.mem_cons_of_mem _ mem)) first
      refine ⟨kept, ?_⟩
      rw [counted, more']
      simp [calm]

theorem noteWords_notices_silent : ∀ {asked : List Nat} {s : State}, s.check.mode ≠ .off → s.check.mode ≠ .notify →
    (noteWords fault asked s).notices = s.notices
  | [], _, _, _ => rfl
  | w :: asked, s, on, silent => by
    obtain ⟨mode, -, -, -, -, -, -, notices⟩ := noteWord_spec (fault w) s on
    rw [noteWords_cons, noteWords_notices_silent (noteWord_on on) (mode.symm ▸ silent), notices, if_neg silent]

theorem noteWords_notices : ∀ {asked : List Nat} {s : State}, s.check.mode = .notify →
    (noteWords fault asked s).notices = asked.foldl (fun n w =>
      if (fault w).code.corrected then n.post Source.corrected (.corrected (fault w))
      else if (fault w).code.uncorrectable then n.post Source.memoryFault (.memoryFault (.uncorrectable (fault w)))
      else n) s.notices
  | [], _, _ => rfl
  | w :: asked, s, notify => by
    have on : s.check.mode ≠ .off := by rw [notify]; exact fun e => nomatch e
    obtain ⟨mode, -, -, -, -, -, -, notices⟩ := noteWord_spec (fault w) s on
    rw [noteWords_cons, noteWords_notices (mode.trans notify), notices, if_pos notify]
    rfl

end

end Sys2Proof.Machine

/-!
PROOF. A completed read transfer (R108, R129 to R131, R143).
-/

namespace Sys2Proof.Machine

section
variable {h : Burst} {asked : List Nat} {s : State}

/-- What the check-code unit reports about one word of a read burst. -/
def burstFault (s : State) (h : Burst) (w : Nat) : WordFault :=
  { page := h.page, offset := h.offset + w, code := burstCode s h w, track := h.track, seq := h.seq }

theorem completeRead_unheeded (unheeded : h.heeded = false) :
    completeRead h asked s = noteWords (burstFault s h) asked s := if_neg (by simp [unheeded])

theorem completeRead_empty (empty : s.readout.queue = []) :
    completeRead h asked s = noteWords (burstFault s h) asked s := by
  obtain ⟨-, -, -, -, -, -, -, -, -, -, -, -, -, -, readout, -⟩ := noteWords_frame (burstFault s h) asked s
  unfold completeRead
  simp only
  unfold burstFault at readout
  rw [readout, empty]
  exact ite_self _

theorem completeRead_active {r : Read} {rest : List Read} (heeded : h.heeded = true) (queue : s.readout.queue = r :: rest) :
    completeRead h asked s = (noteWords (burstFault s h) asked s).setReadout
      { s.readout with queue := r.take h.first (burstRead s h asked) :: rest } := by
  obtain ⟨-, -, -, -, -, -, -, -, -, -, -, -, -, -, readout, -⟩ := noteWords_frame (burstFault s h) asked s
  unfold completeRead
  simp only
  unfold burstFault at readout
  rw [if_pos heeded, readout, queue]
  unfold setActive
  simp only
  rw [readout, queue]
  rfl

/-- What a read burst reports does not depend on the read that asked for it. -/
theorem completeRead_notes : (completeRead h asked s).check = (noteWords (burstFault s h) asked s).check ∧
    (completeRead h asked s).notices = (noteWords (burstFault s h) asked s).notices ∧
    (completeRead h asked s).index = (noteWords (burstFault s h) asked s).index := by
  cases heeded : h.heeded with
  | false =>
    rw [completeRead_unheeded heeded]
    exact ⟨rfl, rfl, rfl⟩
  | true =>
    cases queue : s.readout.queue with
    | nil =>
      rw [completeRead_empty queue]
      exact ⟨rfl, rfl, rfl⟩
    | cons r rest =>
      rw [completeRead_active heeded queue]
      exact ⟨rfl, rfl, rfl⟩

theorem noteWords_readout : (noteWords (burstFault s h) asked s).readout = s.readout := by
  obtain ⟨-, -, -, -, -, -, -, -, -, -, -, -, -, -, readout, -⟩ := noteWords_frame (burstFault s h) asked s
  exact readout

theorem completeRead_readout_unused (unused : h.heeded = false ∨ s.readout.queue = []) :
    (completeRead h asked s).readout = s.readout := by
  rcases unused with unheeded | empty
  · rw [completeRead_unheeded unheeded, noteWords_readout]
  · rw [completeRead_empty empty, noteWords_readout]

theorem completeRead_ended : (completeRead h asked s).readout.ended = s.readout.ended := by
  cases heeded : h.heeded with
  | false => rw [completeRead_readout_unused (.inl heeded)]
  | true =>
    cases queue : s.readout.queue with
    | nil => rw [completeRead_readout_unused (.inr queue)]
    | cons r rest =>
      rw [completeRead_active heeded queue]
      rfl

end

/-- Settles O44. -/
theorem readTransferChecksItsWords : Obligations.ReadTransferChecksItsWords := by
  intro dt s b h asked free path head job
  refine ⟨_, exec_transferComplete free, ?_⟩
  have run := completeTransfer_head (s := elapse dt s) path head
  rw [job] at run
  rw [run]
  -- the DRAM that the burst reads is the state's, whatever the lists and the time are
  obtain ⟨check, notices, index⟩ := completeRead_notes (h := h) (asked := asked) (s := transferred b (elapse dt s))
  simp only [completeRead_frame]
  refine ⟨rfl, rfl, rfl, completeRead_ended, rfl, rfl, rfl, rfl, rfl, rfl, rfl, rfl, rfl, rfl,
    completeRead_readout_unused (s := transferred b (elapse dt s)), fun r rest heeded queue => ?_, fun off => ?_, ?_⟩
  · rw [completeRead_active (s := transferred b (elapse dt s)) heeded queue]
    refine ⟨_, rfl, fun p outside => take_outside outside, fun w i hw hi low high => ⟨fun mem on => ?_, fun off => ?_⟩⟩
    · refine (take_burstRead hw hi low high).trans ?_
      rw [burstWord_checked (s := transferred b (elapse dt s)) mem on, List.getElem?_map, wordSamples_getElem _ hi]
      rfl
    · refine (take_burstRead hw hi low high).trans ?_
      rw [burstWord_unchecked (s := transferred b (elapse dt s)) off, List.getElem?_map, wordSamples_getElem _ hi]
      rfl
  · rw [check, notices, index, noteWords_off (s := transferred b (elapse dt s)) off]
    exact ⟨rfl, rfl, rfl⟩
  · intro code fault on rising codes faults
    have named : burstFault (transferred b (elapse dt s)) h = fault := by
      funext w
      rw [faults w, codes w]
      rfl
    have coded : ∀ w, (fault w).code = code w := fun w => by rw [faults w]
    have owner : ∀ w, (fault w).track = h.track ∧ (fault w).seq = h.seq := fun w => by
      rw [faults w]
      exact ⟨rfl, rfl⟩
    have noted (k : Track) := records_of_index index k
    rw [named] at check notices index noted
    simp only [check, notices, index, noted, ← coded]
    have on' : (transferred b (elapse dt s)).check.mode ≠ .off := on
    obtain ⟨mode, inject⟩ := noteWords_settings (fault := fault) (asked := asked) on'
    refine ⟨mode, inject, noteWords_uncorrected on', fun w => noteWords_corrected on' rising, noteWords_harmless on',
      fun w mem wrong least => ⟨noteWords_first on' rising mem wrong least, fun old recorded => ?_,
        noteWords_damages owner on' ⟨w, mem, wrong⟩⟩, noteWords_notices_silent on',
      noteWords_notices (s := transferred b (elapse dt s))⟩
    obtain ⟨kept, counted⟩ := noteWords_recorded (fault := fault) (asked := asked) on' recorded
    exact ⟨kept, counted.mpr (.inr ⟨w, mem, wrong⟩)⟩

end Sys2Proof.Machine

/-!
PROOF. READ_SWEEP, READ_MEAN and ABORT_READ (R138 to R140, R150).
-/

namespace Sys2Proof.Machine

/-! ## The checks of a read request -/

section
variable {s : State} {tag : Nat} {o : ByteOrder}

theorem byteOrderOf_big {n : Nat} (big : 2 ≤ n) : byteOrderOf n = none := by
  match n, big with
  | n + 2, _ => rfl

theorem byteOrderOf_eq {n : Nat} (code : n = 0 ∧ o = .lowFirst ∨ n = 1 ∧ o = .highFirst) : byteOrderOf n = some o := by
  rcases code with ⟨rfl, rfl⟩ | ⟨rfl, rfl⟩ <;> rfl

theorem tagInQueue_iff : tagInQueue s tag = true ↔ ∃ x ∈ s.readout.queue, x.tag = tag := by simp [tagInQueue]

theorem tagInEnded_iff : tagInEnded s tag = true ↔ ∃ x ∈ s.readout.ended, x.tag = tag := by simp [tagInEnded]

theorem tagInQueue_free (free : ∀ x ∈ s.readout.queue, x.tag ≠ tag) : tagInQueue s tag = false := by
  rw [Bool.eq_false_iff, Ne, tagInQueue_iff]
  rintro ⟨x, mem, same⟩
  exact free x mem same

theorem tagInEnded_free (free : ∀ x ∈ s.readout.ended, x.tag ≠ tag) : tagInEnded s tag = false := by
  rw [Bool.eq_false_iff, Ne, tagInEnded_iff]
  rintro ⟨x, mem, same⟩
  exact free x mem same

/-- The checks that READ_SWEEP and READ_MEAN have in common: the load of reads, then the tag. -/
def Admits (s : State) (tag : Nat) (verdict rest : Except Status Read) : Prop :=
  (4 ≤ s.readout.queue.length + s.readout.ended.length → verdict = .error .full) ∧
  (s.readout.queue.length + s.readout.ended.length < 4 →
    ((∃ x ∈ s.readout.queue, x.tag = tag) ∨ (∃ x ∈ s.readout.ended, x.tag = tag) → verdict = .error .busy) ∧
    ((∀ x ∈ s.readout.queue, x.tag ≠ tag) → (∀ x ∈ s.readout.ended, x.tag ≠ tag) → verdict = rest))

theorem admits_of_eq {verdict rest : Except Status Read} (e : verdict = if Config.maxReads ≤ readLoad s then .error .full
    else if tagInQueue s tag || tagInEnded s tag then .error .busy else rest) : Admits s tag verdict rest := by
  subst e
  refine ⟨fun full => if_pos full, fun room => ?_⟩
  have below : ¬ Config.maxReads ≤ readLoad s := Nat.not_le.mpr room
  refine ⟨fun used => ?_, fun queue ended => ?_⟩
  · rw [if_neg below, if_pos]
    rw [Bool.or_eq_true, tagInQueue_iff, tagInEnded_iff]
    exact used
  · rw [if_neg below, tagInQueue_free queue, tagInEnded_free ended]
    rfl

variable {t : Track} {seq first count : Nat}

/-- READ_SWEEP's checks of the sweep. -/
def admitRecord (s : State) (tag : Nat) (t : Track) (seq first count : Nat) (o : ByteOrder) : Except Status Read :=
  match findRecord s t seq with
  | none => .error .noSuch
  | some x =>
    if x.incomplete then .error .notReady
    else if x.length < first + count then .error .badField
    else .ok (sweepRead tag t x first count o)

theorem admitSweep_admits : Admits s tag (admitSweep s tag t seq first count o) (admitRecord s tag t seq first count o) :=
  admits_of_eq rfl

theorem admitRecord_none (missing : ∀ y ∈ s.records t, y.seq ≠ seq) :
    admitRecord s tag t seq first count o = .error .noSuch := by
  unfold admitRecord
  rw [findRecord_none missing]

theorem admitRecord_incomplete {f : SweepRecord} (found : (s.records t).find? (fun y => y.seq = seq) = some f)
    (state : f.state ≠ .complete) : admitRecord s tag t seq first count o = .error .notReady := by
  have found' : findRecord s t seq = some f := found
  unfold admitRecord
  rw [found']
  exact if_pos (by unfold SweepRecord.incomplete; simpa using state)

theorem admitRecord_complete {f : SweepRecord} (found : (s.records t).find? (fun y => y.seq = seq) = some f)
    (state : f.state = .complete) : admitRecord s tag t seq first count o =
      if f.length < first + count then .error .badField else .ok (sweepRead tag t f first count o) := by
  have found' : findRecord s t seq = some f := found
  unfold admitRecord
  rw [found']
  exact if_neg (by unfold SweepRecord.incomplete; simp [state])

/-- READ_MEAN's checks of the track's averager. -/
def admitAverager (s : State) (tag : Nat) (t : Track) (o : ByteOrder) : Except Status Read :=
  match (s.averager t).region with
  | none => .error .noSuch
  | some g =>
    if (s.averager t).published || (s.averager t).publication.isSome then .ok (meanRead tag t g.length o)
    else .error .noSuch

theorem admitMean_admits : Admits s tag (admitMean s tag t o) (admitAverager s tag t o) := admits_of_eq rfl

theorem admitAverager_nothing
    (nothing : (s.averager t).region = none ∨ (s.averager t).published = false ∧ (s.averager t).publication = none) :
    admitAverager s tag t o = .error .noSuch := by
  unfold admitAverager
  rcases nothing with none' | ⟨unpublished, idle⟩
  · rw [none']
  · rw [unpublished, idle]
    split <;> rfl

theorem admitAverager_mean {g : Region} (region : (s.averager t).region = some g)
    (mean : (s.averager t).published = true ∨ (s.averager t).publication ≠ none) :
    admitAverager s tag t o = .ok (meanRead tag t g.length o) := by
  unfold admitAverager
  rw [region]
  exact if_pos (by rwa [Bool.or_eq_true, Option.isSome_iff_ne_none])

/-! ## The requests -/

variable {r : RawRequest} {n : Nat}

theorem serveReadSweep_badField (bad : count = 0 ∨ 2 ≤ n) :
    serveReadSweep r (.readSweep t.val seq first count n) s = some (addReply true r .badField [] s) := by
  simp only [serveReadSweep, trackOf_val]
  rcases bad with rfl | big
  · split <;> rfl
  · rw [byteOrderOf_big big]
    rfl

theorem serveReadSweep_admit (order : byteOrderOf n = some o) (positive : 1 ≤ count) :
    serveReadSweep r (.readSweep t.val seq first count n) s =
      some (match admitSweep s r.tag t seq first count o with
        | .error st => addReply true r st [] s
        | .ok x => follow (addReply true r .ok [] (addRead x s))) := by
  simp only [serveReadSweep, trackOf_val, order]
  rw [if_neg (Nat.ne_of_gt positive)]
  rfl

theorem serveReadSweep_error {st : Status} (order : byteOrderOf n = some o) (positive : 1 ≤ count)
    (e : admitSweep s r.tag t seq first count o = .error st) :
    serveReadSweep r (.readSweep t.val seq first count n) s = some (addReply true r st [] s) := by
  rw [serveReadSweep_admit order positive, e]

theorem serveReadSweep_ok {x : Read} (order : byteOrderOf n = some o) (positive : 1 ≤ count)
    (e : admitSweep s r.tag t seq first count o = .ok x) :
    serveReadSweep r (.readSweep t.val seq first count n) s = some (follow (addReply true r .ok [] (addRead x s))) := by
  rw [serveReadSweep_admit order positive, e]

theorem serveReadMean_badField (big : 2 ≤ n) :
    serveReadMean r (.readMean t.val n) s = some (addReply true r .badField [] s) := by
  simp only [serveReadMean, trackOf_val, byteOrderOf_big big]
  rfl

theorem serveReadMean_admit (order : byteOrderOf n = some o) : serveReadMean r (.readMean t.val n) s =
    some (match admitMean s r.tag t o with
      | .error st => addReply true r st [] s
      | .ok x => follow (addReply true r .ok [] (addRead x s))) := by
  simp only [serveReadMean, trackOf_val, order]
  rfl

theorem serveReadMean_error {st : Status} (order : byteOrderOf n = some o) (e : admitMean s r.tag t o = .error st) :
    serveReadMean r (.readMean t.val n) s = some (addReply true r st [] s) := by
  rw [serveReadMean_admit order, e]

theorem serveReadMean_ok {x : Read} (order : byteOrderOf n = some o) (e : admitMean s r.tag t o = .ok x) :
    serveReadMean r (.readMean t.val n) s = some (follow (addReply true r .ok [] (addRead x s))) := by
  rw [serveReadMean_admit order, e]

theorem serveAbortRead_noSuch (queue : ∀ x ∈ s.readout.queue, x.tag ≠ tag) (ended : ∀ x ∈ s.readout.ended, x.tag ≠ tag) :
    serveAbortRead r (.abortRead tag) s = some (addReply true r .noSuch [] s) := by
  simp only [serveAbortRead, tagInQueue_free queue, tagInEnded_free ended]
  rfl

theorem serveAbortRead_ended (queue : ∀ x ∈ s.readout.queue, x.tag ≠ tag) (ended : ∃ x ∈ s.readout.ended, x.tag = tag) :
    serveAbortRead r (.abortRead tag) s = some (addReply true r .ok [] s) := by
  simp only [serveAbortRead, tagInQueue_free queue, tagInEnded_iff.mpr ended]
  rfl

theorem serveAbortRead_queued (queue : ∃ x ∈ s.readout.queue, x.tag = tag) : serveAbortRead r (.abortRead tag) s =
    some (follow (addReply true r .ok [] (endReads (fun x => x.tag = tag) .aborted s))) := by
  simp only [serveAbortRead, tagInQueue_iff.mpr queue]
  rfl

end

/-! ## Waking for a read (R119, R140, R142) -/

/-- The first block of a READ_SWEEP that is alone in the queue is asked for at once. -/
theorem engineBlock_sweepRead {s : State} {tag first count : Nat} {t : Track} {f : SweepRecord} {o : ByteOrder}
    (queue : s.readout.queue = [sweepRead tag t f first count o]) (positive : 1 ≤ count) : engineBlock s ≠ none := by
  rw [engineBlock_wanted queue rfl ⟨first, ?_⟩]
  · exact Option.some_ne_none _
  · simp only [sweepRead]
    omega

theorem follow_wakes {s : State} (asleep : s.mem.state = .standby) (wanted : burstRequested s = true) :
    (follow s).mem.state = .waking .burst := by
  rw [follow_eq]
  simp [State.woken, asleep, wanted]

theorem follow_sleeps {s : State} (asleep : s.mem.state = .standby) (unwanted : burstRequested s = false) :
    (follow s).mem.state = .standby := by
  rw [follow_eq]
  simp [State.woken, asleep, unwanted]

/-- A READ_MEAN asks for no burst: whether one is requested stays as it was. -/
theorem burstRequested_addMean {s x : State} {y : Read} (kind : y.kind = .mean) (quiet : burstRequested s = false)
    (granted : x.mem.granted = s.mem.granted) (tracks : x.tracks = s.tracks)
    (index : x.index = s.index) (readout : x.readout = { s.readout with queue := [y] }) : burstRequested x = false := by
  have away : burstRequested (x.setReadout s.readout) = burstRequested s := burstRequested_congr granted tracks index rfl
  rw [quiet] at away
  have writers (u : Track) : writerRequests x u = writerRequests (x.setReadout s.readout) u := rfl
  rw [Bool.eq_false_iff, Ne, burstRequested_iff] at away ⊢
  rintro (⟨u, wants⟩ | wants)
  · exact away (.inl ⟨u, wants⟩)
  · exact wants (engineBlock_mean (rest := []) (by rw [readout]) kind)

/-- Settles O48. -/
theorem readRequestsAreCheckedInOrder : Obligations.ReadRequestsAreCheckedInOrder := by
  intro dt s r rest t
  refine ⟨fun seq first count n served => ⟨fun bad => exec_of_serves serveReadSweep served rfl (serveReadSweep_badField bad), ?_⟩,
    fun n served => ⟨fun big => exec_of_serves serveReadMean served rfl (serveReadMean_badField big), ?_⟩, fun tag served => ?_⟩
  · intro o positive code
    have order := byteOrderOf_eq code
    have fails {st : Status} (e : admitSweep (handed dt s rest) r.tag t seq first count o = .error st) :=
      exec_of_serves (c := .readSweep dt) serveReadSweep served rfl (serveReadSweep_error order positive e)
    obtain ⟨full, room⟩ := admitSweep_admits (s := handed dt s rest) (tag := r.tag) (t := t) (seq := seq)
      (first := first) (count := count) (o := o)
    refine ⟨fun load => fails (full load), fun load => ?_⟩
    obtain ⟨busy, free⟩ := room load
    refine ⟨fun used => fails (busy used), fun queue ended => ?_⟩
    have admits := free queue ended
    refine ⟨fun missing => fails (admits.trans (admitRecord_none missing)), fun f found =>
      ⟨fun state => fails (admits.trans (admitRecord_incomplete found state)), fun state short =>
        fails ((admits.trans (admitRecord_complete found state)).trans (if_pos short)), fun state fits => ?_⟩⟩
    have run := exec_of_serves (c := .readSweep dt) serveReadSweep served rfl (serveReadSweep_ok order positive
      ((admits.trans (admitRecord_complete found state)).trans (if_neg (Nat.not_lt.mpr fits))))
    refine ⟨run, fun alone asleep => ⟨_, run, follow_wakes asleep ((burstRequested_iff _).mpr (.inr ?_))⟩⟩
    refine engineBlock_sweepRead (tag := r.tag) (t := t) (f := f) (first := first) (o := o) ?_ positive
    exact congrArg (· ++ [_]) alone
  · intro o code
    have order := byteOrderOf_eq code
    have fails {st : Status} (e : admitMean (handed dt s rest) r.tag t o = .error st) :=
      exec_of_serves (c := .readMean dt) serveReadMean served rfl (serveReadMean_error order e)
    obtain ⟨full, room⟩ := admitMean_admits (s := handed dt s rest) (tag := r.tag) (t := t) (o := o)
    refine ⟨fun load => fails (full load), fun load => ?_⟩
    obtain ⟨busy, free⟩ := room load
    refine ⟨fun used => fails (busy used), fun queue ended => ?_⟩
    have admits := free queue ended
    refine ⟨fun nothing => fails (admits.trans (admitAverager_nothing nothing)), fun g region mean => ?_⟩
    have run := exec_of_serves (c := .readMean dt) serveReadMean served rfl
      (serveReadMean_ok order (admits.trans (admitAverager_mean region mean)))
    refine ⟨run, fun alone asleep quiet => ⟨_, run, follow_sleeps asleep
      (burstRequested_addMean (y := meanRead r.tag t g.length o) rfl quiet rfl rfl rfl ?_)⟩⟩
    exact congrArg (fun q => { s.readout with queue := q ++ [meanRead r.tag t g.length o] }) alone
  · refine ⟨fun queue ended => exec_of_serves serveAbortRead served rfl (serveAbortRead_noSuch (s := handed dt s rest) queue ended),
      fun queue ended => exec_of_serves serveAbortRead served rfl (serveAbortRead_ended (s := handed dt s rest) queue ended),
      fun queued => ?_⟩
    refine ⟨_, exec_of_serves serveAbortRead served rfl (serveAbortRead_queued (s := handed dt s rest) queued), ?_⟩
    rw [follow_eq, endReads_eq]
    refine ⟨?_, rfl, rfl, rfl, rfl, rfl, rfl, rfl, rfl, rfl, rfl, rfl, rfl⟩
    show (handed dt s rest).readout.endReads (fun x => x.tag = tag) .aborted = _
    unfold Readout.endReads
    simp only [← decide_not]
    rfl

end Sys2Proof.Machine

/-!
PROOF. The averager of a track as its sweeps start and end (R149, R156 to R160).
-/

namespace Sys2Proof.Machine

section
variable {t : Track} {q : Nat} {s : State}

theorem averagerSweepStart_takes {coasted : Bool} (region : (s.averager t).region ≠ none)
    (idle : (s.averager t).publication = none) (taken : coasted = false ∨ (s.averager t).includeCoasted = true) :
    averagerSweepStart t q coasted s = s.putAverager t { s.averager t with current := some q } := by
  have qualifies : ((s.averager t).region.isSome && (s.averager t).publication.isNone &&
      (!coasted || (s.averager t).includeCoasted)) = true := by
    rw [idle, Option.isSome_iff_ne_none.mpr region]
    rcases taken with e | e <;> simp [e]
  unfold averagerSweepStart
  simp only
  rw [if_pos qualifies]

theorem averagerSweepStart_ignores {coasted : Bool} (fails : (s.averager t).region = none ∨
      (s.averager t).publication ≠ none ∨ coasted = true ∧ (s.averager t).includeCoasted = false) :
    averagerSweepStart t q coasted s = s.putAverager t { s.averager t with current := none } := by
  have unqualified : ¬ ((s.averager t).region.isSome && (s.averager t).publication.isNone &&
      (!coasted || (s.averager t).includeCoasted)) = true := by
    rcases fails with e | e | ⟨e, e'⟩
    · simp [e]
    · simp [e]
    · simp [e, e']
  unfold averagerSweepStart
  simp only
  rw [if_neg unqualified]

theorem averagerSweepRemoved_other (h : (s.averager t).current ≠ some q) : averagerSweepRemoved t q s = s := if_neg h

theorem averagerSweepRemoved_current (h : (s.averager t).current = some q) :
    averagerSweepRemoved t q s = restartBlock t s := if_pos h

theorem restartBlock_averager_same {g : Region} (region : (s.averager t).region = some g) :
    (restartBlock t s).averager t = (s.averager t).restart := by
  rw [restartBlock_only region]
  exact State.averager_putAverager_same _ _ _

theorem restartBlock_averager_other {k : Track} (ne : k ≠ t) : (restartBlock t s).averager k = s.averager k := by
  cases region : (s.averager t).region with
  | none => rw [restartBlock_of_disabled region]
  | some g =>
    rw [restartBlock_only region]
    exact State.averager_putAverager_other _ _ ne.symm

/-- A block restart changes the averagers and the averager RAM alone. -/
theorem restartBlock_outside {g : Region} (region : (s.averager t).region = some g) :
    restartBlock t s = (s.setAveragers (restartBlock t s).averagers).setAveragerRam (restartBlock t s).averagerRam := by
  rw [restartBlock_only region]
  rfl

/-! ## The publication and the active READ_MEAN (R149, R160) -/

theorem Read.ofMean_iff {x : Read} : x.ofMean t = true ↔ x.kind = .mean ∧ x.track = t := by
  unfold Read.ofMean
  cases x.kind <;> simp

theorem overtakeActiveMean_spares (spared : ∀ x rest, s.readout.queue = x :: rest → x.kind ≠ .mean ∨ x.track ≠ t) :
    overtakeActiveMean t s = s := by
  unfold overtakeActiveMean
  cases queue : s.readout.queue with
  | nil => rfl
  | cons x rest =>
    refine if_neg fun mean => ?_
    obtain ⟨kind, track⟩ := Read.ofMean_iff.mp mean
    exact (spared x rest queue).elim (· kind) (· track)

theorem overtakeActiveMean_ends {x : Read} {rest : List Read} (queue : s.readout.queue = x :: rest) (kind : x.kind = .mean)
    (track : x.track = t) : overtakeActiveMean t s = s.setReadout
      { queue := rest,
        ended := s.readout.ended ++
          [{ tag := x.tag, mean := true, position := x.firstPos + x.delivered, status := .overtaken,
             delivered := x.delivered }] } := by
  unfold overtakeActiveMean
  rw [queue]
  refine (if_pos (Read.ofMean_iff.mpr ⟨kind, track⟩)).trans ?_
  unfold Read.ending
  rw [kind]
  rfl

theorem countSweep_averager : (countSweep t q s).averager t =
    { s.averager t with current := none, blockCount := (s.averager t).blockCount + 1, blockLast := some q } :=
  State.averager_putAverager_same s t _

theorem countSweep_eq : countSweep t q s =
    (s.putAverager t
      { s.averager t with
        current := none, blockCount := (s.averager t).blockCount + 1, blockLast := some q }).putRecords t
      ((s.records t).map (fun x => if x.seq = q then { x with averaged := true } else x)) := rfl

/-- The publication that the K-th sweep begins. -/
theorem beginPublication_countSweep : beginPublication t q (countSweep t q s) =
    overtakeActiveMean t ((countSweep t q s).putAverager t
      { s.averager t with
        current := none, blockCount := 0, blockLast := some q, publication := some { next := 0, last := q },
        published := false }) := by
  unfold beginPublication
  rw [countSweep_averager]

end

/-- Settles O49. -/
theorem averagerQualifiesCountsAndPublishes : Obligations.AveragerQualifiesCountsAndPublishes := by
  rintro t seq s a rfl
  refine ⟨fun coasted => ⟨averagerSweepStart_takes, averagerSweepStart_ignores⟩, fun other =>
    ⟨averagerSweepRemoved_other other, fun spoiled => averagerSweepEnd_other spoiled other⟩, fun current => ?_⟩
  rw [averagerSweepRemoved_current current]
  refine ⟨averagerSweepEnd_spoiled current, restartBlock_of_disabled, fun g region =>
    ⟨restartBlock_averager_same region, restartBlock_ramWord region, restartBlock_outside region,
      fun k => restartBlock_averager_other⟩, ?_⟩
  rintro y rfl
  rw [averagerSweepEnd_clean current]
  refine ⟨fun few => if_neg few, ?_⟩
  rintro last z rfl
  rw [if_pos last, beginPublication_countSweep]
  exact ⟨fun spared => overtakeActiveMean_spares spared, fun x rest queue kind track =>
    overtakeActiveMean_ends queue kind track⟩

end Sys2Proof.Machine

/-!
PROOF. A publication's means (R160) and the frames of a READ_MEAN (R146).
-/

namespace Sys2Proof.Machine

/-! ## Rounding to nearest (R160) -/

/-- The quotient of a nonnegative number by k with a half added is the nearest integer, a tie going up. -/
theorem div_add_half {m k : Nat} {z : Int} (positive : 0 < k) (near : (2 * (k * z - m)).natAbs ≤ k)
    (tie : (2 * (k * z - m)).natAbs = k → m < (k * z).natAbs) : (((2 * m + k) / (2 * k) : Nat) : Int) = z := by
  have nonneg : 0 ≤ z := by
    by_contra below
    have small : (k : Int) * z ≤ k * (-1) := mul_le_mul_of_nonneg_left (by omega) (by omega)
    omega
  obtain ⟨w, rfl⟩ := Int.eq_ofNat_of_zero_le nonneg
  have product : ((k * w : Nat) : Int) = (k : Int) * (w : Int) := Int.natCast_mul k w
  rw [← product] at near tie
  refine congrArg Nat.cast (Nat.div_eq_of_lt_le ?_ ?_)
  · rw [Nat.mul_left_comm, Nat.mul_comm w k]
    omega
  · rw [Nat.add_mul, Nat.one_mul, Nat.mul_left_comm, Nat.mul_comm w k]
    omega

/-- The integer nearest to n / k, a tie going away from zero. -/
theorem roundNearest_nearest {k : Nat} {n z : Int} (positive : 0 < k) (near : (2 * (k * z - n)).natAbs ≤ k)
    (tie : (2 * (k * z - n)).natAbs = k → n.natAbs < (k * z).natAbs) : roundNearest n k = z := by
  unfold roundNearest
  by_cases nonneg : 0 ≤ n
  · rw [if_pos nonneg]
    obtain ⟨m, rfl⟩ := Int.eq_ofNat_of_zero_le nonneg
    exact div_add_half positive near tie
  · rw [if_neg nonneg]
    have mirror : (k : Int) * -z = -(k * z) := Int.mul_neg _ _
    have up := div_add_half (m := n.natAbs) (k := k) (z := -z) positive (by rw [mirror]; omega) (by rw [mirror]; omega)
    rw [up, Int.neg_neg]

/-! ## A mean is written (R160) -/

section
variable {s : State} {t : Track} {g : Region} {p : Publication}

theorem ramWord_tput (a j : Nat) (v : BitVec 32) (s : State) :
    (s.setAveragerRam (tput s.averagerRam j v)).ramWord a = if a = j then v else s.ramWord a := by
  unfold State.ramWord
  rw [State.setAveragerRam_averagerRam, State.setAveragerRam_epoch, tget_tput]
  split <;> rfl

theorem writeMean_idle (idle : (s.averager t).region = none ∨ (s.averager t).publication = none) : writeMean t s = s := by
  unfold writeMean
  simp only
  rcases idle with e | e
  · rw [e]
  · rw [e]
    split
    · next clash => cases clash
    · rfl

/-- The state with the next mean of a publication in its cell. -/
def meanStored (t : Track) (g : Region) (p : Publication) (s : State) : State :=
  (s.setAveragerRam (tput s.averagerRam (g.base + g.length + p.next)
    (BitVec.ofInt 32 (meanOf s g (s.averager t).k p.next)))).putAverager t
      { s.averager t with publication := some { p with next := p.next + 1 } }

theorem writeMean_publishing (region : (s.averager t).region = some g) (publication : (s.averager t).publication = some p) :
    writeMean t s =
      if g.length ≤ p.next + 1 then completePublication t g p.last (meanStored t g p s) else meanStored t g p s := by
  unfold writeMean meanStored
  simp only [region, publication]

theorem meanStored_ramWord (a : Nat) : (meanStored t g p s).ramWord a =
    if a = g.base + g.length + p.next then BitVec.ofInt 32 (meanOf s g (s.averager t).k p.next) else s.ramWord a :=
  ramWord_tput _ _ _ _

theorem meanStored_averager (k : Track) : (meanStored t g p s).averager k =
    if k = t then { s.averager t with publication := some { p with next := p.next + 1 } } else s.averager k :=
  State.averager_putAverager _ _ _ _

theorem completePublication_ramWord (last a : Nat) : (completePublication t g last s).ramWord a =
    if g.base ≤ a ∧ a < g.base + g.length then 0 else s.ramWord a :=
  ramWord_clearSums g s a

theorem completePublication_averager (last : Nat) (k : Track) : (completePublication t g last s).averager k =
    if k = t then
      { s.averager t with
        publication := none, published := true, pubLast := some last, blockLast := none,
        pubNumber := (s.averager t).pubNumber + 1 }
    else s.averager k :=
  State.averager_putAverager _ _ _ _

theorem completePublication_notices (last : Nat) : (completePublication t g last s).notices =
    s.notices.post (Source.meanReady t) (.meanReady t ((s.averager t).pubNumber + 1) last (s.averager t).k) := rfl

theorem exec_meanWritten {dt : Nat} (free : s.resetHeld = false) :
    exec (.meanWritten dt t) s = .next (writeMean t (elapse dt s)) :=
  exec_of_live (f := writeMean t) free rfl

/-! ## A frame of means is built (R146) -/

variable {y : Read} {rest : List Read}

theorem exec_meanFrameBuilt {dt : Nat} (free : s.resetHeld = false) :
    exec (.meanFrameBuilt dt) s = .next (buildMeanFrame (elapse dt s)) :=
  exec_of_live (f := buildMeanFrame) free rfl

theorem buildMeanFrame_mean (queue : s.readout.queue = y :: rest) (kind : y.kind = .mean)
    (region : (s.averager y.track).region = some g) : buildMeanFrame s =
      if (s.averager y.track).publication = none ∧ (s.averager y.track).published = true ∧ 256 * y.nextFetch < y.count ∧
          y.nextFetch < y.delivered / 256 + 2 then
        s.setReadout { s.readout with
          queue := { y.take (y.frameStart y.nextFetch) (meanSamples s g (256 * y.nextFetch) (y.frameSize y.nextFetch)) with
            nextFetch := y.nextFetch + 1 } :: rest }
      else s := by
  unfold buildMeanFrame setActive
  simp only [queue, kind, region, decide_true, Bool.true_and, Bool.and_eq_true, Option.isNone_iff_eq_none, decide_eq_true_eq,
    and_assoc]
  rfl

theorem meanSamples_length (start n : Nat) : (meanSamples s g start n).length = n := by
  unfold meanSamples
  rw [List.length_map, List.length_range]

theorem meanSamples_getElem {start n i : Nat} (hi : i < n) : (meanSamples s g start n)[i]? =
    some { value := (s.ramWord (g.base + g.length + start + i)).toInt, damaged := false } := by
  unfold meanSamples
  rw [List.getElem?_map, List.getElem?_range hi]
  rfl

/-- The samples of a READ_MEAN once a frame has been built. -/
theorem take_meanSamples (whole : y.firstPos = 0) (q : Nat) :
    tget (y.take (y.frameStart y.nextFetch) (meanSamples s g (256 * y.nextFetch) (y.frameSize y.nextFetch))).samples q =
      if 256 * y.nextFetch ≤ q ∧ q < 256 * y.nextFetch + 256 ∧ q < y.count then
        some { value := (s.ramWord (g.base + g.length + q)).toInt, damaged := false }
      else tget y.samples q := by
  rw [Read.take_samples, meanSamples_length]
  unfold Read.frameStart Read.frameSize
  rw [whole]
  by_cases inside : 256 * y.nextFetch ≤ q ∧ q < 256 * y.nextFetch + 256 ∧ q < y.count
  · rw [if_pos inside, if_pos (by omega), meanSamples_getElem (by omega)]
    have place : g.base + g.length + 256 * y.nextFetch + (q - (0 + 256 * y.nextFetch)) = g.base + g.length + q := by omega
    rw [place]
  · rw [if_neg inside, if_neg (by omega)]

end

/-- Settles O50. -/
theorem meansAreWrittenThenBuilt : Obligations.MeansAreWrittenThenBuilt := by
  refine ⟨fun dt t s free => ⟨fun idle => ?_, fun g p z region publication two inside near tie => ?_⟩,
    fun dt s y rest g free queue kind whole region => ⟨fun stays => ?_, fun idle published left room => ?_⟩⟩
  · rw [exec_meanWritten free, writeMean_idle (s := elapse dt s) idle]
  · have mean : meanOf (elapse dt s) g ((elapse dt s).averager t).k p.next = z :=
      roundNearest_nearest (by rw [elapse_averager]; omega) near tie
    have run := exec_meanWritten (dt := dt) (t := t) free
    rw [writeMean_publishing (s := elapse dt s) region publication] at run
    refine ⟨_, run, fun more => ?_, fun last => ?_, ?_⟩
    · rw [if_neg (by omega)]
      refine ⟨fun a => ?_, ?_, rfl⟩
      · rw [meanStored_ramWord, mean]
        rfl
      · rw [meanStored_averager, if_pos rfl]
        rfl
    · rw [if_pos (by omega)]
      refine ⟨fun a => ?_, ?_, ?_⟩
      · rw [completePublication_ramWord, meanStored_ramWord, mean]
        rfl
      · rw [completePublication_averager, if_pos rfl, meanStored_averager, if_pos rfl]
        rfl
      · rw [completePublication_notices, meanStored_averager, if_pos rfl]
        rfl
    · split
      · refine ⟨fun k ne => ?_, rfl, rfl, rfl⟩
        rw [completePublication_averager, if_neg ne, meanStored_averager, if_neg ne]
        rfl
      · refine ⟨fun k ne => ?_, rfl, rfl, rfl⟩
        rw [meanStored_averager, if_neg ne]
        rfl
  · rw [exec_meanFrameBuilt free, buildMeanFrame_mean (s := elapse dt s) queue kind region, if_neg]
    simp only [elapse_averager]
    rintro ⟨idle, published, left, room⟩
    rcases stays with busy | absent | done | ahead
    · exact busy idle
    · rw [published] at absent
      cases absent
    · omega
    · omega
  · refine ⟨_, (exec_meanFrameBuilt free).trans ?_, take_meanSamples (s := s) (g := g) whole⟩
    rw [buildMeanFrame_mean (s := elapse dt s) queue kind region, if_pos ⟨idle, published, left, room⟩]
    rfl

end Sys2Proof.Machine
